-- ==== Sys2Proof/Word.lean ====
section
/-! DEFINITION. The words of the branches and of the console port, and tables of a fixed number of like records.
A byte, a two-byte field and the three-byte tune offset are what the manual treats as bits (R187); a table is a
plain vector addressed by a bounded number (section 4.6 of spec/00_scope.md gives the numbering of every thing). -/

namespace Sys2Proof

/-- One byte of a frame, a request or a response (R187). -/
abbrev Byte := BitVec 8

/-- A field of two bytes, most significant first (R187). -/
abbrev Word := BitVec 16

/-- The tune offset, the one field of three bytes (R187). -/
abbrev Word24 := BitVec 24

/-- A table of `n` records of one kind, numbered from 0. -/
abbrev Table (α : Type) (n : Nat) := Vector α n

namespace Table

/-- The record numbered `i`. -/
def read {α : Type} {n : Nat} (t : Table α n) (i : Fin n) : α := Vector.get t i

/-- The table with the record numbered `i` replaced. -/
def write {α : Type} {n : Nat} (t : Table α n) (i : Fin n) (x : α) : Table α n := Vector.set t i.val x i.isLt

/-- The table with the record numbered `i` changed by `f`. -/
def change {α : Type} {n : Nat} (t : Table α n) (i : Fin n) (f : α → α) : Table α n := write t i (f (read t i))

/-- Every record with its number, in ascending order of the number. -/
def entries {α : Type} {n : Nat} (t : Table α n) : List (Fin n × α) := (List.finRange n).zip (Vector.toList t)

/-- The numbers of the records that `p` holds of, ascending. -/
def numbersWith {α : Type} {n : Nat} (t : Table α n) (p : α → Bool) : List (Fin n) :=
  (entries t).filterMap fun e => if p e.2 then some e.1 else none

/-- The lowest number whose record `p` holds of. -/
def lowestWith {α : Type} {n : Nat} (t : Table α n) (p : α → Bool) : Option (Fin n) :=
  ((entries t).find? fun e => p e.2).map Prod.fst

/-- How many records `p` holds of. -/
def countWith {α : Type} {n : Nat} (t : Table α n) (p : α → Bool) : Nat := (Vector.toList t).countP p

/-- Every record changed by `f`. -/
def each {α : Type} {n : Nat} (t : Table α n) (f : α → α) : Table α n := Vector.map f t

/-- A table whose records are all `x`. -/
def filled {α : Type} (n : Nat) (x : α) : Table α n := Vector.replicate n x

end Table

end Sys2Proof
end

