-- ==== Sys2Proof/Config.lean ====
section
/-! DEFINITION. What the part fixes (the sizes and limits of the manual, sections 4.1 to 4.6 of spec/00_scope.md and the
rules named below) and the values the manual leaves open: opaque constants, of which nothing can be proved. -/

namespace Sys2Proof.Config

/-- The grid has the indices 0 to 9119 (R1). -/
def gridSize : Nat := 9120

/-- The 24-bit limit of a tune word (R63). -/
def tuneLimit : Nat := 16777215

/-- The request queue never holds more than 24 requests (R65). -/
def queueCapacity : Nat := 24

/-- The exclusion list holds up to 32 bands (R14). -/
def bandCapacity : Nat := 32

/-- The foreign list holds up to 32 entries (R145). -/
def foreignCapacity : Nat := 32

/-- A notice queue holds up to 8 notices (R168). -/
def noticeCapacity : Nat := 8

/-- A frame's body has at most 40 bytes (R154). -/
def maxBody : Nat := 40

/-- A label holds up to 12 characters (R23). -/
def labelCapacity : Nat := 12

/-- A request or a poll fails to SILENT at the fourth failure (R162). -/
def failureLimit : Nat := 4

/-- A SILENT station is due when the round count is a multiple of 8 (R159). -/
def silentEvery : Nat := 8

/-- The number that stands for an absent index or slot in a record (R188). -/
def absentWord : Nat := 65535

/-- The number that stands for an absent owner station or channel in a record (R188, R193). -/
def absentByte : Nat := 255

/-- The guards lie in 0 to 40 (R18). -/
def guardLimit : Nat := 40

/-- A byte or a pair of bytes whose value the manual does not state, the `k`th that the part has clocked out:
READ SWEEP's last level while there is no last result (R191), READ RESULT's count with another outcome than
COUNT (R193). DESIGN CHOICE, log entry 15: nothing constrains it. -/
opaque freeValue : Nat → Word

/-- The level that a conversion gives when the converter's references are not in the order section 10.6 requires
and both clauses of R194 for the ends of the range apply. DESIGN CHOICE, log entry 16: nothing constrains it. -/
opaque levelOutsideReferences : Nat → Byte

/-- The level of TUNE_DATA while the latch pulse of a tune word is high, which R194 does not state. DESIGN CHOICE, log
entry 35: nothing constrains it. -/
opaque tuneDataAtLatch : Nat → Bool

end Sys2Proof.Config
end

