-- ==== Sys2Proof/Syntax.lean ====
section
/-! DEFINITION. The commands the block takes, one constructor per row of spec/opcode_table.json. A console request carries
its parameters as R191 lays them out (one byte, two bytes or three); an event names the branch, station record, slot or
zone it is taken at, and carries what comes in from the line or the converter. -/

namespace Sys2Proof

/-- The level of a branch's receive line. -/
inductive LineLevel where
  | mark
  | space
  deriving DecidableEq, Repr

/-- A character as the receiver sees it on the line (R152): the ten bits after its start bit in the order in which they
come, the first of them bit 0, each 1 at mark and 0 at space. -/
structure RxChar where
  bits : BitVec 10
  deriving DecidableEq, Repr

/-- The commands: console requests, link events, ticks, engine events and sweep events. -/
inductive Instr where
  /-- HARDWARE_RESET (R43). -/
  | hardwareReset
  /-- WRITE_PROFILE (R6). -/
  | writeProfile (profile state : Byte) (low high : Word) (step c p3 p5 : Byte)
  /-- WRITE_PROFILE_UNDEFINED (R8). -/
  | writeProfileUndefined (profile : Byte) (low high : Word) (step c p3 p5 : Byte)
  /-- READ_PROFILE (R5). -/
  | readProfile (profile : Byte)
  /-- WRITE_ZONE (R10). -/
  | writeZone (zone : Byte) (zlo zhi : Word) (depth spareProfile : Byte) (clearTime : Word)
  /-- READ_ZONE (R11). -/
  | readZone (zone : Byte)
  /-- WRITE_COUPLING (R13). -/
  | writeCoupling (a b value : Byte)
  /-- READ_COUPLING (R12). -/
  | readCoupling (a b : Byte)
  /-- ADD_EXCLUSION (R15). -/
  | addExclusion (lo hi : Word)
  /-- REMOVE_EXCLUSION (R16). -/
  | removeExclusion (lo hi : Word)
  /-- LIST_EXCLUSIONS (R17). -/
  | listExclusions
  /-- WRITE_GUARDS (R18). -/
  | writeGuards (g fg : Byte)
  /-- READ_GUARDS (R18). -/
  | readGuards
  /-- WRITE_TIME_BASE (R95). -/
  | writeTimeBase (code : Byte)
  /-- WRITE_LEASE (R97). -/
  | writeLease (period : Byte)
  /-- WRITE_HOLD (R97). -/
  | writeHold (hold : Word)
  /-- WRITE_MOVE_TIME (R97). -/
  | writeMoveTime (ticks : Byte)
  /-- WRITE_DEFER (R69). -/
  | writeDefer (upper lower : Byte)
  /-- READ_TIMING (R175). -/
  | readTiming
  /-- WRITE_STATION (R166). -/
  | writeStation (record branch address zone ceiling authority : Byte)
  /-- REMOVE_STATION (R167). -/
  | removeStation (record : Byte)
  /-- READ_STATION (R167). -/
  | readStation (record : Byte)
  /-- WRITE_BRANCH (R155). -/
  | writeBranch (branch rate turnoff window gap debounce : Byte)
  /-- READ_BRANCH (R155). -/
  | readBranch (branch : Byte)
  /-- BRANCH_ENABLE (R156). -/
  | branchEnable (branch : Byte)
  /-- BRANCH_DISABLE (R156). -/
  | branchDisable (branch : Byte)
  /-- PIN (R33), with the check flag as carried. -/
  | pin (index : Word) (profile zone checkFlag : Byte) (label : List Byte)
  /-- CHECKED_PIN (R72): PIN with the check flag set. -/
  | checkedPin (index : Word) (profile zone : Byte) (label : List Byte)
  /-- RETIRE (R37). -/
  | retire (slot : Word)
  /-- READ_ENTRY (R41). -/
  | readEntry (slot : Word)
  /-- READ_ENTRIES (R181). -/
  | readEntries (start : Word) (n : Byte)
  /-- READ_COUNTS (R182). -/
  | readCounts
  /-- CHANGEOVER (R117). -/
  | changeover (zone force : Byte)
  /-- CHECK (R72). -/
  | check (index : Word) (profile zone : Byte)
  /-- AUDIT (R72). -/
  | audit
  /-- READ_RESULT (R180). -/
  | readResult
  /-- WRITE_SWEEP (R135). -/
  | writeSweep (lo hi : Word) (step settle threshold hysteresis k m e gap : Byte) (offset : Word24) (scale : Byte)
  /-- READ_SWEEP (R134). -/
  | readSweep
  /-- SWEEP_START (R136). -/
  | sweepStart
  /-- SWEEP_STOP (R136). -/
  | sweepStop
  /-- READ_FOREIGN (R145). -/
  | readForeign
  /-- DROP_FOREIGN (R150). -/
  | dropForeign (index : Word)
  /-- START (R176). -/
  | start
  /-- STOP (R177). -/
  | stop
  /-- CLEAR (R178). -/
  | clear
  /-- READ_ATTENTION (R184). -/
  | readAttention
  /-- WRITE_MASK (R185). -/
  | writeMask (mask : Byte)
  /-- UNKNOWN_REQUEST_CODE (R173). -/
  | unknownRequestCode (code : Byte)
  /-- CHIP_SELECT_RELEASED_EARLY (R174), with the bytes that had been received whole. -/
  | chipSelectReleasedEarly (received : List Byte)
  /-- TICK (R94). -/
  | tick
  /-- LEASE_COUNTER_DECREMENT (R100): the tick is taken at a station's lease counter. -/
  | leaseCounterDecrement (station : Fin 48)
  /-- LAPSE (R101). -/
  | lapse (station : Fin 48)
  /-- HOLD_COUNTER_DECREMENT (R103): the tick is taken at a slot's hold counter. -/
  | holdCounterDecrement (slot : Fin 384)
  /-- HOLD_EXPIRY (R104). -/
  | holdExpiry (slot : Fin 384)
  /-- MOVE_COUNTER_DECREMENT (R113): the tick is taken at a slot's move counter. -/
  | moveCounterDecrement (slot : Fin 384)
  /-- MOVE_LAPSE (R113). -/
  | moveLapse (slot : Fin 384)
  /-- CLEAR_TIMER_DECREMENT (R123): the tick is taken at a zone's clear timer. -/
  | clearTimerDecrement (zone : Fin 16)
  /-- CLEAR_TIMER_EXPIRY (R123). -/
  | clearTimerExpiry (zone : Fin 16)
  /-- POLL (R160). -/
  | poll (branch : Fin 4)
  /-- TURNOFF_DELAY_END (R153). -/
  | turnoffDelayEnd (branch : Fin 4)
  /-- REPLY_ACCEPTED (R163), with the character that ends the reply. -/
  | replyAccepted (branch : Fin 4) (char : RxChar)
  /-- REPLY_WINDOW_EXPIRED (R161). -/
  | replyWindowExpired (branch : Fin 4)
  /-- REPLY_GAP_TIMEOUT (R161). -/
  | replyGapTimeout (branch : Fin 4)
  /-- REPLY_FAILED (R162), with the character that breaks a condition. -/
  | replyFailed (branch : Fin 4) (char : RxChar)
  /-- QUIET_WAIT_END (R162). -/
  | quietWaitEnd (branch : Fin 4)
  /-- STRAY_CHARACTER (R160), with the character seen. -/
  | strayCharacter (branch : Fin 4) (char : RxChar)
  /-- ROUND_GAP_END (R159). -/
  | roundGapEnd (branch : Fin 4)
  /-- BRANCH_FAULT (R157). -/
  | branchFault (branch : Fin 4)
  /-- BRANCH_FAULT_RECOVERY (R157). -/
  | branchFaultRecovery (branch : Fin 4)
  /-- VALID_REPLY_NOTICE (R99). -/
  | validReplyNotice (station : Fin 48)
  /-- ENGINE_TAKE (R66). -/
  | engineTake
  /-- CANDIDATE_EVALUATION (R74). -/
  | candidateEvaluation
  /-- SEARCH_COMPLETION (R75). -/
  | searchCompletion
  /-- RE_TEST (R76). -/
  | reTest
  /-- CHECKED_PIN_COMPLETION (R89). -/
  | checkedPinCompletion
  /-- AUDIT_VISIT (R90). -/
  | auditVisit
  /-- TUNE_LATCH (R138). -/
  | tuneLatch
  /-- SETTLE_END (R138). -/
  | settleEnd
  /-- CONVERSION_COMPLETE (R139), with the three voltages at the converter counted in one common unit (R194). -/
  | conversionComplete (rssi refLow refHigh : Nat)
  /-- PASS_GAP_END (R137). -/
  | passGapEnd
  /-- REPLY_CHARACTER_RECEIVED (R161), with the character received. -/
  | replyCharacterReceived (branch : Fin 4) (char : RxChar)
  /-- LINE_TRANSITION (R157), with the level the receive line has changed to. -/
  | lineTransition (branch : Fin 4) (level : LineLevel)
  deriving DecidableEq, Repr

end Sys2Proof
end

