-- ==== Sys2Proof/Machine/State.lean ====
section
/-! DEFINITION. Everything the spec gives the part, as plain data: the blocks of section 3.2 of spec/00_scope.md, each a
structure, and the state after hardware reset. INVENTORY.md, '## State', lists every field with its rule. -/

namespace Sys2Proof.Machine

/-! ## The plan (chapter 1) -/

/-- A profile record (R5). -/
structure Profile where
  defined : Bool
  low : Nat
  high : Nat
  step : Nat
  c : Nat
  p3 : Nat
  p5 : Nat
  deriving DecidableEq, Repr

/-- The plan settings of a zone (R9). -/
structure ZonePlan where
  zlo : Nat
  zhi : Nat
  depth : Nat
  spareProfile : Fin 16
  clearTime : Nat
  deriving DecidableEq, Repr

/-- The relation between two zones (R12). -/
inductive Coupling where
  | isolated
  | near
  | shared
  deriving DecidableEq, Repr

/-- An exclusion band lo..hi (R14). -/
structure Band where
  lo : Nat
  hi : Nat
  deriving DecidableEq, Repr

/-- The Plan Store. -/
structure Plan where
  profiles : Table Profile 16
  zones : Table ZonePlan 16
  coupling : Table (Table Coupling 16) 16
  exclusions : List Band
  g : Nat
  fg : Nat
  deriving DecidableEq, Repr

/-! ## Counters that the tick reaches (R96) -/

/-- A running counter: its count, and the ticks issued that have not yet been taken at it (log entry 4). -/
structure TickCounter where
  count : Nat
  owed : Nat
  deriving DecidableEq, Repr

/-! ## The Grant Table (chapter 2) -/

/-- The phase of an owned slot (R22). -/
inductive Phase where
  | live
  | next
  | ending
  deriving DecidableEq, Repr

/-- An owned slot is ACTIVE, or STALE with the hold counter it may have (R20, R26). -/
inductive OwnedState where
  | active
  | stale (hold : Option TickCounter)
  deriving DecidableEq, Repr

/-- An open move: the pending index and the move counter, present together (R24). -/
structure MoveWindow where
  pending : Nat
  counter : TickCounter
  deriving DecidableEq, Repr

/-- The record of an ACTIVE or STALE slot (R20). A label of length 0 is an absent label (R23). -/
structure Owned where
  state : OwnedState
  frequency : Nat
  move : Option MoveWindow
  profile : Fin 16
  zone : Fin 16
  station : Fin 48
  channel : Fin 64
  phase : Phase
  label : List Byte
  suspect : Option Nat
  conflict : Bool
  deriving DecidableEq, Repr

/-- The record of a PINNED slot (R20). -/
structure Pinned where
  frequency : Nat
  profile : Fin 16
  zone : Fin 16
  label : List Byte
  suspect : Option Nat
  conflict : Bool
  deriving DecidableEq, Repr

/-- The record of a SPARE slot (R20). -/
structure Spare where
  frequency : Nat
  profile : Fin 16
  zone : Fin 16
  conflict : Bool
  deriving DecidableEq, Repr

/-- A slot: FREE, or the record that its state gives it (R20). -/
inductive Slot where
  | free
  | owned (o : Owned)
  | pinned (p : Pinned)
  | spare (r : Spare)
  deriving DecidableEq, Repr

/-! ## The Search Engine (chapters 3 and 4) -/

/-- A station REQUEST as queued (R65). -/
structure RequestWork where
  station : Fin 48
  channel : Fin 64
  profile : Fin 16
  phase : Phase
  hint : Option Nat
  label : List Byte
  deriving DecidableEq, Repr

/-- A station MOVE as queued (R65). -/
structure MoveWork where
  station : Fin 48
  channel : Fin 64
  slot : Fin 384
  profile : Fin 16
  zone : Fin 16
  deriving DecidableEq, Repr

/-- A console CHECK as queued (R65). -/
structure CheckWork where
  index : Nat
  profile : Fin 16
  zone : Fin 16
  deriving DecidableEq, Repr

/-- A checked PIN as queued (R65). -/
structure PinWork where
  index : Nat
  profile : Fin 16
  zone : Fin 16
  label : List Byte
  deriving DecidableEq, Repr

/-- An entry of the request queue (R65). -/
inductive Work where
  | request (w : RequestWork)
  | move (w : MoveWork)
  | check (w : CheckWork)
  | pin (w : PinWork)
  | audit
  deriving DecidableEq, Repr

/-- The order of a walk as it was formed at its start, and its cursor (R50). The aligned indices are lowest + k × step
for k below count; start is the place of the snapped hint among them; cursor is how many places of the order
have been visited. -/
structure Walk where
  lowest : Nat
  step : Nat
  count : Nat
  start : Option Nat
  cursor : Nat
  deriving DecidableEq, Repr

/-- The point a search has reached (R74 to R77, R84): walking; awaiting the completion of its walk with a found candidate;
its re-test due; awaiting the completion of its re-test. -/
inductive Stage where
  | walking
  | found (f : Nat)
  | retestDue (f : Nat)
  | retested (f : Nat)
  deriving DecidableEq, Repr

/-- What a search context holds (R73). -/
structure SearchContext where
  e0 : Word
  moved : Bool
  research : Nat
  walk : Walk
  stage : Stage
  deriving DecidableEq, Repr

/-- The work in the foreground context (R66, R73, R89, R90). -/
inductive Foreground where
  | request (w : RequestWork) (c : SearchContext)
  | move (w : MoveWork) (c : SearchContext)
  | pin (w : PinWork) (c : SearchContext)
  | audit (next : Nat) (flagged : Nat)
  deriving DecidableEq, Repr

/-- The spare refill in the background context (R82, R84). -/
structure Refill where
  zone : Fin 16
  context : SearchContext
  deriving DecidableEq, Repr

/-- The Search Engine: the request queue in the order it is served (by class, oldest first within a class), the two
contexts, the barred set (R87), the DEFER thresholds and the DEFER flag (R68, R69). -/
structure Engine where
  queue : List Work
  foreground : Option Foreground
  background : Option Refill
  barred : Table Bool 16
  upper : Nat
  lower : Nat
  defer : Bool
  deriving DecidableEq, Repr

/-! ## The Lease Timer's settings (R95, R97) -/

/-- The four tick periods (R94). -/
inductive TickPeriod where
  | ms250
  | ms500
  | s1
  | s2
  deriving DecidableEq, Repr

/-- The timing values of the Lease Timer. -/
structure Timing where
  period : TickPeriod
  lease : Nat
  hold : Nat
  moveTime : Nat
  deriving DecidableEq, Repr

/-! ## The Zone Phase Control (chapter 6) -/

/-- A zone is CLEARING while it has a clear timer and STEADY otherwise (R116); its spare list, head first (R127). -/
structure ZoneState where
  clearing : Option TickCounter
  spares : List (Fin 384)
  deriving DecidableEq, Repr

/-! ## The Station Table (chapter 8) -/

/-- The reason of a refusal to a station (R188). -/
inductive RefuseReason where
  | profile
  | window
  | ceiling
  | full
  | busy
  | noneFound
  | retry
  | unknownChannel
  | phase
  | notMoving
  | authority
  deriving DecidableEq, Repr

/-- The cause that a RETIRED notice carries (R188). -/
inductive RetireCause where
  | operator
  | holdExpired
  | cleared
  | forced
  deriving DecidableEq, Repr

/-- An answer to a station frame (R190). The channel of a refusal is a byte: it may repeat a channel byte above 63
(R164) or be 255 (R190). -/
inductive Answer where
  | granted (channel : Fin 64) (index : Nat) (existing : Bool)
  | moveTo (channel : Fin 64) (index : Nat)
  | confirmed (channel : Fin 64) (index : Nat)
  | released (channel : Fin 64)
  | status (channel : Fin 64) (frequency : Nat) (phase : Phase) (stale : Bool) (pending : Option Nat) (suspect : Bool)
  | changedOver (zone : Fin 16)
  | refused (channel : Byte) (reason : RefuseReason)
  deriving DecidableEq, Repr

/-- A notice (R169, R190). -/
inductive Notice where
  | moveAdvised (channel : Fin 64) (foreign : Nat)
  | moveLapsed (channel : Fin 64)
  | retired (channel : Fin 64) (cause : RetireCause)
  | phaseChanged (zone : Fin 16)
  deriving DecidableEq, Repr

/-- A notice in a queue, marked while it is the very item that the station's last poll carried (R160, R171). -/
structure QueuedNotice where
  notice : Notice
  carried : Bool
  deriving DecidableEq, Repr

/-- The link state of a station (R165). -/
inductive LinkState where
  | unknown
  | present
  | silent
  deriving DecidableEq, Repr

/-- The lease state of a station (R98). -/
inductive LeaseState where
  | current
  | lapsed
  deriving DecidableEq, Repr

/-- A present station record (R165). resyncCarried marks the resync flag as the one that the last poll carried and that
nothing has set anew since (R171); validReplies counts the accepted replies whose notice the Lease Timer has not yet
taken (R163, step 4). -/
structure Station where
  branch : Fin 4
  address : Nat
  zone : Fin 16
  ceiling : Nat
  authority : Bool
  link : LinkState
  failures : Nat
  leaseState : LeaseState
  lease : TickCounter
  held : Nat
  openRequest : Bool
  answers : List Answer
  notices : List QueuedNotice
  resync : Bool
  resyncCarried : Bool
  validReplies : Nat
  deriving DecidableEq, Repr

/-! ## The Branch Controllers (chapter 8) -/

/-- The bit rates (R152). -/
inductive Rate where
  | b38400
  | b115200
  | b230400
  | b460800
  deriving DecidableEq, Repr

/-- The turnoff delays in bit times (R153). -/
inductive Turnoff where
  | bits0
  | bits1
  | bits2
  | bits4
  deriving DecidableEq, Repr

/-- The states of a branch (R156). -/
inductive BranchState where
  | disabled
  | running
  | faulted
  deriving DecidableEq, Repr

/-- The item a poll carries (R160). -/
inductive PollItem where
  | nothing
  | answer (a : Answer)
  | resync
  | notice (n : Notice)
  deriving DecidableEq, Repr

/-- The controller's note of the poll in progress: the station as recorded when the poll was formed, and the item
(R160, R161). stationGone is set when that record is removed or moved to another branch or address. -/
structure Poll where
  station : Fin 48
  address : Nat
  item : PollItem
  stationGone : Bool
  deriving DecidableEq, Repr

/-- What a branch's controller is doing: nothing; about to form the next poll of a round, above the address last polled
(0 at a round's start); sending a poll; listening for its reply, with the data values of the reply's characters so far
and whether a start bit has been seen since the last of them; waiting for a quiet line; in the round gap, which
advances the round count at its end or, after the return from FAULTED, does not (R157, R159 to R162). -/
inductive Activity where
  | idle
  | inRound (last : Nat)
  | sending (p : Poll)
  | listening (p : Poll) (received : List Byte) (startSeen : Bool)
  | quiet (last : Nat)
  | gap (advances : Bool)
  deriving DecidableEq, Repr

/-- A character that the part sends: eight data bits and the mark bit (R152, R154). -/
structure TxChar where
  data : Byte
  mark : Bool
  deriving DecidableEq, Repr

/-- A branch: the five settings (R155), the state (R156), the round count (R159), the controller's activity, TXEN
(R153), the level of the receive line, the fault watch's runs of space and of mark (R157), and the characters
of the poll last sent with their mark bits (R154, R160), which is what the transmit pin gave out. -/
structure Branch where
  rate : Rate
  turnoff : Turnoff
  window : Nat
  gap : Nat
  debounce : Nat
  state : BranchState
  roundCount : Byte
  activity : Activity
  txen : Bool
  line : LineLevel
  spaceRun : Bool
  markRun : Bool
  txFrame : List TxChar
  deriving DecidableEq, Repr

/-! ## The Sweep Unit (chapter 7) -/

/-- The stage of the present point, or the gap between passes (R134). While TUNING the tune word is being shifted out. -/
inductive PointActivity where
  | tuning (word : Nat)
  | settling
  | converting
  | gap
  deriving DecidableEq, Repr

/-- The sweep configuration (R135). -/
structure SweepConfig where
  lo : Nat
  hi : Nat
  step : Nat
  settle : Nat
  threshold : Nat
  hysteresis : Nat
  k : Nat
  m : Nat
  e : Nat
  gap : Nat
  offset : Nat
  scale : Nat
  deriving DecidableEq, Repr

/-- An entry of the foreign list (R145). -/
structure ForeignEntry where
  index : Nat
  confirmed : Bool
  peak : Nat
  hits : Nat
  misses : Nat
  deriving DecidableEq, Repr

/-- The Sweep Unit: OFF while it has no point activity (R134). latched is the last word given to the scanning receiver by
the latch pulse (R138), which the receiver keeps through a reset (R151). -/
structure Sweep where
  activity : Option PointActivity
  cursor : Nat
  last : Option (Nat × Nat)
  config : SweepConfig
  foreign : List ForeignEntry
  latched : Option Nat
  deriving DecidableEq, Repr

/-! ## The Console Port (chapter 9) -/

/-- The mode of the part. -/
inductive Mode where
  | config
  | run
  deriving DecidableEq, Repr

/-- The first test that a candidate fails, with its evidence (R54, R62). -/
inductive TestFailure where
  | t1
  | t2 (band : Nat)
  | t3 (index : Nat)
  | t4 (slot : Fin 384)
  | t5 (a b : Fin 384)
  | t6 (e v : Fin 384)
  deriving DecidableEq, Repr

/-- The kind of console engine work (R179). -/
inductive HostKind where
  | check
  | pin
  | audit
  deriving DecidableEq, Repr

/-- The outcome of console engine work (R179). -/
inductive HostOutcome where
  | pass
  | fail (f : TestFailure)
  | pinned (slot : Fin 384)
  | full
  | retry
  | count (n : Nat)
  | abandoned
  deriving DecidableEq, Repr

/-- The console result record (R179): kind NONE is the absent entry. -/
structure ResultRecord where
  number : Byte
  entry : Option (HostKind × HostOutcome)
  deriving DecidableEq, Repr

/-- The Console Port: mode, the console's open-request flag (R67), the result record, the attention flags and the mask
(R183, R185; bit places of R188), and the response of the last chip-select frame (R172; empty where no status is
given). -/
structure Console where
  mode : Mode
  openRequest : Bool
  result : ResultRecord
  flags : Byte
  mask : Byte
  response : List Byte
  deriving DecidableEq, Repr

/-! ## The whole part -/

/-- The state of the part and the queue of waiting commands. freeUsed counts the free values the part has shown
(Config.freeValue); it is the model's own field (log entry 15). -/
structure State where
  plan : Plan
  slots : Table Slot 384
  epoch : Word
  engine : Engine
  timing : Timing
  zones : Table ZoneState 16
  stations : Table (Option Station) 48
  branches : Table Branch 4
  sweep : Sweep
  console : Console
  freeUsed : Nat
  pending : List Instr
  deriving DecidableEq, Repr

/-- A stop with a fault: the spec names none, every command ends in a next state, so there is no fault to raise. -/
inductive Fault where
  deriving DecidableEq, Repr

/-- A stop without a meaning. -/
inductive Refusal where
  /-- Raised by exec alone, for a command that has no meaning yet. Safe: nothing is claimed of it. No command is left
  without one. -/
  | notModelled (mnemonic : String)
  deriving DecidableEq, Repr

/-! ## Hardware reset (R43, R93, R115, R127, R134, R155, R156, R165, R186 and the tables of chapters 1 and 7) -/

/-- A profile after reset (R5). -/
def Profile.reset : Profile :=
  { defined := false, low := 0, high := 9119, step := 1, c := 1, p3 := 0, p5 := 0 }

/-- A zone's settings after reset (R9). -/
def ZonePlan.reset : ZonePlan := { zlo := 0, zhi := 9119, depth := 0, spareProfile := 0, clearTime := 120 }

/-- The coupling matrix after reset: SHARED on the diagonal, ISOLATED elsewhere (R12). -/
def couplingReset : Table (Table Coupling 16) 16 :=
  Vector.ofFn fun a => Vector.ofFn fun b => if a = b then .shared else .isolated

/-- The plan after reset (R2, R14, R18). -/
def Plan.reset : Plan :=
  { profiles := Table.filled 16 Profile.reset, zones := Table.filled 16 ZonePlan.reset, coupling := couplingReset,
    exclusions := [], g := 4, fg := 8 }

/-- The engine after reset (R93). -/
def Engine.reset : Engine :=
  { queue := [], foreground := none, background := none, barred := Table.filled 16 false, upper := 18, lower := 10,
    defer := false }

/-- The timing values after reset (R97, R115). -/
def Timing.reset : Timing := { period := .s1, lease := 30, hold := 0, moveTime := 60 }

/-- A branch after reset (R155, R156, R158). The line is taken to rest at mark (log entry 5). -/
def Branch.reset : Branch :=
  { rate := .b115200, turnoff := .bits1, window := 4, gap := 10, debounce := 20, state := .disabled, roundCount := 0,
    activity := .idle, txen := false, line := .mark, spaceRun := false, markRun := false, txFrame := [] }

/-- The sweep configuration after reset (R135). -/
def SweepConfig.reset : SweepConfig :=
  { lo := 0, hi := 9119, step := 4, settle := 20, threshold := 64, hysteresis := 6, k := 2, m := 3, e := 2, gap := 50,
    offset := 0, scale := 1 }

/-- The Sweep Unit after reset (R134). -/
def Sweep.reset : Sweep :=
  { activity := none, cursor := 0, last := none, config := SweepConfig.reset, foreign := [], latched := none }

/-- The Console Port after reset (R186). -/
def Console.reset : Console :=
  { mode := .config, openRequest := false, result := { number := 0, entry := none }, flags := 0, mask := 0xFF,
    response := [] }

/-- The part right after power-on reset. -/
def State.reset : State :=
  { plan := Plan.reset, slots := Table.filled 384 .free, epoch := 0, engine := Engine.reset, timing := Timing.reset,
    zones := Table.filled 16 { clearing := none, spares := [] }, stations := Table.filled 48 none,
    branches := Table.filled 4 Branch.reset, sweep := Sweep.reset, console := Console.reset, freeUsed := 0,
    pending := [] }

end Sys2Proof.Machine
end

