-- ==== Sys2Proof/Machine/Flags.lean ====
section
/-! DEFINITION. The attention flags, their mask and ATTN (R183 to R185), and the DEFER flag (R68, R69). -/

namespace Sys2Proof.Machine

/-- The eight attention flags (R183). -/
inductive Attention where
  | engineDone
  | conflict
  | foreignNew
  | foreignFull
  | pinnedSuspect
  | branchFault
  | stationLapsed
  | deferOn
  deriving DecidableEq, Repr

/-- The byte with the flag's bit alone set (R188, "attention bits, bit 0 first"). -/
def attentionBit (a : Attention) : Byte :=
  match a with
  | .engineDone => 0x01
  | .conflict => 0x02
  | .foreignNew => 0x04
  | .foreignFull => 0x08
  | .pinnedSuspect => 0x10
  | .branchFault => 0x20
  | .stationLapsed => 0x40
  | .deferOn => 0x80

/-- Raising a flag sets it and leaves every other as it is (R183). -/
def raise (a : Attention) (s : State) : State :=
  { s with console := { s.console with flags := s.console.flags ||| attentionBit a } }

/-- Whether a flag is set. -/
def flagSet (a : Attention) (s : State) : Bool := s.console.flags &&& attentionBit a ≠ 0

/-- Whether the part drives ATTN low: at least one flag is both set and unmasked (R185; a mask bit at 1 means masked,
R188). -/
def attnLow (s : State) : Bool := s.console.flags &&& ~~~s.console.mask ≠ 0

/-- DEFER when the occupancy has risen, or the thresholds have been written: a clear flag is set, and DEFER_ON raised, at
the upper threshold or above (R68, R69). -/
def deferSet (s : State) : State :=
  if s.engine.defer = false ∧ s.engine.upper ≤ s.engine.queue.length then
    raise .deferOn { s with engine := { s.engine with defer := true } }
  else s

/-- DEFER when the occupancy has fallen, or the thresholds have been written: a set flag is cleared at the lower threshold
or below (R68, R69). -/
def deferClear (s : State) : State :=
  if s.engine.queue.length ≤ s.engine.lower then { s with engine := { s.engine with defer := false } } else s

end Sys2Proof.Machine
end

