-- ==== Sys2Proof/Machine/Operands.lean ====
section
/-! DEFINITION. The parameters of a request as the owning block reads them: numbers and indices within their ranges,
clamped settings, enumerated codes (R188, R192) and labels (R23). -/

namespace Sys2Proof.Machine

/-- The number carried, where it names one of `limit` things (section 4.6 of spec/00_scope.md). -/
def numberBelow (limit n : Nat) : Option (Fin limit) := if h : n < limit then some ⟨n, h⟩ else none

/-- An index of the grid (R1). -/
def onGrid (n : Nat) : Bool := n < Config.gridSize

/-- A pair of edges on the grid in the right order (R6, R10, R15, R16, R135). -/
def edgesValid (lo hi : Nat) : Bool := onGrid lo && onGrid hi && lo ≤ hi

/-- A value taken to the nearer end of its range (section 4.4 of spec/00_scope.md). -/
def clampTo (lo hi n : Nat) : Nat := max lo (min n hi)

/-- The distance of two indices, or of an index and a product (section 4.2). -/
def distance (a b : Int) : Nat := (a - b).natAbs

/-- A step that a profile may have (R5). -/
def stepValid (n : Nat) : Bool := n == 1 || n == 2 || n == 4 || n == 8

/-- A printable character (R23). -/
def printable (b : Byte) : Bool := 32 ≤ b.toNat && b.toNat ≤ 126

/-- The stricter check of a host label (R23, R33, R72). -/
def labelValid (label : List Byte) : Bool := label.length ≤ Config.labelCapacity && label.all printable

/-- The label that an engine grant stores (R23): the first twelve characters, unprintable ones as "?". -/
def grantLabel (label : List Byte) : List Byte :=
  (label.take Config.labelCapacity).map fun b => if printable b then b else 63

/-- A coupling code (R188). -/
def couplingOfCode (n : Nat) : Option Coupling :=
  match n with
  | 0 => some .isolated
  | 1 => some .near
  | 2 => some .shared
  | _ => none

/-- A time base code (R188). -/
def periodOfCode (n : Nat) : Option TickPeriod :=
  match n with
  | 0 => some .ms250
  | 1 => some .ms500
  | 2 => some .s1
  | 3 => some .s2
  | _ => none

/-- A rate code (R188). -/
def rateOfCode (n : Nat) : Option Rate :=
  match n with
  | 0 => some .b38400
  | 1 => some .b115200
  | 2 => some .b230400
  | 3 => some .b460800
  | _ => none

/-- A turnoff delay code (R188). -/
def turnoffOfCode (n : Nat) : Option Turnoff :=
  match n with
  | 0 => some .bits0
  | 1 => some .bits1
  | 2 => some .bits2
  | 3 => some .bits4
  | _ => none

/-- A mark carried as 0 or 1, such as the authority flag (R192). -/
def markOfCode (n : Nat) : Option Bool :=
  match n with
  | 0 => some false
  | 1 => some true
  | _ => none

/-- A phase byte of a REQUEST (R188, R190). -/
def phaseOfCode (n : Nat) : Option Phase :=
  match n with
  | 1 => some .live
  | 2 => some .next
  | 3 => some .ending
  | _ => none

/-- The force byte of a CHANGEOVER: 0 is without force, any other value with force (R190, R192). -/
def forceOfByte (b : Byte) : Bool := b ≠ 0

/-- The level that the converter gives for three voltages in one common unit (R194): 0 at or below V_REFL, 255 at or above
V_REFH, `free` being the free value where the input is both (log entry 16). -/
def converterLevel (free : Byte) (rssi refLow refHigh : Nat) : Nat :=
  if rssi ≤ refLow then (if refHigh ≤ rssi then free.toNat else 0)
  else if refHigh ≤ rssi then 255
  else 255 * (rssi - refLow) / (refHigh - refLow)

end Sys2Proof.Machine
end

