-- ==== Sys2Proof/Machine/Ops.lean ====
section
/-! DEFINITION. The named operations over the tables that every block shares: the constraint epoch, the creation and the
retirement of slots, answers and notices, and the evaluation of an index against the foreign list. -/

namespace Sys2Proof.Machine

/-! ## Records -/

/-- The state with one slot replaced. -/
def setSlot (i : Fin 384) (x : Slot) (s : State) : State := { s with slots := s.slots.write i x }

/-- The state with a present station record changed by `f`; an absent record stays absent. -/
def changeStation (r : Fin 48) (f : Station → Station) (s : State) : State :=
  { s with stations := s.stations.change r (Option.map f) }

/-- The state with a branch changed by `f`. -/
def changeBranch (b : Fin 4) (f : Branch → Branch) (s : State) : State :=
  { s with branches := s.branches.change b f }

/-- The state with a zone's changeover state and spare list changed by `f`. -/
def changeZone (z : Fin 16) (f : ZoneState → ZoneState) (s : State) : State := { s with zones := s.zones.change z f }

/-- A counter loaded with `n` ticks: no tick issued before reaches it (R96). -/
def loaded (n : Nat) : TickCounter := { count := n, owed := 0 }

/-- The part is in RUN. -/
def inRun (s : State) : Bool := s.console.mode == .run

/-! ## Reading slots -/

/-- The slot is FREE. -/
def Slot.isFree (x : Slot) : Bool :=
  match x with
  | .free => true
  | _ => false

/-- The frequency of a counted slot. -/
def Slot.frequency? (x : Slot) : Option Nat :=
  match x with
  | .free => none
  | .owned o => some o.frequency
  | .pinned p => some p.frequency
  | .spare r => some r.frequency

/-- The pending index, where a move is open (R24). -/
def Slot.pending? (x : Slot) : Option Nat :=
  match x with
  | .owned o => o.move.map MoveWindow.pending
  | .free => none
  | .pinned _ => none
  | .spare _ => none

/-- The profile of a counted slot. -/
def Slot.profile? (x : Slot) : Option (Fin 16) :=
  match x with
  | .free => none
  | .owned o => some o.profile
  | .pinned p => some p.profile
  | .spare r => some r.profile

/-- The zone of a counted slot. -/
def Slot.zone? (x : Slot) : Option (Fin 16) :=
  match x with
  | .free => none
  | .owned o => some o.zone
  | .pinned p => some p.zone
  | .spare r => some r.zone

/-- The suspect field (R38). -/
def Slot.suspect? (x : Slot) : Option Nat :=
  match x with
  | .owned o => o.suspect
  | .pinned p => p.suspect
  | .free => none
  | .spare _ => none

/-- The slot with its suspect field set or cleared; a FREE or SPARE slot has none (R38). -/
def Slot.withSuspect (source : Option Nat) (x : Slot) : Slot :=
  match x with
  | .owned o => .owned { o with suspect := source }
  | .pinned p => .pinned { p with suspect := source }
  | .free => .free
  | .spare r => .spare r

/-- The slot with its conflict field set or cleared (R39). -/
def Slot.withConflict (mark : Bool) (x : Slot) : Slot :=
  match x with
  | .free => .free
  | .owned o => .owned { o with conflict := mark }
  | .pinned p => .pinned { p with conflict := mark }
  | .spare r => .spare { r with conflict := mark }

/-- The slot is owned by the station and the channel (R31). -/
def Slot.ownedBy (r : Fin 48) (ch : Fin 64) (x : Slot) : Bool :=
  match x with
  | .owned o => o.station == r && o.channel == ch
  | .free => false
  | .pinned _ => false
  | .spare _ => false

/-- The slot is owned by the station. -/
def Slot.ownedByStation (r : Fin 48) (x : Slot) : Bool :=
  match x with
  | .owned o => o.station == r
  | .free => false
  | .pinned _ => false
  | .spare _ => false

/-- The slot is an owned slot of the zone. -/
def Slot.ownedInZone (z : Fin 16) (x : Slot) : Bool :=
  match x with
  | .owned o => o.zone == z
  | .free => false
  | .pinned _ => false
  | .spare _ => false

/-- The slot is an owned slot of the zone in phase ENDING. -/
def Slot.endingIn (z : Fin 16) (x : Slot) : Bool :=
  match x with
  | .owned o => o.zone == z && o.phase == .ending
  | .free => false
  | .pinned _ => false
  | .spare _ => false

/-- The slot's profile field names the profile. -/
def Slot.names (p : Fin 16) (x : Slot) : Bool := x.profile? == some p

/-- The lowest-numbered FREE slot (R28). -/
def lowestFree (s : State) : Option (Fin 384) := s.slots.lowestWith Slot.isFree

/-- The slot owned by a station and channel, with its record (R31). -/
def ownedSlot (r : Fin 48) (ch : Fin 64) (s : State) : Option (Fin 384 × Owned) :=
  match s.slots.lowestWith (Slot.ownedBy r ch) with
  | none => none
  | some i =>
    match s.slots.read i with
    | .owned o => some (i, o)
    | _ => none

/-- The ENDING slots of a zone, ascending (R118, R120, R123). -/
def endingSlots (z : Fin 16) (s : State) : List (Fin 384) := s.slots.numbersWith (Slot.endingIn z)

/-! ## The constraint epoch (R30, R73) -/

/-- A search context that an advance of the epoch reaches. -/
def SearchContext.marked (c : SearchContext) : SearchContext := { c with moved := true }

/-- The foreground work with its moved mark set; an audit holds no e0 (R91). -/
def Foreground.marked (f : Foreground) : Foreground :=
  match f with
  | .request w c => .request w c.marked
  | .move w c => .move w c.marked
  | .pin w c => .pin w c.marked
  | .audit n k => .audit n k

/-- The epoch advances by one, from 65535 to 0, and sets the moved mark of every context that holds an e0. -/
def advanceEpoch (s : State) : State :=
  { s with
    epoch := s.epoch + 1
    engine :=
      { s.engine with
        foreground := s.engine.foreground.map Foreground.marked
        background := s.engine.background.map fun b => { b with context := b.context.marked } } }

/-- The barred set is emptied (R87). -/
def emptyBarred (s : State) : State :=
  { s with engine := { s.engine with barred := Table.filled 16 false } }

/-! ## Answers and notices (R168 to R170) -/

/-- An answer joins the tail of the station's answer queue. -/
def giveAnswer (r : Fin 48) (a : Answer) (s : State) : State :=
  changeStation r (fun st => { st with answers := st.answers ++ [a] }) s

/-- A refusal naming a channel. -/
def refuse (r : Fin 48) (ch : Fin 64) (why : RefuseReason) (s : State) : State :=
  giveAnswer r (.refused (BitVec.ofNat 8 ch.val) why) s

/-- Two notices are of the same kind and channel; for PHASE_CHANGED the zone stands in the channel's place (R169). -/
def sameKey (a b : Notice) : Bool :=
  match a, b with
  | .moveAdvised c _, .moveAdvised d _ => c == d
  | .moveLapsed c, .moveLapsed d => c == d
  | .retired c _, .retired d _ => c == d
  | .phaseChanged y, .phaseChanged z => y == z
  | _, _ => false

/-- The notice has fields besides its kind and channel, which coalescing replaces (R169). -/
def hasMoreFields (n : Notice) : Bool :=
  match n with
  | .moveAdvised _ _ => true
  | .retired _ _ => true
  | .moveLapsed _ => false
  | .phaseChanged _ => false

/-- The Station Table takes a notice: coalescing, overflow or joining (R169). Replaced fields make the queued notice
another item than the one a poll in progress carried, and an overflow sets resync anew (R171). -/
def Station.takeNotice (n : Notice) (st : Station) : Station :=
  if st.notices.any (fun q => sameKey n q.notice) then
    { st with
      notices := st.notices.map fun q =>
        if sameKey n q.notice then { notice := n, carried := q.carried && !hasMoreFields n } else q }
  else if Config.noticeCapacity ≤ st.notices.length then
    { st with notices := [], resync := true, resyncCarried := false }
  else { st with notices := st.notices ++ [{ notice := n, carried := false }] }

/-- A notice is handed to the Station Table for a station. -/
def giveNotice (r : Fin 48) (n : Notice) (s : State) : State := changeStation r (Station.takeNotice n) s

/-- The notice is a MOVE_ADVISED for the channel. -/
def isAdvice (ch : Fin 64) (n : Notice) : Bool :=
  match n with
  | .moveAdvised c _ => c == ch
  | .moveLapsed _ => false
  | .retired _ _ => false
  | .phaseChanged _ => false

/-- The MOVE_ADVISED notices for a channel are withdrawn and those behind close up (R35, R110, R169). -/
def withdrawAdvice (r : Fin 48) (ch : Fin 64) (s : State) : State :=
  changeStation r (fun st => { st with notices := st.notices.filter fun q => !isAdvice ch q.notice }) s

/-- The dynamic fields as CLEAR sets them (R165). -/
def Station.fresh (st : Station) : Station :=
  { st with
    link := .unknown
    failures := 0
    leaseState := .current
    lease := loaded 0
    held := 0
    openRequest := false
    answers := []
    notices := []
    resync := false
    resyncCarried := false
    validReplies := 0 }

/-- The station's open-request flag is cleared (R67). -/
def closeRequest (r : Fin 48) (s : State) : State := changeStation r (fun st => { st with openRequest := false }) s

/-! ## Retirement (R35) -/

/-- The slot becomes FREE with every field removed, which empties the barred set (R35, R87). -/
def freeSlot (i : Fin 384) (s : State) : State := emptyBarred (setSlot i .free s)

/-- The station's held count falls by one (R36). -/
def lowerHeld (r : Fin 48) (s : State) : State := changeStation r (fun st => { st with held := st.held - 1 }) s

/-- The station's held count rises by one (R36). -/
def raiseHeld (r : Fin 48) (s : State) : State := changeStation r (fun st => { st with held := st.held + 1 }) s

/-- The RETIRED notice that a cause is due to give (R35). -/
def giveRetired (o : Owned) (cause : Option RetireCause) (s : State) : State :=
  match cause with
  | none => s
  | some c => giveNotice o.station (.retired o.channel c) s

/-- A CLEARING zone with no ENDING slot left returns to STEADY and its clear timer is removed (R116, R124). -/
def steadyIfDone (z : Fin 16) (s : State) : State :=
  if (endingSlots z s).isEmpty then changeZone z (fun zs => { zs with clearing := none }) s else s

/-- A slot is retired for a cause; the cause's RETIRED notice, if one is due, goes to the owner. Retiring a FREE slot
does nothing. -/
def retireSlot (cause : Option RetireCause) (i : Fin 384) (s : State) : State :=
  match s.slots.read i with
  | .free => s
  | .pinned _ => freeSlot i s
  | .spare r => changeZone r.zone (fun zs => { zs with spares := zs.spares.filter (· ≠ i) }) (freeSlot i s)
  | .owned o =>
    let s := withdrawAdvice o.station o.channel (giveRetired o cause (lowerHeld o.station (freeSlot i s)))
    if o.phase = .ending then steadyIfDone o.zone s else s

/-- Slots retired one after another in the order given. -/
def retireSlots (cause : Option RetireCause) (is : List (Fin 384)) (s : State) : State :=
  is.foldl (fun s i => retireSlot cause i s) s

/-! ## The foreign list (R34, R149) -/

/-- The distance of a foreign index from a frequency or, where it is nearer, from a pending index. -/
def foreignDistance (f : Nat) (pending : Option Nat) (x : Nat) : Nat :=
  match pending with
  | none => distance f x
  | some p => min (distance f x) (distance p x)

/-- The nearer of the best entry so far and the entry at `x`; of two at equal distance the lower index. -/
def nearerOf (f : Nat) (pending : Option Nat) (best : Option Nat) (x : Nat) : Option Nat :=
  match best with
  | none => some x
  | some y =>
    if foreignDistance f pending x < foreignDistance f pending y then some x
    else if foreignDistance f pending x = foreignDistance f pending y ∧ x < y then some x
    else some y

/-- The CONFIRMED foreign carrier nearest to an index, or to a frequency and a pending index, of those that lie less than
fg from it (R34, R149). -/
def nearestForeign (s : State) (f : Nat) (pending : Option Nat) : Option Nat :=
  ((s.sweep.foreign.filter fun e => e.confirmed && foreignDistance f pending e.index < s.plan.fg).map
      ForeignEntry.index).foldl (nearerOf f pending) none

/-- The open move has a suspect pending: its source lies less than fg from the pending index (R38). -/
def suspectPending (s : State) (o : Owned) : Bool :=
  match o.move, o.suspect with
  | some w, some x => distance w.pending x < s.plan.fg
  | some _, none => false
  | none, _ => false

/-! ## Records created (R28, R33) -/

/-- The PINNED slot that a PIN writes, its suspect field evaluated in the creating event (R33, R34). -/
def pinnedSlot (s : State) (index : Nat) (profile zone : Fin 16) (label : List Byte) : Slot :=
  .pinned
    { frequency := index, profile := profile, zone := zone, label := label,
      suspect := nearestForeign s index none, conflict := false }

/-- A pinned record is written to a slot and the epoch advances (R33). -/
def recordPin (i : Fin 384) (index : Nat) (profile zone : Fin 16) (label : List Byte) (s : State) : State :=
  advanceEpoch (setSlot i (pinnedSlot s index profile zone label) s)

/-! ## Free values (log entry 15) -/

/-- The next free value is shown, and the counter of shown values moves on. -/
def showFree (s : State) : State := { s with freeUsed := s.freeUsed + 1 }

end Sys2Proof.Machine
end

