-- ==== Sys2Proof/Machine/Compat.lean ====
section
/-! DEFINITION. The compatibility arithmetic of chapter 3: the effective window, the walk orders, tests T1 to T6, and the
tests that an audit visit makes of a slot's own indices (R90). -/

namespace Sys2Proof.Machine

/-! ## The effective window (R45) -/

/-- The low edge of the effective window. -/
def windowLow (s : State) (p z : Fin 16) : Nat := max (s.plan.profiles.read p).low (s.plan.zones.read z).zlo

/-- The high edge of the effective window. -/
def windowHigh (s : State) (p z : Fin 16) : Nat := min (s.plan.profiles.read p).high (s.plan.zones.read z).zhi

/-- The lowest aligned index not below `low`, for a grid anchored at `origin` (with `origin` not above `low`). -/
def alignUp (origin step low : Nat) : Nat := origin + (low - origin + (step - 1)) / step * step

/-- How many aligned indices lie from `first` to `high`. -/
def alignedCount (first step high : Nat) : Nat := if first ≤ high then (high - first) / step + 1 else 0

/-- The effective window of a profile and a zone is empty: it holds no aligned index (R45). -/
def windowEmpty (s : State) (p z : Fin 16) : Bool :=
  alignedCount (alignUp (s.plan.profiles.read p).low (s.plan.profiles.read p).step (windowLow s p z))
    (s.plan.profiles.read p).step (windowHigh s p z) == 0

/-! ## Walks (R47 to R50) -/

/-- The place of the snapped hint among `count` aligned indices: the hint clamped to the window, then moved to the nearest
aligned index, the lower on a tie (R48). -/
def snapPlace (low high first step count hint : Nat) : Nat :=
  let h := clampTo low high hint
  let below := (h - first) / step
  min (count - 1) (if 2 * ((h - first) % step) ≤ step then below else below + 1)

/-- The walk of a profile and a zone formed now, with or without a hint, its cursor at the beginning. -/
def formWalk (s : State) (p z : Fin 16) (hint : Option Nat) : Walk :=
  let pr := s.plan.profiles.read p
  let first := alignUp pr.low pr.step (windowLow s p z)
  let count := alignedCount first pr.step (windowHigh s p z)
  { lowest := first
    step := pr.step
    count := count
    start := hint.map (snapPlace (windowLow s p z) (windowHigh s p z) first pr.step count)
    cursor := 0 }

/-- The place, among the aligned indices, of the candidate that a hinted walk visits `k`th: the snapped hint `p` first,
then the lower and the higher at each further distance, and the rest of the longer side when one is done (R49). -/
def hintedPlace (count p k : Nat) : Nat :=
  let both := min p (count - 1 - p)
  if k ≤ 2 * both then (if k % 2 = 1 then p - (k + 1) / 2 else p + k / 2)
  else if both < p then p - (k - both)
  else p + (k - both)

/-- The candidate that a walk visits `k`th, for k below count. -/
def Walk.candidate (w : Walk) (k : Nat) : Nat :=
  match w.start with
  | none => w.lowest + k * w.step
  | some p => w.lowest + hintedPlace w.count p k * w.step

/-- The next candidate of a walk and the cursor that stands on it, with an index to pass over (R50); none when the order
has run out. -/
def Walk.next (w : Walk) (passOver : Option Nat) : Option (Nat × Nat) :=
  if w.cursor < w.count then
    if passOver = some (w.candidate w.cursor) then
      if w.cursor + 1 < w.count then some (w.candidate (w.cursor + 1), w.cursor + 2) else none
    else some (w.candidate w.cursor, w.cursor + 1)
  else none

/-! ## Carriers (R29, R51 to R53) -/

/-- An element of the counted-carrier set (R29) with the zone and profile of its slot (R51). -/
structure Carrier where
  index : Nat
  slot : Fin 384
  isPending : Bool
  zone : Fin 16
  profile : Fin 16
  deriving DecidableEq, Repr

/-- The elements of one slot, the frequency before the pending index (R51). -/
def slotCarriers (i : Fin 384) (x : Slot) : List Carrier :=
  match x with
  | .free => []
  | .owned o =>
    { index := o.frequency, slot := i, isPending := false, zone := o.zone, profile := o.profile } ::
      (match o.move with
        | none => []
        | some w => [{ index := w.pending, slot := i, isPending := true, zone := o.zone, profile := o.profile }])
  | .pinned p => [{ index := p.frequency, slot := i, isPending := false, zone := p.zone, profile := p.profile }]
  | .spare r => [{ index := r.frequency, slot := i, isPending := false, zone := r.zone, profile := r.profile }]

/-- The counted-carrier set in carrier order (R29, R51). -/
def carriers (s : State) : List Carrier := s.slots.entries.flatMap fun e => slotCarriers e.1 e.2

/-- The carriers less those of a slot left out (R53, R90). -/
def carriersBut (s : State) (leftOut : Option (Fin 384)) : List Carrier :=
  (carriers s).filter fun c => some c.slot ≠ leftOut

/-- The coupling of two zones (R12). -/
def couplingOf (s : State) (a b : Fin 16) : Coupling := (s.plan.coupling.read a).read b

/-- Coupled for spacing: NEAR or SHARED (R52). -/
def coupledForSpacing (s : State) (a b : Fin 16) : Bool := couplingOf s a b != .isolated

/-- Three zones form a SHARED triangle (R52). -/
def sharedTriangle (s : State) (x y z : Fin 16) : Bool :=
  couplingOf s x y == .shared && couplingOf s x z == .shared && couplingOf s y z == .shared

/-! ## The six tests (R54 to R61) -/

/-- T1: the index lies in the effective window and is aligned to the profile (R55). -/
def testWindow (s : State) (p z : Fin 16) (f : Nat) : Bool :=
  windowLow s p z ≤ f && f ≤ windowHigh s p z &&
    (f - (s.plan.profiles.read p).low) % (s.plan.profiles.read p).step == 0

/-- The index lies in a band with the exclusion guard around it (R14, R56). -/
def inGuardedBand (g f : Nat) (b : Band) : Bool := (b.lo : Int) - g ≤ f && (f : Int) ≤ b.hi + g

/-- T2: the number of the first band that holds the index (R56). -/
def testExclusion (s : State) (f : Nat) : Option Nat :=
  (s.plan.exclusions.findIdx? (inGuardedBand s.plan.g f)).map (· + 1)

/-- T3: the first CONFIRMED foreign carrier less than fg from the index (R57). -/
def testForeign (s : State) (f : Nat) : Option Nat :=
  (s.sweep.foreign.find? fun e => e.confirmed && distance f e.index < s.plan.fg).map ForeignEntry.index

/-- A carrier stands nearer than the larger of the two spacings (R58). -/
def tooNear (s : State) (p z : Fin 16) (f : Nat) (e : Carrier) : Bool :=
  coupledForSpacing s e.zone z &&
    distance f e.index < max (s.plan.profiles.read p).c (s.plan.profiles.read e.profile).c

/-- T4: the first carrier that stands too near (R58). -/
def testSpacing (s : State) (p z : Fin 16) (cs : List Carrier) (f : Nat) : Option (Fin 384) :=
  (cs.find? (tooNear s p z f)).map Carrier.slot

/-- The third-order product 2a − b (R59). -/
def product3 (a b : Int) : Int := 2 * a - b

/-- The fifth-order product 3a − 2b (R59). -/
def product5 (a b : Int) : Int := 3 * a - 2 * b

/-- Two carriers of different slots whose zones form a SHARED triangle with the zone: the pairs of T5 and T6 (R52,
R53). -/
def pairCounts (s : State) (z : Fin 16) (a b : Carrier) : Bool := a.slot != b.slot && sharedTriangle s a.zone b.zone z

/-- A pair of carriers forms a product nearer to the index than the profile's protection; a protection of 0 is met by
every distance (R60). -/
def productOnto (s : State) (p : Fin 16) (f : Nat) (a b : Carrier) : Bool :=
  distance f (product3 a.index b.index) < (s.plan.profiles.read p).p3 ||
    distance f (product5 a.index b.index) < (s.plan.profiles.read p).p5

/-- T5: the first ordered pair of carriers with a product too near the index (R60). -/
def testProducts (s : State) (p z : Fin 16) (cs : List Carrier) (f : Nat) : Option (Fin 384 × Fin 384) :=
  cs.findSome? fun a =>
    (cs.find? fun b => pairCounts s z a b && productOnto s p f a b).map fun b => (a.slot, b.slot)

/-- The candidate forms with a carrier a product nearer to the victim than the victim's protection (R61). -/
def harms (s : State) (f : Nat) (e v : Carrier) : Bool :=
  distance v.index (product3 f e.index) < (s.plan.profiles.read v.profile).p3 ||
    distance v.index (product3 e.index f) < (s.plan.profiles.read v.profile).p3 ||
    distance v.index (product5 f e.index) < (s.plan.profiles.read v.profile).p5 ||
    distance v.index (product5 e.index f) < (s.plan.profiles.read v.profile).p5

/-- T6: the first carrier and victim that the candidate's products harm (R61). -/
def testHarm (s : State) (z : Fin 16) (cs : List Carrier) (f : Nat) : Option (Fin 384 × Fin 384) :=
  cs.findSome? fun e => (cs.find? fun v => pairCounts s z e v && harms s f e v).map fun v => (e.slot, v.slot)

/-- The evaluation of one index for a profile and a zone: none is PASS, otherwise the first test that fails (R44, R54). -/
def evaluate (s : State) (p z : Fin 16) (leftOut : Option (Fin 384)) (f : Nat) : Option TestFailure :=
  let cs := carriersBut s leftOut
  if testWindow s p z f = false then some .t1
  else
    match testExclusion s f with
    | some band => some (.t2 band)
    | none =>
      match testForeign s f with
      | some x => some (.t3 x)
      | none =>
        match testSpacing s p z cs f with
        | some e => some (.t4 e)
        | none =>
          match testProducts s p z cs f with
          | some (a, b) => some (.t5 a b)
          | none =>
            match testHarm s z cs f with
            | some (e, v) => some (.t6 e v)
            | none => none

/-! ## Audit visits (R90) -/

/-- One index of a visited slot fails T2, T3, T4 or T5 as a victim; `cs` are the carriers of the other slots. -/
def auditFails (s : State) (p z : Fin 16) (cs : List Carrier) (f : Nat) : Bool :=
  (testExclusion s f).isSome || (testForeign s f).isSome || (testSpacing s p z cs f).isSome ||
    (testProducts s p z cs f).isSome

/-- A slot's conflict field as a visit sets it: some index of the slot fails. -/
def auditFinds (s : State) (i : Fin 384) : Bool :=
  (slotCarriers i (s.slots.read i)).any fun c => auditFails s c.profile c.zone (carriersBut s (some i)) c.index

/-! ## The tune word (R63) -/

/-- The tune word of an index, limited to the largest 24-bit value. -/
def tuneWord (c : SweepConfig) (index : Nat) : Nat := min (c.offset + index * c.scale) Config.tuneLimit

end Sys2Proof.Machine
end

