-- ==== Sys2Proof/Decode.lean ====
section
/-! DEFINITION. The bytes of a chip-select frame read as a console request (R172 to R174, R191, R192), and the request
written as its bytes. The rows of spec/opcode_table.json give no bits, so no word of the table's spells a command:
decodeTableWord answers none (log entry 17). Events come from the lines, the ticks and the engine, not from bytes. -/

namespace Sys2Proof

/-- Two bytes as one field, most significant byte first (R187). -/
def joinWord (hi lo : Byte) : Word := hi ++ lo

/-- Three bytes as the tune offset, most significant byte first (R187). -/
def joinWord24 (b2 b1 b0 : Byte) : Word24 := b2 ++ b1 ++ b0

/-- A two-byte field as its bytes, most significant first (R187). -/
def splitWord (w : Word) : List Byte := [w.extractLsb' 8 8, w.extractLsb' 0 8]

/-- The tune offset as its three bytes, most significant first (R187). -/
def splitWord24 (w : Word24) : List Byte := [w.extractLsb' 16 8, w.extractLsb' 8 8, w.extractLsb' 0 8]

/-- WRITE PROFILE by the state byte it carries: 0 asks for UNDEFINED (R8), every other value goes to R6's checks. -/
def writeProfileRequest (profile state : Byte) (low high : Word) (step c p3 p5 : Byte) : Instr :=
  if state = 0 then .writeProfileUndefined profile low high step c p3 p5
  else .writeProfile profile state low high step c p3 p5

/-- PIN by the check flag it carries: 1 asks for the check (R72), every other value goes to R33. -/
def pinRequest (index : Word) (profile zone checkFlag : Byte) (label : List Byte) : Instr :=
  if checkFlag = 1 then .checkedPin index profile zone label else .pin index profile zone checkFlag label

/-- The parameters of the request with code `code` read from the bytes after the code; none while bytes are missing;
bytes beyond the parameters are ignored (R172). The outer none: the code names no request (R173, R191). -/
def requestReader (code : Nat) : Option (List Byte → Option Instr) :=
  match code with
  | 1 => some fun
    | pr :: st :: l1 :: l0 :: h1 :: h0 :: sp :: c :: p3 :: p5 :: _ =>
      some (writeProfileRequest pr st (joinWord l1 l0) (joinWord h1 h0) sp c p3 p5)
    | _ => none
  | 2 => some fun | pr :: _ => some (.readProfile pr) | _ => none
  | 3 => some fun
    | z :: l1 :: l0 :: h1 :: h0 :: d :: sp :: t1 :: t0 :: _ =>
      some (.writeZone z (joinWord l1 l0) (joinWord h1 h0) d sp (joinWord t1 t0))
    | _ => none
  | 4 => some fun | z :: _ => some (.readZone z) | _ => none
  | 5 => some fun | a :: b :: v :: _ => some (.writeCoupling a b v) | _ => none
  | 6 => some fun | a :: b :: _ => some (.readCoupling a b) | _ => none
  | 7 => some fun | l1 :: l0 :: h1 :: h0 :: _ => some (.addExclusion (joinWord l1 l0) (joinWord h1 h0)) | _ => none
  | 8 => some fun | l1 :: l0 :: h1 :: h0 :: _ => some (.removeExclusion (joinWord l1 l0) (joinWord h1 h0)) | _ => none
  | 9 => some fun _ => some .listExclusions
  | 10 => some fun | g :: fg :: _ => some (.writeGuards g fg) | _ => none
  | 11 => some fun _ => some .readGuards
  | 16 => some fun | c :: _ => some (.writeTimeBase c) | _ => none
  | 17 => some fun | l :: _ => some (.writeLease l) | _ => none
  | 18 => some fun | h1 :: h0 :: _ => some (.writeHold (joinWord h1 h0)) | _ => none
  | 19 => some fun | m :: _ => some (.writeMoveTime m) | _ => none
  | 20 => some fun | u :: l :: _ => some (.writeDefer u l) | _ => none
  | 21 => some fun _ => some .readTiming
  | 24 => some fun | r :: b :: a :: z :: c :: au :: _ => some (.writeStation r b a z c au) | _ => none
  | 25 => some fun | r :: _ => some (.removeStation r) | _ => none
  | 26 => some fun | r :: _ => some (.readStation r) | _ => none
  | 28 => some fun | b :: r :: t :: w :: g :: d :: _ => some (.writeBranch b r t w g d) | _ => none
  | 29 => some fun | b :: _ => some (.readBranch b) | _ => none
  | 30 => some fun | b :: _ => some (.branchEnable b) | _ => none
  | 31 => some fun | b :: _ => some (.branchDisable b) | _ => none
  | 32 => some fun
    | i1 :: i0 :: pr :: z :: ck :: len :: rest =>
      if rest.length < len.toNat then none
      else some (pinRequest (joinWord i1 i0) pr z ck (rest.take len.toNat))
    | _ => none
  | 33 => some fun | s1 :: s0 :: _ => some (.retire (joinWord s1 s0)) | _ => none
  | 34 => some fun | s1 :: s0 :: _ => some (.readEntry (joinWord s1 s0)) | _ => none
  | 35 => some fun | s1 :: s0 :: n :: _ => some (.readEntries (joinWord s1 s0) n) | _ => none
  | 36 => some fun _ => some .readCounts
  | 40 => some fun | z :: f :: _ => some (.changeover z f) | _ => none
  | 44 => some fun | i1 :: i0 :: pr :: z :: _ => some (.check (joinWord i1 i0) pr z) | _ => none
  | 45 => some fun _ => some .audit
  | 46 => some fun _ => some .readResult
  | 48 => some fun
    | l1 :: l0 :: h1 :: h0 :: st :: se :: t :: hy :: k :: m :: e :: g :: o2 :: o1 :: o0 :: sc :: _ =>
      some (.writeSweep (joinWord l1 l0) (joinWord h1 h0) st se t hy k m e g (joinWord24 o2 o1 o0) sc)
    | _ => none
  | 49 => some fun _ => some .readSweep
  | 50 => some fun _ => some .sweepStart
  | 51 => some fun _ => some .sweepStop
  | 52 => some fun _ => some .readForeign
  | 53 => some fun | i1 :: i0 :: _ => some (.dropForeign (joinWord i1 i0)) | _ => none
  | 56 => some fun _ => some .start
  | 57 => some fun _ => some .stop
  | 58 => some fun _ => some .clear
  | 60 => some fun _ => some .readAttention
  | 61 => some fun | m :: _ => some (.writeMask m) | _ => none
  | _ => none

/-- What a chip-select frame asks for, by the bytes received whole in it: a request once its last parameter byte is in
(R172), the unknown code as soon as the code is in (R173), and an early release otherwise (R174). -/
def decodeFrame (bytes : List Byte) : Instr :=
  match bytes with
  | [] => .chipSelectReleasedEarly []
  | code :: rest =>
    match requestReader code.toNat with
    | none => .unknownRequestCode code
    | some read => (read rest).getD (.chipSelectReleasedEarly (code :: rest))

/-- The bytes of a command that is a chip-select frame (R191); none for the events, which are no bytes. -/
def encodeFrame (i : Instr) : Option (List Byte) :=
  match i with
  | .writeProfile pr st low high sp c p3 p5 =>
    some ([1, pr, st] ++ splitWord low ++ splitWord high ++ [sp, c, p3, p5])
  | .writeProfileUndefined pr low high sp c p3 p5 =>
    some ([1, pr, 0] ++ splitWord low ++ splitWord high ++ [sp, c, p3, p5])
  | .readProfile pr => some [2, pr]
  | .writeZone z zlo zhi d sp t => some ([3, z] ++ splitWord zlo ++ splitWord zhi ++ [d, sp] ++ splitWord t)
  | .readZone z => some [4, z]
  | .writeCoupling a b v => some [5, a, b, v]
  | .readCoupling a b => some [6, a, b]
  | .addExclusion lo hi => some ([7] ++ splitWord lo ++ splitWord hi)
  | .removeExclusion lo hi => some ([8] ++ splitWord lo ++ splitWord hi)
  | .listExclusions => some [9]
  | .writeGuards g fg => some [10, g, fg]
  | .readGuards => some [11]
  | .writeTimeBase c => some [16, c]
  | .writeLease l => some [17, l]
  | .writeHold h => some ([18] ++ splitWord h)
  | .writeMoveTime m => some [19, m]
  | .writeDefer u l => some [20, u, l]
  | .readTiming => some [21]
  | .writeStation r b a z c au => some [24, r, b, a, z, c, au]
  | .removeStation r => some [25, r]
  | .readStation r => some [26, r]
  | .writeBranch b r t w g d => some [28, b, r, t, w, g, d]
  | .readBranch b => some [29, b]
  | .branchEnable b => some [30, b]
  | .branchDisable b => some [31, b]
  | .pin i pr z ck label =>
    some ([32] ++ splitWord i ++ [pr, z, ck, BitVec.ofNat 8 label.length] ++ label)
  | .checkedPin i pr z label =>
    some ([32] ++ splitWord i ++ [pr, z, 1, BitVec.ofNat 8 label.length] ++ label)
  | .retire s => some ([33] ++ splitWord s)
  | .readEntry s => some ([34] ++ splitWord s)
  | .readEntries s n => some ([35] ++ splitWord s ++ [n])
  | .readCounts => some [36]
  | .changeover z f => some [40, z, f]
  | .check i pr z => some ([44] ++ splitWord i ++ [pr, z])
  | .audit => some [45]
  | .readResult => some [46]
  | .writeSweep lo hi st se t hy k m e g o sc =>
    some ([48] ++ splitWord lo ++ splitWord hi ++ [st, se, t, hy, k, m, e, g] ++ splitWord24 o ++ [sc])
  | .readSweep => some [49]
  | .sweepStart => some [50]
  | .sweepStop => some [51]
  | .readForeign => some [52]
  | .dropForeign i => some ([53] ++ splitWord i)
  | .start => some [56]
  | .stop => some [57]
  | .clear => some [58]
  | .readAttention => some [60]
  | .writeMask m => some [61, m]
  | .unknownRequestCode code => some [code]
  | .chipSelectReleasedEarly received => some received
  | .hardwareReset => none
  | .tick => none
  | .leaseCounterDecrement _ => none
  | .lapse _ => none
  | .holdCounterDecrement _ => none
  | .holdExpiry _ => none
  | .moveCounterDecrement _ => none
  | .moveLapse _ => none
  | .clearTimerDecrement _ => none
  | .clearTimerExpiry _ => none
  | .poll _ => none
  | .turnoffDelayEnd _ => none
  | .replyAccepted _ _ => none
  | .replyWindowExpired _ => none
  | .replyGapTimeout _ => none
  | .replyFailed _ _ => none
  | .quietWaitEnd _ => none
  | .strayCharacter _ _ => none
  | .roundGapEnd _ => none
  | .branchFault _ => none
  | .branchFaultRecovery _ => none
  | .validReplyNotice _ => none
  | .engineTake => none
  | .candidateEvaluation => none
  | .searchCompletion => none
  | .reTest => none
  | .checkedPinCompletion => none
  | .auditVisit => none
  | .tuneLatch => none
  | .settleEnd => none
  | .conversionComplete _ _ _ => none
  | .passGapEnd => none
  | .replyCharacterReceived _ _ => none
  | .lineTransition _ _ => none

/-- The command that a word of spec/opcode_table.json's bits spells: no row gives bits, so no word spells one
(log entry 17). -/
def decodeTableWord (_nbits _w : Nat) : Option Instr := none

end Sys2Proof
end

