-- ==== Sys2Proof/Machine/Formats.lean ====
section
/-! DEFINITION. The characters of a branch (R152) and the byte layouts of chapter 10: the shared codes (R188), polls and
replies on a branch (R154, R189, R190), and the responses and records that the host reads (R191, R193). -/

namespace Sys2Proof

/-! ## Characters received (R152) -/

/-- The eight data bits of a character, which come first, the least significant before the others (R152). -/
def RxChar.data (c : RxChar) : Byte := c.bits.extractLsb' 0 8

/-- The mark bit of a character, read as a ninth data bit (R152). -/
def RxChar.mark (c : RxChar) : Bool := c.bits.getLsbD 8

/-- A character is garbled when its stop bit is found at space (R152). -/
def RxChar.garbled (c : RxChar) : Bool := !c.bits.getLsbD 9

end Sys2Proof

namespace Sys2Proof.Machine

/-! ## Characters sent (R152, R154) -/

/-- The ten bits of a character after its start bit, bit 0 the first on the line: eight data bits, the mark bit, and the
stop bit, which is mark (R152). -/
def TxChar.bits (c : TxChar) : BitVec 10 := 1#1 ++ BitVec.ofBool c.mark ++ c.data

/-- The level of the line while it carries a bit. -/
def levelOf (bit : Bool) : LineLevel := if bit then .mark else .space

/-- The eleven levels of a character in the order of the line: the start bit, which is space, and the ten bits after it
(R152). -/
def charLevels (bits : BitVec 10) : List LineLevel := .space :: (List.range 10).map fun k => levelOf (bits.getLsbD k)

/-- The levels that a branch's transmit pin gave out with the poll last sent, one a bit time, its characters back to back
(R154). -/
def sentLevels (br : Branch) : List LineLevel := br.txFrame.flatMap fun c => charLevels c.bits

/-! ## Bytes (R187) -/

/-- A number as one byte. -/
def byteOf (n : Nat) : Byte := BitVec.ofNat 8 n

/-- A number as two bytes, most significant first (R187). -/
def wordOf (n : Nat) : List Byte := splitWord (BitVec.ofNat 16 n)

/-- A number as three bytes, most significant first (R187). -/
def word24Of (n : Nat) : List Byte := splitWord24 (BitVec.ofNat 24 n)

/-- An index or slot number that may be absent (R188). -/
def optionalWord (n : Option Nat) : List Byte := wordOf (n.getD Config.absentWord)

/-- A mark as a byte. -/
def markOf (m : Bool) : Byte := if m then 1 else 0

/-! ## Codes (R188) -/

/-- The console status codes (R173). -/
inductive Status where
  | ok
  | busy
  | inUse
  | range
  | mode
  | full
  | duplicate
  | unknown
  deriving DecidableEq, Repr

/-- The status byte. -/
def statusCode (x : Status) : Byte :=
  match x with
  | .ok => 0
  | .busy => 1
  | .inUse => 2
  | .range => 3
  | .mode => 4
  | .full => 5
  | .duplicate => 6
  | .unknown => 7

/-- The slot state. -/
def slotCode (x : Slot) : Byte :=
  match x with
  | .free => 0
  | .owned o =>
    match o.state with
    | .active => 1
    | .stale _ => 2
  | .pinned _ => 3
  | .spare _ => 4

/-- The phase; 0 stands for none. -/
def phaseCode (p : Phase) : Byte :=
  match p with
  | .live => 1
  | .next => 2
  | .ending => 3

/-- The refusal reason. -/
def reasonCode (x : RefuseReason) : Byte :=
  match x with
  | .profile => 1
  | .window => 2
  | .ceiling => 3
  | .full => 4
  | .busy => 5
  | .noneFound => 6
  | .retry => 7
  | .unknownChannel => 8
  | .phase => 9
  | .notMoving => 10
  | .authority => 11

/-- The RETIRED cause. -/
def causeCode (x : RetireCause) : Byte :=
  match x with
  | .operator => 1
  | .holdExpired => 2
  | .cleared => 3
  | .forced => 4

/-- The coupling. -/
def couplingCode (x : Coupling) : Byte :=
  match x with
  | .isolated => 0
  | .near => 1
  | .shared => 2

/-- The link state. -/
def linkCode (x : LinkState) : Byte :=
  match x with
  | .unknown => 0
  | .present => 1
  | .silent => 2

/-- The lease state. -/
def leaseCode (x : LeaseState) : Byte :=
  match x with
  | .current => 0
  | .lapsed => 1

/-- The branch state. -/
def branchCode (x : BranchState) : Byte :=
  match x with
  | .disabled => 0
  | .running => 1
  | .faulted => 2

/-- The mode. -/
def modeCode (x : Mode) : Byte :=
  match x with
  | .config => 0
  | .run => 1

/-- The time base. -/
def periodCode (x : TickPeriod) : Byte :=
  match x with
  | .ms250 => 0
  | .ms500 => 1
  | .s1 => 2
  | .s2 => 3

/-- The rate. -/
def rateCode (x : Rate) : Byte :=
  match x with
  | .b38400 => 0
  | .b115200 => 1
  | .b230400 => 2
  | .b460800 => 3

/-- The turnoff delay. -/
def turnoffCode (x : Turnoff) : Byte :=
  match x with
  | .bits0 => 0
  | .bits1 => 1
  | .bits2 => 2
  | .bits4 => 3

/-- The sweep state and the point activity, as two bytes. -/
def activityCodes (x : Option PointActivity) : List Byte :=
  match x with
  | none => [0, 0]
  | some (.tuning _) => [1, 1]
  | some .settling => [1, 2]
  | some .converting => [1, 3]
  | some .gap => [1, 4]

/-- The foreign state. -/
def foreignCode (confirmed : Bool) : Byte := if confirmed then 2 else 1

/-! ## Polls (R154, R189, R190) -/

/-- The item code and the item's fields. -/
def itemBytes (item : PollItem) : List Byte :=
  match item with
  | .nothing => [0]
  | .answer (.granted ch i existing) => [1, byteOf ch.val] ++ wordOf i ++ [markOf existing]
  | .answer (.moveTo ch i) => [2, byteOf ch.val] ++ wordOf i
  | .answer (.confirmed ch i) => [3, byteOf ch.val] ++ wordOf i
  | .answer (.released ch) => [4, byteOf ch.val]
  | .answer (.status ch f ph stale pending suspect) =>
    [5, byteOf ch.val] ++ wordOf f ++ [phaseCode ph, if stale then 2 else 1] ++ optionalWord pending ++ [markOf suspect]
  | .answer (.changedOver z) => [6, byteOf z.val]
  | .answer (.refused ch why) => [7, ch, reasonCode why]
  | .resync => [16]
  | .notice (.moveAdvised ch x) => [17, byteOf ch.val] ++ wordOf x
  | .notice (.moveLapsed ch) => [18, byteOf ch.val]
  | .notice (.retired ch cause) => [19, byteOf ch.val, causeCode cause]
  | .notice (.phaseChanged z) => [20, byteOf z.val]

/-- The 8-bit sum of data values (R154). -/
def sumBytes (bytes : List Byte) : Byte := bytes.foldl (· + ·) 0

/-- The data values with the check byte that brings their sum to 0 (R154). -/
def withCheck (bytes : List Byte) : List Byte := bytes ++ [0 - sumBytes bytes]

/-- The characters of a frame with the data values given: the address character, which is the first, alone has its mark
bit at 1 (R152, R154, R189). -/
def frameChars (bytes : List Byte) : List TxChar :=
  match bytes with
  | [] => []
  | address :: rest => { data := address, mark := true } :: rest.map fun d => { data := d, mark := false }

/-- The characters of a poll: address, length, type 64, the DEFER byte and the item, check byte (R154, R189, R190). -/
def pollFrame (address : Nat) (defer : Bool) (item : PollItem) : List TxChar :=
  let body := markOf defer :: itemBytes item
  frameChars (withCheck ([byteOf address, byteOf body.length, 64] ++ body))

/-! ## Replies (R161, R164, R189, R190) -/

/-- The frame that a valid reply carries, its fields as the branch controller reads them (R164, R190). -/
inductive Frame where
  | idle
  | request (channel profile phase : Byte) (hint : Option Nat) (label : List Byte)
  | release (channel : Byte)
  | move (channel : Byte)
  | confirm (channel : Byte)
  | query (channel : Byte)
  | changeover (force : Bool)
  deriving DecidableEq, Repr

/-- The type is known: one of the seven station frame types with a length its layout allows (R161, R189). -/
def typeKnown (type length : Nat) : Bool :=
  match type with
  | 65 => length == 0
  | 66 => 5 ≤ length && length ≤ 17
  | 67 => length == 1
  | 68 => length == 1
  | 69 => length == 1
  | 70 => length == 1
  | 71 => length == 1
  | _ => false

/-- A hint field: 65535 means no hint (R190). -/
def hintOf (w : Word) : Option Nat := if w.toNat = Config.absentWord then none else some w.toNat

/-- The body of a reply of a known type read into the frame's fields (R190). -/
def frameOf (type : Nat) (body : List Byte) : Option Frame :=
  match type, body with
  | 65, [] => some .idle
  | 66, ch :: pr :: ph :: h1 :: h0 :: label => some (.request ch pr ph (hintOf (joinWord h1 h0)) label)
  | 67, [ch] => some (.release ch)
  | 68, [ch] => some (.move ch)
  | 69, [ch] => some (.confirm ch)
  | 70, [ch] => some (.query ch)
  | 71, [force] => some (.changeover (forceOfByte force))
  | _, _ => none

/-! ## Records read by the host (R193) -/

/-- The twelve label bytes after the label's length, the unused ones 0. -/
def labelBytes (label : List Byte) : List Byte :=
  byteOf label.length :: (label ++ List.replicate (Config.labelCapacity - label.length) 0)

/-- The slot record: one byte for a FREE slot, 29 for any other. -/
def slotRecord (x : Slot) : List Byte :=
  match x with
  | .free => [0]
  | .owned o =>
    [slotCode x] ++ wordOf o.frequency ++ optionalWord (o.move.map MoveWindow.pending) ++
      [byteOf ((o.move.map fun w => w.counter.count).getD 0), byteOf o.profile.val, byteOf o.zone.val,
        byteOf o.station.val, byteOf o.channel.val, phaseCode o.phase] ++
      labelBytes o.label ++ optionalWord o.suspect ++ [markOf o.conflict] ++
      wordOf (match o.state with
        | .stale (some h) => h.count
        | .stale none => 0
        | .active => 0)
  | .pinned p =>
    [slotCode x] ++ wordOf p.frequency ++ optionalWord none ++
      [0, byteOf p.profile.val, byteOf p.zone.val, byteOf Config.absentByte, byteOf Config.absentByte, 0] ++
      labelBytes p.label ++ optionalWord p.suspect ++ [markOf p.conflict] ++ wordOf 0
  | .spare r =>
    [slotCode x] ++ wordOf r.frequency ++ optionalWord none ++
      [0, byteOf r.profile.val, byteOf r.zone.val, byteOf Config.absentByte, byteOf Config.absentByte, 0] ++
      labelBytes [] ++ optionalWord none ++ [markOf r.conflict] ++ wordOf 0

/-- The station record, 15 bytes; for an absent record the bytes after the first are 0. -/
def stationRecord (x : Option Station) : List Byte :=
  match x with
  | none => List.replicate 15 0
  | some st =>
    [1, byteOf st.branch.val, byteOf st.address, byteOf st.zone.val, byteOf st.ceiling, markOf st.authority,
      linkCode st.link, byteOf st.failures, leaseCode st.leaseState, byteOf st.lease.count, byteOf st.held,
      markOf st.openRequest, byteOf st.answers.length, byteOf st.notices.length, markOf st.resync]

/-- A foreign entry, 6 bytes. -/
def foreignRecord (e : ForeignEntry) : List Byte :=
  wordOf e.index ++ [foreignCode e.confirmed, byteOf e.peak, byteOf e.hits, byteOf e.misses]

/-- The failing test's number and the two evidence numbers (R62, R193). -/
def evidenceBytes (f : TestFailure) : List Byte :=
  match f with
  | .t1 => [1] ++ optionalWord none ++ optionalWord none
  | .t2 band => [2] ++ wordOf band ++ optionalWord none
  | .t3 index => [3] ++ wordOf index ++ optionalWord none
  | .t4 slot => [4] ++ wordOf slot.val ++ optionalWord none
  | .t5 a b => [5] ++ wordOf a.val ++ wordOf b.val
  | .t6 e v => [6] ++ wordOf e.val ++ wordOf v.val

/-- The kind of console engine work (R193). -/
def kindCode (k : HostKind) : Byte :=
  match k with
  | .check => 1
  | .pin => 2
  | .audit => 3

/-- The outcome's code (R193). -/
def outcomeCode (x : HostOutcome) : Byte :=
  match x with
  | .pass => 1
  | .fail _ => 2
  | .pinned _ => 3
  | .full => 4
  | .retry => 5
  | .count _ => 6
  | .abandoned => 7

/-- The result record less the console open-request flag, 12 bytes. The manual states no value for the count field of an
outcome other than COUNT: `free` stands there (log entry 15). -/
def resultRecord (free : Word) (r : ResultRecord) : List Byte :=
  match r.entry with
  | none => [r.number, 0, 0, 0] ++ optionalWord none ++ optionalWord none ++ optionalWord none ++ splitWord free
  | some (kind, outcome) =>
    [r.number, kindCode kind, outcomeCode outcome] ++
      (match outcome with
        | .fail f => evidenceBytes f
        | _ => [0] ++ optionalWord none ++ optionalWord none) ++
      (match outcome with
        | .pinned slot => wordOf slot.val
        | _ => optionalWord none) ++
      (match outcome with
        | .count n => wordOf n
        | _ => splitWord free)

/-- The items of WRITE SWEEP, as READ SWEEP returns them (R191). -/
def sweepConfigBytes (c : SweepConfig) : List Byte :=
  wordOf c.lo ++ wordOf c.hi ++
    [byteOf c.step, byteOf c.settle, byteOf c.threshold, byteOf c.hysteresis, byteOf c.k, byteOf c.m, byteOf c.e,
      byteOf c.gap] ++
    word24Of c.offset ++ [byteOf c.scale]

/-- The four spare slot fields of READ ZONE, head first, 65535 where unused (R191). -/
def spareBytes (spares : List (Fin 384)) : List Byte :=
  (List.range 4).flatMap fun k => optionalWord (spares[k]?.map Fin.val)

/-! ## Responses (R172, R173) -/

/-- The response of a request: the status byte, then the data. -/
def respond (x : Status) (data : List Byte) (s : State) : State :=
  { s with console := { s.console with response := statusCode x :: data } }

/-- The byte that the host clocks out at place `k` after the last parameter byte of the request last taken: the status at
place 0, then the data, and 0 beyond the end of the response (R172), which for a request refused at a check is every byte
after the status (R173). With no request taken there is none (R174, R186). -/
def clockedOut (s : State) (k : Nat) : Option Byte :=
  match s.console.response with
  | [] => none
  | status :: data => some ((status :: data).getD k 0)

/-- A request whose status is not OK returns only its status and has changed nothing (R173). -/
def deny (x : Status) (s : State) : Host.Outcome State Fault Refusal := .next (respond x [] s)

/-- A request that is carried out and returns data. -/
def accept (data : List Byte) (s : State) : Host.Outcome State Fault Refusal := .next (respond .ok data s)

end Sys2Proof.Machine
end

