-- ==== Sys2Proof/Machine/Engine.lean ====
section
/-! DEFINITION. The Search Engine (chapter 4): the request queue and intake of console work, walks, completions, re-tests
and re-searches, spare refills, CHECK, checked PIN and AUDIT, what STOP and CLEAR do to the engine, and the console
result record (R179). -/

namespace Sys2Proof.Machine

/-! ## The request queue (R65 to R68) -/

/-- The class of a queue entry (R65). -/
def Work.rank (w : Work) : Nat :=
  match w with
  | .check _ => 0
  | .pin _ => 0
  | .audit => 0
  | .move _ => 1
  | .request _ => 2

/-- The station a queue entry comes from; none for the console (R65). -/
def Work.station? (w : Work) : Option (Fin 48) :=
  match w with
  | .request r => some r.station
  | .move m => some m.station
  | .check _ => none
  | .pin _ => none
  | .audit => none

/-- The kind of console engine work; none for a station's (R179). -/
def Work.hostKind? (w : Work) : Option HostKind :=
  match w with
  | .check _ => some .check
  | .pin _ => some .pin
  | .audit => some .audit
  | .request _ => none
  | .move _ => none

/-- An entry joins after every entry of its class, and before every entry of a higher one (R65, R66). -/
def enqueue (w : Work) (q : List Work) : List Work :=
  q.takeWhile (fun x => x.rank ≤ w.rank) ++ w :: q.dropWhile (fun x => x.rank ≤ w.rank)

/-- The queue has room (R71, R72). -/
def queueHasRoom (s : State) : Bool := s.engine.queue.length < Config.queueCapacity

/-- An entry joins the queue and the occupancy rises by one, which may set DEFER (R68). -/
def joinQueue (w : Work) (s : State) : State :=
  deferSet { s with engine := { s.engine with queue := enqueue w s.engine.queue } }

/-- A station's request joins the queue and its open-request flag is set (R67, R71, R72). -/
def openStationWork (r : Fin 48) (w : Work) (s : State) : State :=
  joinQueue w (changeStation r (fun st => { st with openRequest := true }) s)

/-- The console's work joins the queue and the console's open-request flag is set (R67, R72). -/
def openHostWork (w : Work) (s : State) : State :=
  joinQueue w { s with console := { s.console with openRequest := true } }

/-! ## The result record (R179) -/

/-- An outcome is placed: the record is replaced, the number rises by one, the console's open-request flag is cleared and
ENGINE_DONE is raised (R67, R179). -/
def placeResult (kind : HostKind) (outcome : HostOutcome) (s : State) : State :=
  raise .engineDone
    { s with
      console :=
        { s.console with
          openRequest := false
          result := { number := s.console.result.number + 1, entry := some (kind, outcome) } } }

/-! ## The contexts -/

/-- The work of a search: a station REQUEST, a station MOVE or a spare refill (section 4.4). -/
inductive Job where
  | request (w : RequestWork)
  | move (w : MoveWork)
  | refill (zone : Fin 16)
  deriving DecidableEq, Repr

/-- The foreground context holds no work: the engine is free (R66). -/
def engineFree (s : State) : Bool := s.engine.foreground.isNone

/-- The search that the engine is making now: the foreground's, or else the background refill's while the foreground and
the queue are empty and the part is in RUN. A refill held otherwise is suspended (R84, R85). -/
def activeSearch (s : State) : Option (Job × SearchContext) :=
  match s.engine.foreground with
  | some (.request w c) => some (.request w, c)
  | some (.move w c) => some (.move w, c)
  | some (.pin _ _) => none
  | some (.audit _ _) => none
  | none =>
    if s.engine.queue.isEmpty && inRun s then s.engine.background.map fun b => (.refill b.zone, b.context) else none

/-- The context of a search as it now stands. -/
def setContext (job : Job) (c : SearchContext) (s : State) : State :=
  match job with
  | .request w => { s with engine := { s.engine with foreground := some (.request w c) } }
  | .move w => { s with engine := { s.engine with foreground := some (.move w c) } }
  | .refill z => { s with engine := { s.engine with background := some { zone := z, context := c } } }

/-- The foreground context holds no work. -/
def leaveForeground (s : State) : State := { s with engine := { s.engine with foreground := none } }

/-- The background context holds no refill. -/
def leaveBackground (s : State) : State := { s with engine := { s.engine with background := none } }

/-- The zone of a station's record (R44). Engine work of a station keeps its record present (R167); zone 0 stands for an
absent record, which no run reaches (log entry 22). -/
def stationZone (s : State) (r : Fin 48) : Fin 16 :=
  match s.stations.read r with
  | some st => st.zone
  | none => 0

/-- The profile of a search (R44, R73). -/
def Job.profile (job : Job) (s : State) : Fin 16 :=
  match job with
  | .request w => w.profile
  | .move w => w.profile
  | .refill z => (s.plan.zones.read z).spareProfile

/-- The zone of a search (R44, R73). -/
def Job.zone (job : Job) (s : State) : Fin 16 :=
  match job with
  | .request w => stationZone s w.station
  | .move w => w.zone
  | .refill z => z

/-- The hint of a search: only a REQUEST may carry one (R47, R73). -/
def Job.hint (job : Job) : Option Nat :=
  match job with
  | .request w => w.hint
  | .move _ => none
  | .refill _ => none

/-- The slot whose elements are left out of every evaluation of a search (R44, R53). -/
def Job.leftOut (job : Job) : Option (Fin 384) :=
  match job with
  | .request _ => none
  | .move w => some w.slot
  | .refill _ => none

/-- The slot named in a MOVE entry is still owned by the moving station and channel: it is the moving slot (R80). -/
def stillMoving (s : State) (w : MoveWork) : Bool := (s.slots.read w.slot).ownedBy w.station w.channel

/-- The index a walk passes over: the moving slot's frequency as it stands (R50). -/
def Job.passOver (job : Job) (s : State) : Option Nat :=
  match job with
  | .request _ => none
  | .move w => if stillMoving s w then (s.slots.read w.slot).frequency? else none
  | .refill _ => none

/-- The evaluation of a candidate for a search (R44, R74). -/
def evaluateFor (job : Job) (f : Nat) (s : State) : Option TestFailure :=
  evaluate s (job.profile s) (job.zone s) job.leftOut f

/-! ## Ends of a search -/

/-- A zone enters the barred set (R83, R87). -/
def barZone (z : Fin 16) (s : State) : State :=
  { s with engine := { s.engine with barred := s.engine.barred.write z true } }

/-- The answer of a station's search is handed over: the open-request flag is cleared and the foreground is empty (R67,
R79, R80). -/
def answerWork (r : Fin 48) (a : Answer) (s : State) : State := leaveForeground (closeRequest r (giveAnswer r a s))

/-- A search ends without a record: a station is refused with the reason, a MOVE whose slot is gone with UNKNOWN_CHANNEL
(R78, R80), and a refill bars its zone (R83). -/
def closeSearch (job : Job) (why : RefuseReason) (s : State) : State :=
  match job with
  | .request w => answerWork w.station (.refused (byteOf w.channel.val) why) s
  | .move w =>
    answerWork w.station (.refused (byteOf w.channel.val) (if stillMoving s w then why else .unknownChannel)) s
  | .refill z => barZone z (leaveBackground s)

/-- A search's walk begins, the first or a re-search: e0 recorded, the moved mark clear, the order formed now (R73, R77).
A walk that holds no candidate ends with NONE in this event (R78). -/
def beginWalk (job : Job) (research : Nat) (s : State) : State :=
  let w := formWalk s (job.profile s) (job.zone s) job.hint
  match w.next (job.passOver s) with
  | none => closeSearch job .noneFound s
  | some _ => setContext job { e0 := s.epoch, moved := false, research := research, walk := w, stage := .walking } s

/-! ## Spare refills (R82, R83, R127) -/

/-- The zone wants a spare: its list is shorter than its spare depth (R127). -/
def wantsSpare (s : State) (z : Fin 16) : Bool := (s.zones.read z).spares.length < (s.plan.zones.read z).depth

/-- A refill may start: RUN, an empty foreground, an empty queue, an empty background and a FREE slot (R82). -/
def refillAllowed (s : State) : Bool :=
  inRun s && engineFree s && s.engine.queue.isEmpty && s.engine.background.isNone && (lowestFree s).isSome

/-- The lowest-numbered of the zones given that wants a spare and is not barred begins its refill; a refill whose walk
holds no candidate ends at once, bars its zone, and the next zone is taken (R78, R82, R83). -/
def startRefillFrom (zs : List (Fin 16)) (s : State) : State :=
  match zs with
  | [] => s
  | z :: rest =>
    if wantsSpare s z && !(s.engine.barred.read z) then
      let s' := beginWalk (.refill z) 0 s
      if s'.engine.background.isSome then s' else startRefillFrom rest s'
    else startRefillFrom rest s

/-- A refill starts in the event in which the last of its conditions comes to hold (R82). -/
def startRefill (s : State) : State := if refillAllowed s then startRefillFrom (List.finRange 16) s else s

/-- The refill held for a zone is discarded; the zone is not barred (R86). -/
def discardRefill (z : Fin 16) (s : State) : State :=
  match s.engine.background with
  | some b => if b.zone = z then leaveBackground s else s
  | none => s

/-! ## Recording (R79, R80, R83) -/

/-- The hold counter of a slot that turns STALE or is recorded STALE: H, when H is above 0 (R26). -/
def staleHold (s : State) : Option TickCounter := if 0 < s.timing.hold then some (loaded s.timing.hold) else none

/-- The slot that a grant writes (R31). -/
def grantSlot (s : State) (w : RequestWork) (f : Nat) : Slot :=
  .owned
    { state :=
        match s.stations.read w.station with
        | some st => if st.leaseState = .lapsed then .stale (staleHold s) else .active
        | none => .active
      frequency := f
      move := none
      profile := w.profile
      zone := stationZone s w.station
      station := w.station
      channel := w.channel
      phase := w.phase
      label := grantLabel w.label
      suspect := none
      conflict := false }

/-- The found candidate of a REQUEST is recorded, or refused FULL (R79). -/
def recordGrant (w : RequestWork) (f : Nat) (s : State) : State :=
  match lowestFree s with
  | none => closeSearch (.request w) .full s
  | some i =>
    answerWork w.station (.granted w.channel f false)
      (advanceEpoch (raiseHeld w.station (setSlot i (grantSlot s w f) s)))

/-- A slot's open move: the pending index, and the move counter loaded with the move time (R24). -/
def openMove (index ticks : Nat) (x : Slot) : Slot :=
  match x with
  | .owned o => .owned { o with move := some { pending := index, counter := loaded ticks } }
  | .free => .free
  | .pinned p => .pinned p
  | .spare r => .spare r

/-- The found candidate of a MOVE is written as the slot's pending index (R80). -/
def recordMove (w : MoveWork) (f : Nat) (s : State) : State :=
  answerWork w.station (.moveTo w.channel f)
    (advanceEpoch (setSlot w.slot (openMove f s.timing.moveTime (s.slots.read w.slot)) s))

/-- The found candidate of a refill becomes a SPARE slot at the tail of its zone's list, or nothing is recorded and the
zone is barred (R32, R83). -/
def recordSpare (z : Fin 16) (f : Nat) (s : State) : State :=
  match lowestFree s with
  | none => closeSearch (.refill z) .full s
  | some i =>
    leaveBackground
      (advanceEpoch
        (changeZone z (fun zs => { zs with spares := zs.spares ++ [i] })
          (setSlot i
            (.spare { frequency := f, profile := (s.plan.zones.read z).spareProfile, zone := z, conflict := false }) s)))

/-- The found candidate of a search is recorded (section 4.5, R83). -/
def recordFound (job : Job) (f : Nat) (s : State) : State :=
  match job with
  | .request w => recordGrant w f s
  | .move w => recordMove w f s
  | .refill z => recordSpare z f s

/-! ## The events of a search (R74 to R78) -/

/-- A full re-search, or RETRY once the re-search count is 2 (R77). -/
def fullResearch (job : Job) (c : SearchContext) (s : State) : State :=
  if c.research < 2 then beginWalk job (c.research + 1) s else closeSearch job .retry s

/-- The next candidate of the walk is evaluated (R74, R78). -/
def evaluateNext (job : Job) (c : SearchContext) (s : State) : State :=
  match c.walk.next (job.passOver s) with
  | none => closeSearch job .noneFound s
  | some (f, cursor) =>
    let walked := { c with walk := { c.walk with cursor := cursor } }
    if (evaluateFor job f s).isNone then setContext job { walked with stage := .found f } s
    else if (walked.walk.next (job.passOver s)).isNone then closeSearch job .noneFound s
    else setContext job walked s

/-- A MOVE whose slot is gone ends with UNKNOWN_CHANNEL at its completion (R80). -/
def moveGone (job : Job) (s : State) : Bool :=
  match job with
  | .request _ => false
  | .move w => !stillMoving s w
  | .refill _ => false

/-- The completion of a walk or of a re-test with the found candidate `f` (R75, R76, R77, R80). -/
def completeSearch (job : Job) (c : SearchContext) (f : Nat) (afterRetest : Bool) (s : State) : State :=
  if moveGone job s then closeSearch job .unknownChannel s
  else if c.moved = false then recordFound job f s
  else if afterRetest then fullResearch job c s
  else if c.research < 2 then setContext job { c with e0 := s.epoch, moved := false, stage := .retestDue f } s
  else closeSearch job .retry s

/-- The re-test of a search's found candidate; its failure begins a full re-search in the same event (R76). -/
def retestSearch (job : Job) (c : SearchContext) (f : Nat) (s : State) : State :=
  if (evaluateFor job f s).isNone then setContext job { c with stage := .retested f } s else fullResearch job c s

/-! ## Checked PIN (R89) -/

/-- The outcome of a checked PIN is placed and the foreground is empty. -/
def closePin (outcome : HostOutcome) (s : State) : State := leaveForeground (placeResult .pin outcome s)

/-- The evaluation of a checked PIN, with nothing left out (R62, R89). -/
def evaluatePin (w : PinWork) (s : State) : Option TestFailure := evaluate s w.profile w.zone none w.index

/-- A checked PIN is evaluated with a re-search count: a failure ends the work, a pass goes to a completion. -/
def beginPin (w : PinWork) (research : Nat) (s : State) : State :=
  match evaluatePin w s with
  | some f => closePin (.fail f) s
  | none =>
    { s with
      engine :=
        { s.engine with
          foreground :=
            some
              (.pin w
                { e0 := s.epoch, moved := false, research := research,
                  walk := { lowest := w.index, step := 1, count := 1, start := none, cursor := 1 },
                  stage := .found w.index }) } }

/-- The re-test of a checked PIN (R76, R89). -/
def retestPin (w : PinWork) (c : SearchContext) (s : State) : State :=
  match evaluatePin w s with
  | some f => closePin (.fail f) s
  | none =>
    { s with engine := { s.engine with foreground := some (.pin w { c with stage := .retested w.index }) } }

/-- The record of a checked PIN, or FULL (R33, R89). -/
def recordCheckedPin (w : PinWork) (s : State) : State :=
  match lowestFree s with
  | none => closePin .full s
  | some i => closePin (.pinned i) (recordPin i w.index w.profile w.zone w.label s)

/-- The completion of a checked PIN under the epoch rule; a full re-search is one further evaluation, made here
(R89, log entry 12). -/
def completePin (w : PinWork) (c : SearchContext) (afterRetest : Bool) (s : State) : State :=
  if c.moved = false then recordCheckedPin w s
  else if 2 ≤ c.research then closePin .retry s
  else if afterRetest then beginPin w (c.research + 1) s
  else
    { s with
      engine :=
        { s.engine with
          foreground := some (.pin w { c with e0 := s.epoch, moved := false, stage := .retestDue w.index }) } }

/-! ## Audit (R90, R91) -/

/-- One visit: a counted slot's conflict field is set or cleared (R90). -/
def auditSlot (i : Fin 384) (s : State) : State := setSlot i ((s.slots.read i).withConflict (auditFinds s i)) s

/-- The count after the visit to a slot (R91). -/
def auditTally (i : Fin 384) (flagged : Nat) (s : State) : Nat := if auditFinds s i then flagged + 1 else flagged

/-- The audit's end: the count is placed and CONFLICT is raised if it is not zero (R91). -/
def closeAudit (flagged : Nat) (s : State) : State :=
  let s := leaveForeground (placeResult .audit (.count flagged) s)
  if flagged = 0 then s else raise .conflict s

/-- The visit to slot `n`, and what follows it: the next visit, or the end after slot 383 (R90, R91). -/
def auditVisit (n flagged : Nat) (s : State) : State :=
  if h : n < 384 then
    let tally := auditTally ⟨n, h⟩ flagged s
    let s := auditSlot ⟨n, h⟩ s
    if n + 1 < 384 then { s with engine := { s.engine with foreground := some (.audit (n + 1) tally) } }
    else closeAudit tally s
  else s

/-! ## The taking (R66, R73, R88 to R90) -/

/-- The entry at the front leaves the queue, which may clear DEFER (R66, R68). -/
def dequeue (rest : List Work) (s : State) : State :=
  deferClear { s with engine := { s.engine with queue := rest } }

/-- The work begins in the event that takes it. -/
def beginWork (w : Work) (s : State) : State :=
  match w with
  | .request r => beginWalk (.request r) 0 s
  | .move m => if stillMoving s m then beginWalk (.move m) 0 s else closeSearch (.move m) .unknownChannel s
  | .check k =>
    placeResult .check
      (match evaluate s k.profile k.zone none k.index with
        | none => .pass
        | some f => .fail f) s
  | .pin p => beginPin p 0 s
  | .audit => auditVisit 0 0 s

/-- The free engine takes the oldest entry of the lowest class present (R66). -/
def takeWork (s : State) : State :=
  if engineFree s then
    match s.engine.queue with
    | [] => s
    | w :: rest => beginWork w (dequeue rest s)
  else s

/-! ## Abandonment (R92, R93) -/

/-- The station that the foreground work is for. -/
def Foreground.station? (f : Foreground) : Option (Fin 48) :=
  match f with
  | .request w _ => some w.station
  | .move w _ => some w.station
  | .pin _ _ => none
  | .audit _ _ => none

/-- The kind of console work in the foreground. -/
def Foreground.hostKind? (f : Foreground) : Option HostKind :=
  match f with
  | .request _ _ => none
  | .move _ _ => none
  | .pin _ _ => some .pin
  | .audit _ _ => some .audit

/-- The stations whose work is queued or in the foreground. -/
def openStations (e : Engine) : List (Fin 48) :=
  (e.foreground.bind Foreground.station?).toList ++ e.queue.filterMap Work.station?

/-- The console work in the foreground or queued. -/
def openHostKinds (e : Engine) : List HostKind :=
  (e.foreground.bind Foreground.hostKind?).toList ++ e.queue.filterMap Work.hostKind?

/-- All engine work is abandoned: stations without an answer, the console with ABANDONED; the refill is discarded, the
queue emptied and DEFER cleared (R92, R93). -/
def abandonWork (s : State) : State :=
  let s' := (openStations s.engine).foldl (fun t r => closeRequest r t) s
  let s'' := (openHostKinds s.engine).foldl (fun t k => placeResult k .abandoned t) s'
  { s'' with engine := { s''.engine with queue := [], foreground := none, background := none, defer := false } }

/-! ## Console engine work at its arrival (R72) -/

/-- The checks that all console engine work makes of the console and the queue, then the joining (R72). -/
def queueHostWork (w : Work) (s : State) : Host.Outcome State Fault Refusal :=
  if s.console.openRequest || !queueHasRoom s then deny .busy s else accept [] (openHostWork w s)

/-- An index, a DEFINED profile and a zone as CHECK and PIN carry them (R33, R72). -/
def pinParameters (s : State) (index : Word) (profile zone : Byte) : Option (Fin 16 × Fin 16) :=
  match numberBelow 16 profile.toNat, numberBelow 16 zone.toNat with
  | some p, some z => if onGrid index.toNat && (s.plan.profiles.read p).defined then some (p, z) else none
  | _, _ => none

/-- A PIN with the check flag set, as it arrives (R72). -/
def queueCheckedPin (index : Word) (profile zone : Byte) (label : List Byte) (s : State) :
    Host.Outcome State Fault Refusal :=
  match pinParameters s index profile zone with
  | none => deny .range s
  | some (p, z) =>
    if labelValid label then queueHostWork (.pin { index := index.toNat, profile := p, zone := z, label := label }) s
    else deny .range s

/-! ## The commands -/

/-- CHECK (R72, R88). -/
def execCheck (index : Word) (profile zone : Byte) (s : State) : Host.Outcome State Fault Refusal :=
  match pinParameters s index profile zone with
  | none => deny .range s
  | some (p, z) => queueHostWork (.check { index := index.toNat, profile := p, zone := z }) s

/-- CHECKED_PIN (R72, R89). -/
def execCheckedPin (index : Word) (profile zone : Byte) (label : List Byte) (s : State) :
    Host.Outcome State Fault Refusal :=
  queueCheckedPin index profile zone label s

/-- AUDIT (R72, R90). -/
def execAudit (s : State) : Host.Outcome State Fault Refusal := queueHostWork .audit s

/-- ENGINE_TAKE (R66). -/
def execEngineTake (s : State) : Host.Outcome State Fault Refusal := .next (startRefill (takeWork s))

/-- CANDIDATE_EVALUATION (R74): due while a search is walking. -/
def execCandidateEvaluation (s : State) : Host.Outcome State Fault Refusal :=
  match activeSearch s with
  | some (job, c) => if c.stage = .walking then .next (startRefill (evaluateNext job c s)) else .next s
  | none => .next s

/-- SEARCH_COMPLETION (R75): due after the passing evaluation of a walk or of a re-test. -/
def execSearchCompletion (s : State) : Host.Outcome State Fault Refusal :=
  match activeSearch s with
  | some (job, c) =>
    match c.stage with
    | .found f => .next (startRefill (completeSearch job c f false s))
    | .retested f => .next (startRefill (completeSearch job c f true s))
    | .walking => .next s
    | .retestDue _ => .next s
  | none => .next s

/-- RE_TEST (R76, R89): due after a completion that found the epoch changed. -/
def execReTest (s : State) : Host.Outcome State Fault Refusal :=
  match s.engine.foreground with
  | some (.pin w c) =>
    match c.stage with
    | .retestDue _ => .next (startRefill (retestPin w c s))
    | _ => .next s
  | _ =>
    match activeSearch s with
    | some (job, c) =>
      match c.stage with
      | .retestDue f => .next (startRefill (retestSearch job c f s))
      | _ => .next s
    | none => .next s

/-- CHECKED_PIN_COMPLETION (R89): due after a passing evaluation of a checked PIN. -/
def execCheckedPinCompletion (s : State) : Host.Outcome State Fault Refusal :=
  match s.engine.foreground with
  | some (.pin w c) =>
    match c.stage with
    | .found _ => .next (startRefill (completePin w c false s))
    | .retested _ => .next (startRefill (completePin w c true s))
    | .walking => .next s
    | .retestDue _ => .next s
  | _ => .next s

/-- AUDIT_VISIT (R90): the next visit of the audit in the foreground. -/
def execAuditVisit (s : State) : Host.Outcome State Fault Refusal :=
  match s.engine.foreground with
  | some (.audit n flagged) => .next (startRefill (auditVisit n flagged s))
  | _ => .next s

/-- READ_RESULT (R180). -/
def execReadResult (s : State) : Host.Outcome State Fault Refusal :=
  accept (resultRecord (Config.freeValue s.freeUsed) s.console.result ++ [markOf s.console.openRequest]) (showFree s)

end Sys2Proof.Machine
end

