-- ==== Sys2Proof/Machine/Lease.lean ====
section
/-! DEFINITION. The Lease Timer (chapter 5): the tick and the counters it reaches, lapses and returns, holds, moves, and
the frames RELEASE, MOVE and CONFIRM. A tick is taken as a separate event at each counter (R96): TICK leaves one tick
owed at every counter it reaches, and the event at the counter takes it (log entry 4). -/

namespace Sys2Proof.Machine

/-! ## The tick (R94, R96, R100, R103, R113, R123) -/

/-- One more tick is owed at a running counter. -/
def TickCounter.owe (c : TickCounter) : TickCounter := { c with owed := c.owed + 1 }

/-- No tick is owed at a counter. -/
def TickCounter.settle (c : TickCounter) : TickCounter := { c with owed := 0 }

/-- A tick is taken at a counter. -/
def TickCounter.down (c : TickCounter) : TickCounter := { count := c.count - 1, owed := c.owed - 1 }

/-- A slot's hold counter and move counter changed by `f`. -/
def Slot.eachCounter (f : TickCounter → TickCounter) (x : Slot) : Slot :=
  match x with
  | .owned o =>
    .owned
      { o with
        state :=
          match o.state with
          | .active => .active
          | .stale hold => .stale (hold.map f)
        move := o.move.map fun w => { w with counter := f w.counter } }
  | .free => .free
  | .pinned p => .pinned p
  | .spare r => .spare r

/-- The tick reaches a station's lease counter: CURRENT, above 0, on a branch that is not DISABLED (R100). -/
def leaseReached (branches : Table Branch 4) (st : Station) : Bool :=
  st.leaseState == .current && 0 < st.lease.count && (branches.read st.branch).state != .disabled

/-- A tick is issued: it is owed at every counter it reaches (R96). -/
def issueTick (s : State) : State :=
  { s with
    slots := s.slots.each (Slot.eachCounter TickCounter.owe)
    zones := s.zones.each fun z => { z with clearing := z.clearing.map TickCounter.owe }
    stations :=
      s.stations.each (Option.map fun st => if leaseReached s.branches st then { st with lease := st.lease.owe } else st) }

/-- The tick generator stops: no tick is owed and every counter keeps its count (R94, R114). -/
def stopTick (s : State) : State :=
  { s with
    slots := s.slots.each (Slot.eachCounter TickCounter.settle)
    zones := s.zones.each fun z => { z with clearing := z.clearing.map TickCounter.settle }
    stations := s.stations.each (Option.map fun st => { st with lease := st.lease.settle }) }

/-! ## Lapse and return (R99 to R102) -/

/-- An ACTIVE slot of a lapsing station turns STALE with its hold counter (R101). -/
def Slot.lapse (r : Fin 48) (hold : Option TickCounter) (x : Slot) : Slot :=
  match x with
  | .owned o => if o.station = r ∧ o.state = .active then .owned { o with state := .stale hold } else .owned o
  | .free => .free
  | .pinned p => .pinned p
  | .spare q => .spare q

/-- A STALE slot of a returning station turns ACTIVE and its hold counter is removed (R102). -/
def Slot.comeBack (r : Fin 48) (x : Slot) : Slot :=
  match x with
  | .owned o => if o.station = r then .owned { o with state := .active } else .owned o
  | .free => .free
  | .pinned p => .pinned p
  | .spare q => .spare q

/-- The station's record after a lapse: LAPSED, its notices dropped, resync set anew (R101). -/
def Station.lapse (st : Station) : Station :=
  { st with leaseState := .lapsed, lease := loaded 0, notices := [], resync := true, resyncCarried := false }

/-- A station lapses (R101). -/
def lapseStation (r : Fin 48) (s : State) : State :=
  raise .stationLapsed
    (changeStation r Station.lapse { s with slots := s.slots.each (Slot.lapse r (staleHold s)) })

/-- The tick is taken at a station's lease counter (R100); reaching 0 the station lapses in the same event (R101). -/
def tickLease (r : Fin 48) (s : State) : State :=
  match s.stations.read r with
  | none => s
  | some st =>
    if st.lease.owed = 0 ∨ inRun s = false then s
    else if leaseReached s.branches st then
      if st.lease.count = 1 then lapseStation r s else changeStation r (fun t => { t with lease := t.lease.down }) s
    else changeStation r (fun t => { t with lease := t.lease.settle }) s

/-- The Lease Timer takes the notice of a valid reply: the counter is loaded with L, and a LAPSED station returns (R99,
R102). A tick owed at the counter stays owed (R100). A notice whose record was removed or set afresh is dropped
(R99). -/
def takeReplyNotice (r : Fin 48) (s : State) : State :=
  match s.stations.read r with
  | none => s
  | some st =>
    if st.validReplies = 0 then s
    else
      let s' :=
        changeStation r
          (fun t =>
            { t with
              validReplies := t.validReplies - 1
              leaseState := .current
              lease := { t.lease with count := s.timing.lease } }) s
      if st.leaseState = .lapsed then { s' with slots := s'.slots.each (Slot.comeBack r) } else s'

/-! ## Holds and move windows (R103, R104, R113) -/

/-- The hold counter of a STALE slot. -/
def Slot.hold? (x : Slot) : Option TickCounter :=
  match x with
  | .owned o =>
    match o.state with
    | .stale hold => hold
    | .active => none
  | .free => none
  | .pinned _ => none
  | .spare _ => none

/-- The move counter of a slot with an open move. -/
def Slot.moveCounter? (x : Slot) : Option TickCounter :=
  match x with
  | .owned o => o.move.map MoveWindow.counter
  | .free => none
  | .pinned _ => none
  | .spare _ => none

/-- A tick is taken at a slot's hold counter. -/
def Slot.holdDown (x : Slot) : Slot :=
  match x with
  | .owned o =>
    match o.state with
    | .stale hold => .owned { o with state := .stale (hold.map TickCounter.down) }
    | .active => .owned o
  | .free => .free
  | .pinned p => .pinned p
  | .spare r => .spare r

/-- A tick is taken at a slot's move counter. -/
def Slot.moveDown (x : Slot) : Slot :=
  match x with
  | .owned o => .owned { o with move := o.move.map fun w => { w with counter := w.counter.down } }
  | .free => .free
  | .pinned p => .pinned p
  | .spare r => .spare r

/-- A slot's pending index and move counter are removed together (R24). -/
def Slot.dropMove (x : Slot) : Slot :=
  match x with
  | .owned o => .owned { o with move := none }
  | .free => .free
  | .pinned p => .pinned p
  | .spare r => .spare r

/-- A pending index is dropped, which empties the barred set (R24, R87). -/
def dropPending (i : Fin 384) (s : State) : State := emptyBarred (setSlot i (s.slots.read i).dropMove s)

/-- The tick is taken at a slot's hold counter; reaching 0 the slot is retired with HOLD_EXPIRED (R103, R104). -/
def tickHold (i : Fin 384) (s : State) : State :=
  match (s.slots.read i).hold? with
  | none => s
  | some h =>
    if h.owed = 0 ∨ inRun s = false then s
    else if h.count ≤ 1 then startRefill (retireSlot (some .holdExpired) i s)
    else setSlot i (s.slots.read i).holdDown s

/-- A move lapses: the pending index is dropped and MOVE_LAPSED is handed over (R113). -/
def lapseMove (i : Fin 384) (s : State) : State :=
  match s.slots.read i with
  | .owned o => giveNotice o.station (.moveLapsed o.channel) (dropPending i s)
  | _ => s

/-- The tick is taken at a slot's move counter; reaching 0 the move lapses (R113). -/
def tickMove (i : Fin 384) (s : State) : State :=
  match (s.slots.read i).moveCounter? with
  | none => s
  | some c =>
    if c.owed = 0 ∨ inRun s = false then s
    else if c.count ≤ 1 then startRefill (lapseMove i s)
    else setSlot i (s.slots.read i).moveDown s

/-! ## The station frames (R105, R107 to R111) -/

/-- RELEASE (R105). -/
def handleRelease (r : Fin 48) (ch : Fin 64) (s : State) : State :=
  match ownedSlot r ch s with
  | none => refuse r ch .unknownChannel s
  | some (i, _) => giveAnswer r (.released ch) (retireSlot none i s)

/-- The head spare of a zone, with its record, when it is held under the profile (R108). -/
def fittingSpare (s : State) (z p : Fin 16) : Option (Fin 384 × Spare) :=
  match (s.zones.read z).spares with
  | [] => none
  | j :: _ =>
    match s.slots.read j with
    | .spare sp => if sp.profile = p then some (j, sp) else none
    | _ => none

/-- Steps 5 and 6 of MOVE intake: by the head spare, or by the engine (R108, R109). The handover frees the spare's slot and
writes its index as the moving slot's pending index in one event (R25). -/
def moveOnward (r : Fin 48) (ch : Fin 64) (i : Fin 384) (o : Owned) (s : State) : State :=
  match fittingSpare s o.zone o.profile with
  | some (j, sp) =>
    let s := retireSlot none j s
    giveAnswer r (.moveTo ch sp.frequency)
      (setSlot i (openMove sp.frequency s.timing.moveTime (s.slots.read i)) s)
  | none =>
    if queueHasRoom s then
      openStationWork r (.move { station := r, channel := ch, slot := i, profile := o.profile, zone := o.zone }) s
    else refuse r ch .busy s

/-- The station's open-request flag. -/
def requestOpen (s : State) (r : Fin 48) : Bool :=
  match s.stations.read r with
  | some st => st.openRequest
  | none => false

/-- MOVE (R107). -/
def handleMove (r : Fin 48) (ch : Fin 64) (s : State) : State :=
  match ownedSlot r ch s with
  | none => refuse r ch .unknownChannel s
  | some (i, o) =>
    if requestOpen s r then refuse r ch .busy s
    else
      match o.move with
      | none => moveOnward r ch i o s
      | some w =>
        if suspectPending s o then moveOnward r ch i o (dropPending i s) else giveAnswer r (.moveTo ch w.pending) s

/-- The new frequency of a confirmed move takes effect: the suspect field is evaluated afresh for it (R110). -/
def confirmSlot (s : State) (o : Owned) (index : Nat) : Slot :=
  .owned { o with frequency := index, move := none, suspect := nearestForeign s index none }

/-- CONFIRM (R110, R111). -/
def handleConfirm (r : Fin 48) (ch : Fin 64) (s : State) : State :=
  match ownedSlot r ch s with
  | none => refuse r ch .unknownChannel s
  | some (i, o) =>
    match o.move with
    | none => refuse r ch .notMoving s
    | some w =>
      let moved := withdrawAdvice r ch (emptyBarred (setSlot i (confirmSlot s o w.pending) s))
      let advised :=
        match nearestForeign s w.pending none with
        | none => moved
        | some x => giveNotice r (.moveAdvised ch x) moved
      giveAnswer r (.confirmed ch w.pending) advised

/-! ## The commands -/

/-- TICK (R94): issued only while the generator runs, which is in RUN. -/
def execTick (s : State) : Host.Outcome State Fault Refusal := .next (if inRun s then issueTick s else s)

/-- LEASE_COUNTER_DECREMENT (R100, R101). -/
def execLeaseCounterDecrement (r : Fin 48) (s : State) : Host.Outcome State Fault Refusal := .next (tickLease r s)

/-- LAPSE (R101): the tick taken at a lease counter that stands at 1. -/
def execLapse (r : Fin 48) (s : State) : Host.Outcome State Fault Refusal :=
  match s.stations.read r with
  | some st => if st.lease.count = 1 then .next (tickLease r s) else .next s
  | none => .next s

/-- HOLD_COUNTER_DECREMENT (R103, R104). -/
def execHoldCounterDecrement (i : Fin 384) (s : State) : Host.Outcome State Fault Refusal := .next (tickHold i s)

/-- HOLD_EXPIRY (R104): the tick taken at a hold counter that stands at 1. -/
def execHoldExpiry (i : Fin 384) (s : State) : Host.Outcome State Fault Refusal :=
  match (s.slots.read i).hold? with
  | some h => if h.count = 1 then .next (tickHold i s) else .next s
  | none => .next s

/-- MOVE_COUNTER_DECREMENT (R113). -/
def execMoveCounterDecrement (i : Fin 384) (s : State) : Host.Outcome State Fault Refusal := .next (tickMove i s)

/-- MOVE_LAPSE (R113): the tick taken at a move counter that stands at 1. -/
def execMoveLapse (i : Fin 384) (s : State) : Host.Outcome State Fault Refusal :=
  match (s.slots.read i).moveCounter? with
  | some c => if c.count = 1 then .next (tickMove i s) else .next s
  | none => .next s

/-- VALID_REPLY_NOTICE (R99, R102). -/
def execValidReplyNotice (r : Fin 48) (s : State) : Host.Outcome State Fault Refusal := .next (takeReplyNotice r s)

/-- WRITE_TIME_BASE (R95): a code that names no period is refused RANGE before the mode is looked at. -/
def execWriteTimeBase (code : Byte) (s : State) : Host.Outcome State Fault Refusal :=
  match periodOfCode code.toNat with
  | none => deny .range s
  | some p => if inRun s then deny .mode s else accept [] { s with timing := { s.timing with period := p } }

/-- WRITE_LEASE (R97). -/
def execWriteLease (period : Byte) (s : State) : Host.Outcome State Fault Refusal :=
  if 1 ≤ period.toNat then accept [] { s with timing := { s.timing with lease := period.toNat } } else deny .range s

/-- WRITE_HOLD (R97). -/
def execWriteHold (hold : Word) (s : State) : Host.Outcome State Fault Refusal :=
  accept [] { s with timing := { s.timing with hold := hold.toNat } }

/-- WRITE_MOVE_TIME (R97). -/
def execWriteMoveTime (ticks : Byte) (s : State) : Host.Outcome State Fault Refusal :=
  if 1 ≤ ticks.toNat then accept [] { s with timing := { s.timing with moveTime := ticks.toNat } } else deny .range s

end Sys2Proof.Machine
end

