-- ==== Sys2Proof/Machine/Changeover.lean ====
section
/-! DEFINITION. The Zone Phase Control (chapter 6): changeovers, PHASE_CHANGED notices and the clear timer. -/

namespace Sys2Proof.Machine

/-- An owned slot of the zone at a changeover: LIVE turns ENDING and NEXT turns LIVE, by the phase it held when the event
began (R118, steps 1 and 2). -/
def Slot.turn (z : Fin 16) (x : Slot) : Slot :=
  match x with
  | .owned o =>
    if o.zone = z then
      .owned
        { o with
          phase :=
            match o.phase with
            | .live => .ending
            | .next => .live
            | .ending => .ending }
    else .owned o
  | .free => .free
  | .pinned p => .pinned p
  | .spare r => .spare r

/-- The slot is an owned slot of the zone in a phase. -/
def Slot.inPhase (z : Fin 16) (ph : Phase) (x : Slot) : Bool :=
  match x with
  | .owned o => o.zone == z && o.phase == ph
  | .free => false
  | .pinned _ => false
  | .spare _ => false

/-- The slot is owned by the station in the zone. -/
def Slot.ownedThere (r : Fin 48) (z : Fin 16) (x : Slot) : Bool := x.ownedByStation r && x.ownedInZone z

/-- The stations that own a slot of the zone, in ascending record number (R121). -/
def zoneOwners (z : Fin 16) (s : State) : List (Fin 48) :=
  (List.finRange 48).filter fun r => s.slots.toList.any (Slot.ownedThere r z)

/-- PHASE_CHANGED is handed over, one notice to each station that owns a slot of the zone (R121). -/
def announcePhases (z : Fin 16) (s : State) : State :=
  (zoneOwners z s).foldl (fun t r => giveNotice r (.phaseChanged z) t) s

/-- What a changeover has done: the slots retired FORCED, turned ENDING, turned LIVE and retired CLEARED (R122). -/
structure ChangeoverCounts where
  forced : Nat
  turnedEnding : Nat
  turnedLive : Nat
  cleared : Nat
  deriving DecidableEq, Repr

/-- A changeover applied to a zone in STEADY (R118). -/
def changeoverSteady (z : Fin 16) (forced : Nat) (s : State) : State × ChangeoverCounts :=
  let ending := s.slots.countWith (Slot.inPhase z .live)
  let live := s.slots.countWith (Slot.inPhase z .next)
  let s := announcePhases z { s with slots := s.slots.each (Slot.turn z) }
  let outgoing := endingSlots z s
  let clearTime := (s.plan.zones.read z).clearTime
  if outgoing.isEmpty then
    (s, { forced := forced, turnedEnding := ending, turnedLive := live, cleared := 0 })
  else if 0 < clearTime then
    (changeZone z (fun zs => { zs with clearing := some (loaded clearTime) }) s,
      { forced := forced, turnedEnding := ending, turnedLive := live, cleared := 0 })
  else
    (retireSlots (some .cleared) outgoing s,
      { forced := forced, turnedEnding := ending, turnedLive := live, cleared := outgoing.length })

/-- The forced retirement of a CLEARING zone's ENDING slots, after which the zone is STEADY (R120). -/
def retireForced (z : Fin 16) (s : State) : State :=
  changeZone z (fun zs => { zs with clearing := none }) (retireSlots (some .forced) (endingSlots z s) s)

/-- A changeover of a zone: carried out, or refused BUSY (none) in a CLEARING zone without force (R118, R120). -/
def changeoverZone (z : Fin 16) (force : Bool) (s : State) : Option (State × ChangeoverCounts) :=
  if (s.zones.read z).clearing.isSome then
    if force then some (changeoverSteady z (endingSlots z s).length (retireForced z s)) else none
  else some (changeoverSteady z 0 s)

/-- A station's CHANGEOVER frame, applied to the zone held in its record (R117, R120, R122). The refusals carry 255 in
their channel field (R190). -/
def handleChangeover (r : Fin 48) (force : Bool) (s : State) : State :=
  match s.stations.read r with
  | none => s
  | some st =>
    if st.authority then
      match changeoverZone st.zone force s with
      | none => giveAnswer r (.refused (BitVec.ofNat 8 Config.absentByte) .busy) s
      | some (s', _) => giveAnswer r (.changedOver st.zone) s'
    else giveAnswer r (.refused (BitVec.ofNat 8 Config.absentByte) .authority) s

/-- The tick is taken at a zone's clear timer; reaching 0 the zone's ENDING slots are retired with CLEARED, the timer is
removed and the zone is STEADY (R123). -/
def tickClear (z : Fin 16) (s : State) : State :=
  match (s.zones.read z).clearing with
  | none => s
  | some c =>
    if c.owed = 0 ∨ inRun s = false then s
    else if c.count ≤ 1 then
      startRefill
        (changeZone z (fun zs => { zs with clearing := none }) (retireSlots (some .cleared) (endingSlots z s) s))
    else changeZone z (fun zs => { zs with clearing := some c.down }) s

/-- CLEAR_TIMER_DECREMENT (R123). -/
def execClearTimerDecrement (z : Fin 16) (s : State) : Host.Outcome State Fault Refusal := .next (tickClear z s)

/-- CLEAR_TIMER_EXPIRY (R123): the tick taken at a clear timer that stands at 1. -/
def execClearTimerExpiry (z : Fin 16) (s : State) : Host.Outcome State Fault Refusal :=
  match (s.zones.read z).clearing with
  | some c => if c.count = 1 then .next (tickClear z s) else .next s
  | none => .next s

/-- The counts and the zone's state at the end of a changeover (R122, R191); the timer's count reads 0 in STEADY. -/
def changeoverBytes (z : Fin 16) (s : State) (c : ChangeoverCounts) : List Byte :=
  wordOf c.forced ++ wordOf c.turnedEnding ++ wordOf c.turnedLive ++ wordOf c.cleared ++
    [markOf (s.zones.read z).clearing.isSome] ++ wordOf (((s.zones.read z).clearing.map TickCounter.count).getD 0)

/-- CHANGEOVER (R117, R122). -/
def execChangeover (zone force : Byte) (s : State) : Host.Outcome State Fault Refusal :=
  match numberBelow 16 zone.toNat with
  | none => deny .range s
  | some z =>
    match changeoverZone z (forceOfByte force) s with
    | none => deny .busy s
    | some (s', c) => accept (changeoverBytes z s' c) (startRefill s')

end Sys2Proof.Machine
end

