-- ==== Sys2Proof/Machine/Records.lean ====
section
/-! DEFINITION. The Grant Table's own requests (chapter 2, R181): PIN, RETIRE, READ ENTRY, READ ENTRIES, and the station's
QUERY. -/

namespace Sys2Proof.Machine

/-- An unchecked PIN (R33): its checks in order, then the record in the lowest FREE slot; the response carries the slot
and the suspect source. -/
def pinUnchecked (index : Word) (profile zone : Byte) (label : List Byte) (s : State) :
    Host.Outcome State Fault Refusal :=
  match pinParameters s index profile zone with
  | none => deny .range s
  | some (p, z) =>
    if labelValid label then
      match lowestFree s with
      | none => deny .full s
      | some i =>
        accept (wordOf i.val ++ optionalWord (nearestForeign s index.toNat none)) (recordPin i index.toNat p z label s)
    else deny .range s

/-- PIN (R33): a check flag above 1 is refused RANGE (R192); the request with the flag set is R72's. DESIGN CHOICE, log
entry 33: R33 gives the flag's check no place; it comes first here, before FULL. -/
def execPin (index : Word) (profile zone checkFlag : Byte) (label : List Byte) (s : State) :
    Host.Outcome State Fault Refusal :=
  if checkFlag = 0 then pinUnchecked index profile zone label s
  else if checkFlag = 1 then queueCheckedPin index profile zone label s
  else deny .range s

/-- The former state, frequency and owner that RETIRE returns (R37); an absent owner station and channel read 255
(R188, log entry 18). -/
def retiredBytes (x : Slot) : List Byte :=
  match x with
  | .free => []
  | .owned o => [slotCode x] ++ wordOf o.frequency ++ [byteOf o.station.val, byteOf o.channel.val]
  | .pinned p => [slotCode x] ++ wordOf p.frequency ++ [byteOf Config.absentByte, byteOf Config.absentByte]
  | .spare r => [slotCode x] ++ wordOf r.frequency ++ [byteOf Config.absentByte, byteOf Config.absentByte]

/-- RETIRE (R37). -/
def execRetire (slot : Word) (s : State) : Host.Outcome State Fault Refusal :=
  match numberBelow 384 slot.toNat with
  | none => deny .range s
  | some i =>
    match s.slots.read i with
    | .free => deny .unknown s
    | x => accept (retiredBytes x) (startRefill (retireSlot (some .operator) i s))

/-- READ_ENTRY (R41). -/
def execReadEntry (slot : Word) (s : State) : Host.Outcome State Fault Refusal :=
  match numberBelow 384 slot.toNat with
  | none => deny .range s
  | some i => accept (slotRecord (s.slots.read i)) s

/-- READ_ENTRIES (R181): the count is n, or 384 minus the start, whichever is smaller. -/
def execReadEntries (start : Word) (n : Byte) (s : State) : Host.Outcome State Fault Refusal :=
  if start.toNat < 384 ∧ 1 ≤ n.toNat ∧ n.toNat ≤ 16 then
    let count := min n.toNat (384 - start.toNat)
    accept (byteOf count :: ((s.slots.toList.drop start.toNat).take count).flatMap slotRecord) s
  else deny .range s

/-- A station's QUERY, answered STATUS or REFUSED UNKNOWN_CHANNEL (R40). -/
def handleQuery (r : Fin 48) (ch : Fin 64) (s : State) : State :=
  match ownedSlot r ch s with
  | none => refuse r ch .unknownChannel s
  | some (_, o) =>
    giveAnswer r
      (.status ch o.frequency o.phase (o.state != .active) (o.move.map MoveWindow.pending) o.suspect.isSome) s

end Sys2Proof.Machine
end

