-- ==== Sys2Proof/Machine/Link.lean ====
section
/-! DEFINITION. The branches and the Station Table (chapter 8): settings, states, the fault watch, rounds and polls, the
judging of a reply, its handling, and the station records. -/

namespace Sys2Proof.Machine

/-! ## Rounds (R159) -/

/-- A station is due in a round: UNKNOWN or PRESENT, or SILENT in a round whose count is a multiple of 8. -/
def stationDue (roundCount : Byte) (st : Station) : Bool :=
  st.link != .silent || roundCount.toNat % Config.silentEvery == 0

/-- The record is a station of the branch, due in the round, with an address above the one last polled. -/
def pollable (b : Fin 4) (roundCount : Byte) (last : Nat) (x : Option Station) : Bool :=
  match x with
  | some st => st.branch == b && last < st.address && stationDue roundCount st
  | none => false

/-- The record with the lower address of the best so far and another pollable one. -/
def lowerAddress (best : Option (Fin 48 × Station)) (e : Fin 48 × Station) : Option (Fin 48 × Station) :=
  match best with
  | none => some e
  | some x => if e.2.address < x.2.address then some e else some x

/-- The next station of a round: the lowest address above the one last polled, as the table stands. -/
def nextStation (b : Fin 4) (last : Nat) (s : State) : Option (Fin 48 × Station) :=
  (s.stations.entries.filterMap fun e =>
      match e.2 with
      | some st => if pollable b (s.branches.read b).roundCount last (some st) then some (e.1, st) else none
      | none => none).foldl lowerAddress none

/-- A branch's activity replaced. -/
def setActivity (b : Fin 4) (a : Activity) (s : State) : State := changeBranch b (fun br => { br with activity := a }) s

/-- The round goes on above an address, or ends and its round gap begins (R159). -/
def continueRound (b : Fin 4) (last : Nat) (s : State) : State :=
  if (nextStation b last s).isSome then setActivity b (.inRound last) s else setActivity b (.gap true) s

/-- A round begins (R159). -/
def beginRound (b : Fin 4) (s : State) : State := continueRound b 0 s

/-! ## Polls (R160) -/

/-- The item a poll carries, the first that applies (R160). -/
def Station.pollItem (st : Station) : PollItem :=
  match st.answers with
  | a :: _ => .answer a
  | [] =>
    if st.resync then .resync
    else
      match st.notices with
      | q :: _ => .notice q.notice
      | [] => .nothing

/-- The record with the carried item marked by its identity in the queue (R160, R171). -/
def Station.markCarried (st : Station) : Station :=
  { st with
    resyncCarried := decide (st.pollItem = .resync)
    notices :=
      match st.notices with
      | [] => []
      | q :: rest =>
        { q with carried := decide (st.pollItem = .notice q.notice) } :: rest.map fun x => { x with carried := false } }

/-- A poll of a station is formed: the item chosen, TXEN asserted (which ends any watched run of space, R157), and its
characters put on the line (R153, R154, R160). -/
def formPoll (b : Fin 4) (r : Fin 48) (st : Station) (s : State) : State :=
  changeStation r Station.markCarried
    (changeBranch b
      (fun br =>
        { br with
          activity := .sending { station := r, address := st.address, item := st.pollItem, stationGone := false }
          txen := true
          spaceRun := false
          txFrame := pollFrame st.address s.engine.defer st.pollItem }) s)

/-- The polls in progress of a record that is removed, or moved to another branch or address, are marked so that their
replies are not taken (R161). -/
def orphanPolls (r : Fin 48) (s : State) : State :=
  { s with
    branches :=
      s.branches.each fun br =>
        { br with
          activity :=
            match br.activity with
            | .sending p => .sending (if p.station = r then { p with stationGone := true } else p)
            | .listening p rx seen => .listening (if p.station = r then { p with stationGone := true } else p) rx seen
            | .idle => .idle
            | .inRound l => .inRound l
            | .quiet l => .quiet l
            | .gap a => .gap a } }

/-- Polling on a branch ends in the event; a poll in progress is abandoned: no failure, no item removed, no link state
changed (R156, R158). Its characters, if still being sent, are finished under TXEN. -/
def stopPolling (b : Fin 4) (s : State) : State := setActivity b .idle s

/-! ## Failures (R161, R162) -/

/-- The station's record after a failed poll: the failure count rises to at most 4, where the link is SILENT (R162). -/
def Station.failed (st : Station) : Station :=
  { st with
    failures := min (st.failures + 1) Config.failureLimit
    link := if Config.failureLimit ≤ st.failures + 1 then .silent else st.link }

/-- The failure of a poll counted at its station, unless that record is gone (R162, log entry 8). -/
def countFailure (p : Poll) (s : State) : State :=
  if p.stationGone then s else changeStation p.station Station.failed s

/-- A poll fails; the branch waits for a quiet line (R162). -/
def failPoll (b : Fin 4) (p : Poll) (s : State) : State := setActivity b (.quiet p.address) (countFailure p s)

/-! ## Accepted replies (R163, R164, R171) -/

/-- The item a poll carried is removed (R171). -/
def Station.removeItem (item : PollItem) (st : Station) : Station :=
  match item with
  | .nothing => st
  | .answer _ => { st with answers := st.answers.tail }
  | .resync => if st.resyncCarried then { st with resync := false, resyncCarried := false } else st
  | .notice _ => { st with notices := st.notices.filter fun q => !q.carried }

/-- Steps 1 and 2 of the handling of a valid reply (R163). -/
def Station.acceptReply (item : PollItem) (st : Station) : Station :=
  Station.removeItem item { st with link := .present, failures := 0 }

/-- A frame that names a channel goes to its handler; a channel above 63 is answered REFUSED UNKNOWN_CHANNEL with that
channel (R164). -/
def withChannel (r : Fin 48) (ch : Byte) (handle : Fin 64 → State → State) (s : State) : State :=
  match numberBelow 64 ch.toNat with
  | some c => handle c s
  | none => giveAnswer r (.refused ch .unknownChannel) s

/-- REQUEST intake, checks 4 to 9, for a profile that is DEFINED (R70, R71). -/
def intakeQueue (r : Fin 48) (st : Station) (ch : Fin 64) (p : Fin 16) (phase : Option Phase) (hint : Option Nat)
    (label : List Byte) (s : State) : State :=
  match phase with
  | some ph =>
    if ph = .ending then refuse r ch .phase s
    else if st.ceiling ≤ st.held then refuse r ch .ceiling s
    else if windowEmpty s p st.zone then refuse r ch .window s
    else if (lowestFree s).isNone then refuse r ch .full s
    else if !queueHasRoom s then refuse r ch .busy s
    else
      openStationWork r
        (.request { station := r, channel := ch, profile := p, phase := ph, hint := hint, label := label }) s
  | none => refuse r ch .phase s

/-- REQUEST intake (R70, R71): the profile, the open request, the channel's slot, then the rest. -/
def handleRequest (r : Fin 48) (profile phase : Byte) (hint : Option Nat) (label : List Byte) (ch : Fin 64)
    (s : State) : State :=
  match s.stations.read r with
  | none => s
  | some st =>
    match numberBelow 16 profile.toNat with
    | none => refuse r ch .profile s
    | some p =>
      if (s.plan.profiles.read p).defined = false then refuse r ch .profile s
      else if st.openRequest then refuse r ch .busy s
      else
        match ownedSlot r ch s with
        | some (_, o) =>
          if phaseOfCode phase.toNat = some o.phase then giveAnswer r (.granted ch o.frequency true) s
          else refuse r ch .phase s
        | none => intakeQueue r st ch p (phaseOfCode phase.toNat) hint label s

/-- The reply's frame is routed to its handler (R164). -/
def routeFrame (r : Fin 48) (f : Frame) (s : State) : State :=
  match f with
  | .idle => s
  | .request ch pr ph hint label => withChannel r ch (handleRequest r pr ph hint label) s
  | .release ch => withChannel r ch (handleRelease r) s
  | .move ch => withChannel r ch (handleMove r) s
  | .confirm ch => withChannel r ch (handleConfirm r) s
  | .query ch => withChannel r ch (handleQuery r) s
  | .changeover force => handleChangeover r force s

/-- Step 4 of R163: the Lease Timer has a valid reply to take notice of, as a separate event. -/
def Station.owedNotice (st : Station) : Station := { st with validReplies := st.validReplies + 1 }

/-- A valid reply to a poll is accepted (R163) and the round goes on; for a record that is gone the reply is not taken, the
poll is abandoned and the quiet wait follows (R161). -/
def acceptPoll (b : Fin 4) (p : Poll) (f : Frame) (s : State) : State :=
  if p.stationGone then setActivity b (.quiet p.address) s
  else
    let s := changeStation p.station (Station.acceptReply p.item) s
    let s := changeStation p.station Station.owedNotice (routeFrame p.station f s)
    startRefill (continueRound b p.address s)

/-! ## Characters (R152, R161) -/

/-- What a character of a reply does to it: the reply goes on, fails at this character, or is complete with its frame
(R161). -/
inductive Judgement where
  | goesOn
  | fails
  | complete (f : Frame)
  deriving DecidableEq, Repr

/-- The judging of the data values of a reply after a character has been added to them (R161): at the type character the
length and the type; at the check byte the sum. -/
def judgeData (rx : List Byte) : Judgement :=
  match rx with
  | _ :: length :: type :: rest =>
    if Config.maxBody < length.toNat || !typeKnown type.toNat length.toNat then .fails
    else if rest.length ≤ length.toNat then .goesOn
    else if sumBytes rx ≠ 0 then .fails
    else
      match frameOf type.toNat (rest.take length.toNat) with
      | some f => .complete f
      | none => .fails
  | _ => .goesOn

/-- The judging of one character (R161): the first must carry the mark bit and the station's address plus 128, the others
must not carry the mark bit, and none may be garbled. -/
def judge (p : Poll) (rx : List Byte) (c : RxChar) : Judgement :=
  if c.garbled then .fails
  else
    match rx with
    | [] => if c.mark && c.data.toNat == p.address + 128 then .goesOn else .fails
    | _ :: _ => if c.mark then .fails else judgeData (rx ++ [c.data])

/-- A character arrives at a branch's receiver: while a reply is listened for it is judged as the reply's next character;
anywhere else it is discarded (R160, R162). -/
def receiveChar (b : Fin 4) (c : RxChar) (s : State) : State :=
  match (s.branches.read b).activity with
  | .listening p rx _ =>
    match judge p rx c with
    | .goesOn => setActivity b (.listening p (rx ++ [c.data]) false) s
    | .fails => failPoll b p s
    | .complete f => acceptPoll b p f s
  | _ => s

/-! ## The fault watch (R157) -/

/-- The receive line of a branch changes level. Under TXEN the receiver does not look (R153). A RUNNING branch begins or
ends a run of space, and a mark-to-space transition while a reply is listened for is a start bit (R152); a FAULTED
branch begins or breaks a run of mark (R157). -/
def Branch.lineChanges (level : LineLevel) (br : Branch) : Branch :=
  if level = br.line then br
  else if br.txen then { br with line := level }
  else
    match br.state with
    | .disabled => { br with line := level }
    | .faulted => { br with line := level, markRun := level == .mark }
    | .running =>
      { br with
        line := level
        spaceRun := level == .space
        activity :=
          match br.activity with
          | .listening p rx seen => .listening p rx (seen || level == .space)
          | .idle => .idle
          | .inRound l => .inRound l
          | .sending p => .sending p
          | .quiet l => .quiet l
          | .gap a => .gap a }

/-- TXEN is released and the receiver begins looking at the line; a line found at space is no start bit, but begins a run
of space on a RUNNING branch (R153, R157). -/
def Branch.releaseTxen (br : Branch) : Branch :=
  { br with
    txen := false
    spaceRun := br.state == .running && br.line == .space
    activity :=
      match br.activity with
      | .sending p => .listening p [] false
      | .listening p rx seen => .listening p rx seen
      | .idle => .idle
      | .inRound l => .inRound l
      | .quiet l => .quiet l
      | .gap a => .gap a }

/-- A poll whose failure has not yet been decided fails when its branch becomes FAULTED (R157). -/
def failOpenPoll (b : Fin 4) (s : State) : State :=
  match (s.branches.read b).activity with
  | .sending p => countFailure p s
  | .listening p _ _ => countFailure p s
  | .idle => s
  | .inRound _ => s
  | .quiet _ => s
  | .gap _ => s

/-- A branch becomes FAULTED (R157). -/
def faultBranch (b : Fin 4) (s : State) : State :=
  raise .branchFault
    (changeBranch b
      (fun br => { br with state := .faulted, activity := .idle, spaceRun := false, markRun := false })
      (failOpenPoll b s))

/-- A FAULTED branch returns to RUNNING: the round count is 0, and in RUN a round begins after the round gap (R157). -/
def recoverBranch (b : Fin 4) (s : State) : State :=
  changeBranch b
    (fun br =>
      { br with
        state := .running
        roundCount := 0
        markRun := false
        activity := if inRun s then .gap false else .idle }) s

/-! ## The events of a branch -/

/-- POLL (R160): due in a round of a RUNNING branch in RUN, once TXEN is released; with no station left the round ends. -/
def execPoll (b : Fin 4) (s : State) : Host.Outcome State Fault Refusal :=
  match (s.branches.read b).activity with
  | .inRound last =>
    if inRun s && (s.branches.read b).state == .running && !(s.branches.read b).txen then
      match nextStation b last s with
      | some (r, st) => .next (formPoll b r st s)
      | none => .next (setActivity b (.gap true) s)
    else .next s
  | _ => .next s

/-- TURNOFF_DELAY_END (R153): due while TXEN is asserted. -/
def execTurnoffDelayEnd (b : Fin 4) (s : State) : Host.Outcome State Fault Refusal :=
  if (s.branches.read b).txen then .next (changeBranch b Branch.releaseTxen s) else .next s

/-- REPLY_ACCEPTED (R163). -/
def execReplyAccepted (b : Fin 4) (c : RxChar) (s : State) : Host.Outcome State Fault Refusal :=
  .next (receiveChar b c s)

/-- REPLY_WINDOW_EXPIRED (R161): due while no start bit of a reply has been seen. -/
def execReplyWindowExpired (b : Fin 4) (s : State) : Host.Outcome State Fault Refusal :=
  match (s.branches.read b).activity with
  | .listening p [] false => .next (failPoll b p s)
  | _ => .next s

/-- REPLY_GAP_TIMEOUT (R161): due inside a reply while no start bit has been seen since its last character. -/
def execReplyGapTimeout (b : Fin 4) (s : State) : Host.Outcome State Fault Refusal :=
  match (s.branches.read b).activity with
  | .listening p (_ :: _) false => .next (failPoll b p s)
  | _ => .next s

/-- REPLY_FAILED (R161, R162). -/
def execReplyFailed (b : Fin 4) (c : RxChar) (s : State) : Host.Outcome State Fault Refusal :=
  .next (receiveChar b c s)

/-- QUIET_WAIT_END (R162): due while the branch waits for a quiet line and the line is at mark. -/
def execQuietWaitEnd (b : Fin 4) (s : State) : Host.Outcome State Fault Refusal :=
  match (s.branches.read b).activity with
  | .quiet last => if (s.branches.read b).line = .mark then .next (continueRound b last s) else .next s
  | _ => .next s

/-- STRAY_CHARACTER (R160, R162): a character outside a reply is discarded. -/
def execStrayCharacter (b : Fin 4) (c : RxChar) (s : State) : Host.Outcome State Fault Refusal :=
  .next (receiveChar b c s)

/-- REPLY_CHARACTER_RECEIVED (R161). -/
def execReplyCharacterReceived (b : Fin 4) (c : RxChar) (s : State) : Host.Outcome State Fault Refusal :=
  .next (receiveChar b c s)

/-- ROUND_GAP_END (R159): the round count advances, wrapping from 255 to 0, and the next round begins. The gap after the
return from FAULTED does not advance it (R157). -/
def execRoundGapEnd (b : Fin 4) (s : State) : Host.Outcome State Fault Refusal :=
  match (s.branches.read b).activity with
  | .gap advances =>
    .next
      (beginRound b
        (changeBranch b (fun br => { br with roundCount := if advances then br.roundCount + 1 else br.roundCount }) s))
  | _ => .next s

/-- BRANCH_FAULT (R157): due while a watched run of space lasts on a RUNNING branch. -/
def execBranchFault (b : Fin 4) (s : State) : Host.Outcome State Fault Refusal :=
  if (s.branches.read b).state = .running ∧ (s.branches.read b).spaceRun = true then .next (faultBranch b s) else .next s

/-- BRANCH_FAULT_RECOVERY (R157): due while a run of mark lasts on a FAULTED branch. -/
def execBranchFaultRecovery (b : Fin 4) (s : State) : Host.Outcome State Fault Refusal :=
  if (s.branches.read b).state = .faulted ∧ (s.branches.read b).markRun = true then .next (recoverBranch b s)
  else .next s

/-- LINE_TRANSITION (R157). -/
def execLineTransition (b : Fin 4) (level : LineLevel) (s : State) : Host.Outcome State Fault Refusal :=
  .next (changeBranch b (Branch.lineChanges level) s)

/-! ## Branch requests (R155, R156) -/

/-- WRITE_BRANCH (R155). -/
def execWriteBranch (branch rate turnoff window gap debounce : Byte) (s : State) :
    Host.Outcome State Fault Refusal :=
  match numberBelow 4 branch.toNat with
  | none => deny .range s
  | some b =>
    if (s.branches.read b).state ≠ .disabled then deny .busy s
    else
      match rateOfCode rate.toNat, turnoffOfCode turnoff.toNat with
      | some x, some t =>
        if 1 ≤ window.toNat ∧ window.toNat ≤ 15 ∧ 1 ≤ debounce.toNat then
          accept []
            (changeBranch b
              (fun br =>
                { br with
                  rate := x, turnoff := t, window := window.toNat, gap := gap.toNat, debounce := debounce.toNat }) s)
        else deny .range s
      | _, _ => deny .range s

/-- READ_BRANCH (R155). -/
def execReadBranch (branch : Byte) (s : State) : Host.Outcome State Fault Refusal :=
  match numberBelow 4 branch.toNat with
  | none => deny .range s
  | some b =>
    let br := s.branches.read b
    accept
      [rateCode br.rate, turnoffCode br.turnoff, byteOf br.window, byteOf br.gap, byteOf br.debounce,
        branchCode br.state, br.roundCount] s

/-- A DISABLED branch becomes RUNNING: the round count is 0, a line at space begins a run unless TXEN is still asserted,
and in RUN a round begins (R156, R157). -/
def enableBranch (b : Fin 4) (s : State) : State :=
  let s :=
    changeBranch b
      (fun br =>
        { br with
          state := .running, roundCount := 0, activity := .idle, markRun := false,
          spaceRun := br.line == .space && !br.txen }) s
  if inRun s then beginRound b s else s

/-- BRANCH_ENABLE (R156). -/
def execBranchEnable (branch : Byte) (s : State) : Host.Outcome State Fault Refusal :=
  match numberBelow 4 branch.toNat with
  | none => deny .range s
  | some b => if (s.branches.read b).state = .disabled then accept [] (enableBranch b s) else accept [] s

/-- A branch becomes DISABLED: its poll is abandoned, the fault watch stops and the lease counters of its stations stand
still (R100, R156). -/
def disableBranch (b : Fin 4) (s : State) : State :=
  let s := changeBranch b (fun br => { br with state := .disabled, activity := .idle, spaceRun := false, markRun := false }) s
  { s with
    stations :=
      s.stations.each (Option.map fun st => if st.branch = b then { st with lease := st.lease.settle } else st) }

/-- BRANCH_DISABLE (R156). -/
def execBranchDisable (branch : Byte) (s : State) : Host.Outcome State Fault Refusal :=
  match numberBelow 4 branch.toNat with
  | none => deny .range s
  | some b => if (s.branches.read b).state = .disabled then accept [] s else accept [] (disableBranch b s)

/-! ## Station requests (R166, R167) -/

/-- The static fields of a station record (R165). -/
structure StationSettings where
  branch : Fin 4
  address : Nat
  zone : Fin 16
  ceiling : Nat
  authority : Bool
  deriving DecidableEq, Repr

/-- The record number and the fields of a WRITE STATION, where its first check passes (R166). DESIGN CHOICE, log entry 33:
R192 refuses an authority byte above 1 with RANGE and R166 gives it no place; it belongs to the first check here, before
IN_USE and DUPLICATE. -/
def stationParameters (record branch address zone ceiling authority : Byte) : Option (Fin 48 × StationSettings) :=
  match numberBelow 48 record.toNat, numberBelow 4 branch.toNat, numberBelow 16 zone.toNat,
      markOfCode authority.toNat with
  | some r, some b, some z, some a =>
    if 1 ≤ address.toNat ∧ address.toNat ≤ 31 ∧ 1 ≤ ceiling.toNat ∧ ceiling.toNat ≤ 64 then
      some (r, { branch := b, address := address.toNat, zone := z, ceiling := ceiling.toNat, authority := a })
    else none
  | _, _, _, _ => none

/-- The write changes the branch or the address of a present record (R166). -/
def movesStation (new : StationSettings) (st : Station) : Bool := st.branch != new.branch || st.address != new.address

/-- The station holds slots or has an open request (R166, R167). -/
def stationInUse (st : Station) : Bool := 0 < st.held || st.openRequest

/-- Another present record has the branch and the address (R166). -/
def addressTaken (r : Fin 48) (new : StationSettings) (s : State) : Bool :=
  s.stations.entries.any fun e =>
    match e.2 with
    | some st => e.1 != r && st.branch == new.branch && st.address == new.address
    | none => false

/-- A new record with the dynamic fields as CLEAR sets them (R165, R166). -/
def newStation (new : StationSettings) : Station :=
  { branch := new.branch, address := new.address, zone := new.zone, ceiling := new.ceiling, authority := new.authority,
    link := .unknown, failures := 0, leaseState := .current, lease := loaded 0, held := 0, openRequest := false,
    answers := [], notices := [], resync := false, resyncCarried := false, validReplies := 0 }

/-- The station records with one replaced. -/
def setStation (r : Fin 48) (x : Option Station) (s : State) : State := { s with stations := s.stations.write r x }

/-- The second check of WRITE STATION fails: a present record in use would change its branch, address or zone (R166). -/
def stationLocked (new : StationSettings) (x : Option Station) : Bool :=
  match x with
  | none => false
  | some st => (movesStation new st || st.zone != new.zone) && stationInUse st

/-- The writing of a station record and what becomes of its dynamic fields (R166). -/
def storeStation (r : Fin 48) (new : StationSettings) (s : State) : State :=
  match s.stations.read r with
  | none => setStation r (some (newStation new)) s
  | some st =>
    if movesStation new st then orphanPolls r (setStation r (some (newStation new)) s)
    else setStation r (some { st with zone := new.zone, ceiling := new.ceiling, authority := new.authority }) s

/-- WRITE_STATION (R166). -/
def execWriteStation (record branch address zone ceiling authority : Byte) (s : State) :
    Host.Outcome State Fault Refusal :=
  match stationParameters record branch address zone ceiling authority with
  | none => deny .range s
  | some (r, new) =>
    if stationLocked new (s.stations.read r) then deny .inUse s
    else if addressTaken r new s then deny .duplicate s
    else accept [] (storeStation r new s)

/-- REMOVE_STATION (R167). -/
def execRemoveStation (record : Byte) (s : State) : Host.Outcome State Fault Refusal :=
  match numberBelow 48 record.toNat with
  | none => deny .range s
  | some r =>
    match s.stations.read r with
    | none => deny .unknown s
    | some st => if stationInUse st then deny .inUse s else accept [] (orphanPolls r (setStation r none s))

/-- READ_STATION (R167, R193). -/
def execReadStation (record : Byte) (s : State) : Host.Outcome State Fault Refusal :=
  match numberBelow 48 record.toNat with
  | none => deny .range s
  | some r => accept (stationRecord (s.stations.read r)) s

end Sys2Proof.Machine
end

