-- ==== Sys2Proof/Machine/Plan.lean ====
section
/-! DEFINITION. The Plan Store (chapter 1): profiles, zones, coupling, exclusion bands and guards. An accepted plan write
empties the barred set (R87), and a refill may then start (R82). -/

namespace Sys2Proof.Machine

/-- An accepted plan write: the new plan, the epoch advanced if the write tightens (R2, R3), the barred set emptied (R87),
the status OK. -/
def writePlan (plan : Plan) (tightens : Bool) (s : State) : State :=
  let s := emptyBarred { s with plan := plan }
  if tightens then advanceEpoch s else s

/-! ## Profiles (R5 to R8) -/

/-- A queue entry names the profile: a REQUEST, a CHECK or a checked PIN (R7). -/
def Work.namesProfile (p : Fin 16) (w : Work) : Bool :=
  match w with
  | .request r => r.profile == p
  | .check k => k.profile == p
  | .pin k => k.profile == p
  | .move _ => false
  | .audit => false

/-- The foreground work names the profile (R7). -/
def Foreground.namesProfile (p : Fin 16) (f : Foreground) : Bool :=
  match f with
  | .request r _ => r.profile == p
  | .pin k _ => k.profile == p
  | .move _ _ => false
  | .audit _ _ => false

/-- A referrer holds the profile (R7). -/
def profileInUse (s : State) (p : Fin 16) : Bool :=
  s.slots.toList.any (Slot.names p) || s.engine.queue.any (Work.namesProfile p) ||
    s.engine.foreground.any (Foreground.namesProfile p) ||
    s.plan.zones.toList.any (fun z => 0 < z.depth && z.spareProfile == p)

/-- The stored record of a WRITE PROFILE with state DEFINED: spacing and protections clamped (R6). -/
def clampedProfile (low high step c p3 p5 : Nat) : Profile :=
  { defined := true, low := low, high := high, step := step, c := clampTo 1 40 c, p3 := min p3 20, p5 := min p5 10 }

/-- WRITE PROFILE with state UNDEFINED (R8). -/
def undefineProfile (profile : Byte) (s : State) : Host.Outcome State Fault Refusal :=
  match numberBelow 16 profile.toNat with
  | none => deny .range s
  | some p =>
    if profileInUse s p then deny .inUse s
    else
      .next
        (respond .ok []
          (startRefill
            (writePlan
              { s.plan with profiles := s.plan.profiles.change p fun r => { r with defined := false } } false s)))

/-- WRITE PROFILE with state DEFINED (R6). -/
def defineProfile (profile : Byte) (low high : Word) (step c p3 p5 : Byte) (s : State) :
    Host.Outcome State Fault Refusal :=
  match numberBelow 16 profile.toNat with
  | none => deny .range s
  | some p =>
    if !(edgesValid low.toNat high.toNat && stepValid step.toNat) then deny .range s
    else if profileInUse s p then deny .inUse s
    else
      .next
        (respond .ok []
          (startRefill
            (writePlan
              { s.plan with
                profiles :=
                  s.plan.profiles.write p
                    (clampedProfile low.toNat high.toNat step.toNat c.toNat p3.toNat p5.toNat) } false s)))

/-- WRITE_PROFILE (R6): a state byte that is neither DEFINED nor UNDEFINED is refused RANGE before any other check (R6,
R192); the request with state UNDEFINED is R8's. -/
def execWriteProfile (profile state : Byte) (low high : Word) (step c p3 p5 : Byte) (s : State) :
    Host.Outcome State Fault Refusal :=
  if state = 1 then defineProfile profile low high step c p3 p5 s
  else if state = 0 then undefineProfile profile s
  else deny .range s

/-- WRITE_PROFILE_UNDEFINED (R8): the window, step, spacing and protections carried are ignored. -/
def execWriteProfileUndefined (profile : Byte) (_low _high : Word) (_step _c _p3 _p5 : Byte) (s : State) :
    Host.Outcome State Fault Refusal :=
  undefineProfile profile s

/-- READ_PROFILE (R5, R8). -/
def execReadProfile (profile : Byte) (s : State) : Host.Outcome State Fault Refusal :=
  match numberBelow 16 profile.toNat with
  | none => deny .range s
  | some p =>
    let r := s.plan.profiles.read p
    accept
      ([markOf r.defined] ++ wordOf r.low ++ wordOf r.high ++ [byteOf r.step, byteOf r.c, byteOf r.p3, byteOf r.p5]) s

/-! ## Zones (R9 to R11) -/

/-- The settings that a WRITE ZONE carries, where its checks pass (R10, checks 2 to 4). -/
def zoneSettings (s : State) (zlo zhi : Word) (depth spareProfile : Byte) (clearTime : Word) : Option ZonePlan :=
  match numberBelow 16 spareProfile.toNat with
  | none => none
  | some p =>
    if edgesValid zlo.toNat zhi.toNat && depth.toNat ≤ 4 &&
        (depth.toNat == 0 || (s.plan.profiles.read p).defined) then
      some { zlo := zlo.toNat, zhi := zhi.toNat, depth := depth.toNat, spareProfile := p, clearTime := clearTime.toNat }
    else none

/-- The write narrows the zone window (R10). -/
def zoneTightens (old new : ZonePlan) : Bool := old.zlo < new.zlo || new.zhi < old.zhi

/-- The spares from the tail, newest first, that a list has beyond a depth (R131). -/
def sparesBeyond (depth : Nat) (spares : List (Fin 384)) : List (Fin 384) := (spares.drop depth).reverse

/-- A changed spare depth or spare profile is handed to the Zone Phase Control (R11): the zone's refill is discarded (R86),
all spares are retired when the profile changes (R132), the tail when the depth falls below the list's length
(R131). -/
def applySpareSettings (z : Fin 16) (old new : ZonePlan) (s : State) : State :=
  if old.depth = new.depth ∧ old.spareProfile = new.spareProfile then s
  else
    let s := discardRefill z s
    if old.spareProfile ≠ new.spareProfile then retireSlots none (s.zones.read z).spares s
    else retireSlots none (sparesBeyond new.depth (s.zones.read z).spares) s

/-- WRITE_ZONE (R10, R11). -/
def execWriteZone (zone : Byte) (zlo zhi : Word) (depth spareProfile : Byte) (clearTime : Word) (s : State) :
    Host.Outcome State Fault Refusal :=
  match numberBelow 16 zone.toNat with
  | none => deny .range s
  | some z =>
    match zoneSettings s zlo zhi depth spareProfile clearTime with
    | none => deny .range s
    | some new =>
      let old := s.plan.zones.read z
      .next
        (respond .ok []
          (startRefill
            (applySpareSettings z old new
              (writePlan { s.plan with zones := s.plan.zones.write z new } (zoneTightens old new) s))))

/-- READ_ZONE (R11). -/
def execReadZone (zone : Byte) (s : State) : Host.Outcome State Fault Refusal :=
  match numberBelow 16 zone.toNat with
  | none => deny .range s
  | some z =>
    let p := s.plan.zones.read z
    let c := s.zones.read z
    accept
      (wordOf p.zlo ++ wordOf p.zhi ++ [byteOf p.depth, byteOf p.spareProfile.val] ++ wordOf p.clearTime ++
        [markOf c.clearing.isSome] ++ wordOf ((c.clearing.map TickCounter.count).getD 0) ++
        [byteOf c.spares.length] ++ spareBytes c.spares) s

/-! ## Coupling (R12, R13) -/

/-- The rank of a coupling value (R12). -/
def Coupling.rank (x : Coupling) : Nat :=
  match x with
  | .isolated => 0
  | .near => 1
  | .shared => 2

/-- The coupling matrix with (a, b) and (b, a) both set (R13). -/
def coupleBoth (a b : Fin 16) (v : Coupling) (m : Table (Table Coupling 16) 16) : Table (Table Coupling 16) 16 :=
  (m.change a fun row => row.write b v).change b fun row => row.write a v

/-- WRITE_COUPLING (R13). -/
def execWriteCoupling (a b value : Byte) (s : State) : Host.Outcome State Fault Refusal :=
  match numberBelow 16 a.toNat, numberBelow 16 b.toNat, couplingOfCode value.toNat with
  | some x, some y, some v =>
    if x = y then deny .range s
    else
      .next
        (respond .ok []
          (startRefill
            (writePlan { s.plan with coupling := coupleBoth x y v s.plan.coupling }
              ((couplingOf s x y).rank < v.rank) s)))
  | _, _, _ => deny .range s

/-- READ_COUPLING (R12). -/
def execReadCoupling (a b : Byte) (s : State) : Host.Outcome State Fault Refusal :=
  match numberBelow 16 a.toNat, numberBelow 16 b.toNat with
  | some x, some y => accept [couplingCode (couplingOf s x y)] s
  | _, _ => deny .range s

/-! ## Exclusion bands (R14 to R17) -/

/-- A band stands before another in list order (R14). -/
def bandBefore (x y : Band) : Bool := x.lo < y.lo || (x.lo == y.lo && x.hi < y.hi)

/-- A band inserted at its place in the order (R15). -/
def insertBand (b : Band) (l : List Band) : List Band :=
  l.takeWhile (fun x => bandBefore x b) ++ b :: l.dropWhile (fun x => bandBefore x b)

/-- ADD_EXCLUSION (R15). -/
def execAddExclusion (lo hi : Word) (s : State) : Host.Outcome State Fault Refusal :=
  let b : Band := { lo := lo.toNat, hi := hi.toNat }
  if !(edgesValid b.lo b.hi) then deny .range s
  else if s.plan.exclusions.contains b then deny .duplicate s
  else if Config.bandCapacity ≤ s.plan.exclusions.length then deny .full s
  else
    .next
      (respond .ok []
        (startRefill (writePlan { s.plan with exclusions := insertBand b s.plan.exclusions } true s)))

/-- REMOVE_EXCLUSION (R16). -/
def execRemoveExclusion (lo hi : Word) (s : State) : Host.Outcome State Fault Refusal :=
  let b : Band := { lo := lo.toNat, hi := hi.toNat }
  if !(edgesValid b.lo b.hi) then deny .range s
  else if !(s.plan.exclusions.contains b) then deny .unknown s
  else
    .next
      (respond .ok []
        (startRefill (writePlan { s.plan with exclusions := s.plan.exclusions.erase b } false s)))

/-- LIST_EXCLUSIONS (R17). -/
def execListExclusions (s : State) : Host.Outcome State Fault Refusal :=
  accept (byteOf s.plan.exclusions.length :: s.plan.exclusions.flatMap fun b => wordOf b.lo ++ wordOf b.hi) s

/-! ## Guards (R18) -/

/-- WRITE_GUARDS (R18). -/
def execWriteGuards (g fg : Byte) (s : State) : Host.Outcome State Fault Refusal :=
  if g.toNat ≤ Config.guardLimit ∧ fg.toNat ≤ Config.guardLimit then
    .next
      (respond .ok []
        (startRefill
          (writePlan { s.plan with g := g.toNat, fg := fg.toNat } (s.plan.g < g.toNat || s.plan.fg < fg.toNat) s)))
  else deny .range s

/-- READ_GUARDS (R18). -/
def execReadGuards (s : State) : Host.Outcome State Fault Refusal :=
  accept [byteOf s.plan.g, byteOf s.plan.fg] s

end Sys2Proof.Machine
end

