-- ==== Sys2Proof/Machine/Sweep.lean ====
section
/-! DEFINITION. The Sweep Unit (chapter 7): its configuration, points and passes, the evaluation of a point, the foreign
list, confirmations and removals. -/

namespace Sys2Proof.Machine

/-! ## Points and passes (R137, R138) -/

/-- A sweep point begins: the cursor takes its index and its tune word begins to be shifted out (R137, R138). -/
def beginPoint (index : Nat) (s : State) : State :=
  { s with
    sweep := { s.sweep with cursor := index, activity := some (.tuning (tuneWord s.sweep.config index)) } }

/-- What follows a point's evaluation: the next point of the pass, or after the last point the pass gap, which for a gap
of 0 ends at once and begins the next pass (R137). -/
def nextPoint (s : State) : State :=
  let c := s.sweep.config
  if s.sweep.cursor + c.step ≤ c.hi then beginPoint (s.sweep.cursor + c.step) s
  else if c.gap = 0 then beginPoint c.lo s
  else { s with sweep := { s.sweep with activity := some .gap } }

/-! ## The tune lines (R138, R194) -/

/-- The levels of TUNE_CLK, TUNE_DATA and TUNE_LATCH, high or not. -/
structure TuneLines where
  clk : Bool
  data : Bool
  latch : Bool
  deriving DecidableEq, Repr

/-- All three lines low, as they rest (R194). -/
def tuneRest : TuneLines := { clk := false, data := false, latch := false }

/-- The tune lines at the `half`th half microsecond after a point begins with a tune word (R138, R194): 24 bits, most
significant first, one each microsecond, the data changing with the clock's falling edge and the clock rising half a
microsecond later; then TUNE_LATCH high for 1 µs, whose falling edge ends the TUNING stage (log entries 34 and 35). -/
def tuneWave (word half : Nat) : TuneLines :=
  if half < 48 then { clk := half % 2 == 1, data := word.testBit (23 - half / 2), latch := false }
  else if half < 50 then { clk := false, data := Config.tuneDataAtLatch word, latch := true }
  else tuneRest

/-- The tune lines: while TUNING as the word is clocked out, `half` half microseconds after the point began; at rest
otherwise, after hardware reset and while the sweep is OFF among the rest (R194, log entry 34). -/
def tuneLines (half : Nat) (s : State) : TuneLines :=
  match s.sweep.activity with
  | some (.tuning word) => tuneWave word half
  | some .settling => tuneRest
  | some .converting => tuneRest
  | some .gap => tuneRest
  | none => tuneRest

/-! ## The foreign list (R140 to R145) -/

/-- A carrier explains a point: it lies at a distance of at most E (R140). -/
def explained (s : State) (index : Nat) : Bool :=
  (carriers s).any fun c => distance index c.index ≤ s.sweep.config.e

/-- The entry at an index (R145). -/
def entryAt (index : Nat) (l : List ForeignEntry) : Option ForeignEntry := l.find? fun e => e.index == index

/-- The entry at an index changed by `f`. -/
def changeEntry (index : Nat) (f : ForeignEntry → ForeignEntry) (l : List ForeignEntry) : List ForeignEntry :=
  l.map fun e => if e.index = index then f e else e

/-- An entry inserted at its place, in ascending order of index (R145). -/
def insertEntry (e : ForeignEntry) (l : List ForeignEntry) : List ForeignEntry :=
  l.takeWhile (fun x => x.index < e.index) ++ e :: l.dropWhile (fun x => x.index < e.index)

/-- The list without the entry at an index. -/
def removeEntry (index : Nat) (l : List ForeignEntry) : List ForeignEntry := l.filter fun e => e.index ≠ index

/-- The foreign list replaced. -/
def setForeign (l : List ForeignEntry) (s : State) : State := { s with sweep := { s.sweep with foreign := l } }

/-- The level is a hit: at a point that holds an entry it is judged against T less the hysteresis, elsewhere against T
(R141). -/
def isHit (c : SweepConfig) (level : Nat) (holdsEntry : Bool) : Bool :=
  if holdsEntry then (c.threshold : Int) - c.hysteresis ≤ level else c.threshold ≤ level

/-! ## Confirmation (R146, R147) -/

/-- A confirmed carrier reaches a slot: the frequency, or the pending index, lies less than fg from it (R146). -/
def Slot.reachedBy (fg index : Nat) (x : Slot) : Bool :=
  match x.frequency? with
  | none => false
  | some f => foreignDistance f x.pending? index < fg

/-- A reached slot is dealt with by its state (R147): an owned slot is marked and its owner advised, a pin is marked, a
spare is retired. -/
def reachSlot (index : Nat) (i : Fin 384) (s : State) : State :=
  match s.slots.read i with
  | .free => s
  | .owned o =>
    giveNotice o.station (.moveAdvised o.channel index) (setSlot i ((s.slots.read i).withSuspect (some index)) s)
  | .pinned _ => setSlot i ((s.slots.read i).withSuspect (some index)) s
  | .spare _ => retireSlot none i s

/-- The slot is PINNED. -/
def Slot.isPinned (x : Slot) : Bool :=
  match x with
  | .pinned _ => true
  | .free => false
  | .owned _ => false
  | .spare _ => false

/-- The confirmation of a foreign carrier, in the order of R146. -/
def confirmForeign (index : Nat) (s : State) : State :=
  let s := raise .foreignNew (advanceEpoch s)
  let reached := s.slots.numbersWith (Slot.reachedBy s.plan.fg index)
  let pins := reached.any fun i => (s.slots.read i).isPinned
  let s := reached.foldl (fun t i => reachSlot index i t) s
  if pins then raise .pinnedSuspect s else s

/-! ## Removal (R149) -/

/-- A slot whose suspect field has the removed index as its source. -/
def Slot.sourcedFrom (index : Nat) (x : Slot) : Bool := x.suspect? == some index

/-- A slot's suspect field as the carriers that remain give it, measured from whichever of its indices lies closer
(R149). -/
def resourced (s : State) (x : Slot) : Option Nat :=
  match x.frequency? with
  | none => none
  | some f => nearestForeign s f x.pending?

/-- The re-evaluation of every slot sourced from a removed index (R149). -/
def reevaluate (index : Nat) (s : State) : State :=
  { s with slots := s.slots.each fun x => if x.sourcedFrom index then x.withSuspect (resourced s x) else x }

/-- An entry leaves the foreign list; removing a CONFIRMED one re-evaluates the slots sourced from it and empties the
barred set (R144, R149, R150). -/
def dropEntry (e : ForeignEntry) (s : State) : State :=
  let s := setForeign (removeEntry e.index s.sweep.foreign) s
  if e.confirmed then emptyBarred (reevaluate e.index s) else s

/-! ## The evaluation of a point (R139, R142 to R144) -/

/-- An entry after a hit (R142). -/
def ForeignEntry.hit (k level : Nat) (e : ForeignEntry) : ForeignEntry :=
  { e with
    hits := min (e.hits + 1) k
    misses := 0
    peak := max e.peak level
    confirmed := e.confirmed || min (e.hits + 1) k == k }

/-- A hit at a point that holds an entry (R142). -/
def hitEntry (e : ForeignEntry) (level : Nat) (s : State) : State :=
  let after := e.hit s.sweep.config.k level
  let s := setForeign (changeEntry e.index (fun _ => after) s.sweep.foreign) s
  if after.confirmed && !e.confirmed then confirmForeign e.index s else s

/-- A hit at a point that holds no entry (R143). -/
def hitNew (index level : Nat) (s : State) : State :=
  if Config.foreignCapacity ≤ s.sweep.foreign.length then raise .foreignFull s
  else
    let e : ForeignEntry :=
      { index := index, confirmed := s.sweep.config.k ≤ 1, peak := level, hits := 1, misses := 0 }
    let s := setForeign (insertEntry e s.sweep.foreign) s
    if e.confirmed then confirmForeign index s else s

/-- A miss at a point that holds an entry (R144). -/
def missEntry (e : ForeignEntry) (s : State) : State :=
  if s.sweep.config.m ≤ e.misses + 1 then dropEntry e s
  else setForeign (changeEntry e.index (fun x => { x with misses := x.misses + 1 }) s.sweep.foreign) s

/-- The point is decided against the tables as they stand (R139 to R141). -/
def decidePoint (index level : Nat) (s : State) : State :=
  if explained s index then s
  else
    match entryAt index s.sweep.foreign with
    | some e => if isHit s.sweep.config level true then hitEntry e level s else missEntry e s
    | none => if isHit s.sweep.config level false then hitNew index level s else s

/-- The conversion completes with a level: the last result, the decision, and what follows the point (R139, R137). -/
def completePoint (level : Nat) (s : State) : State :=
  nextPoint
    (decidePoint s.sweep.cursor level { s with sweep := { s.sweep with last := some (level, s.sweep.cursor) } })

/-! ## The commands -/

/-- TUNE_LATCH (R138): due while TUNING; the latch pulse gives the receiver the word. -/
def execTuneLatch (s : State) : Host.Outcome State Fault Refusal :=
  match s.sweep.activity with
  | some (.tuning w) => .next { s with sweep := { s.sweep with activity := some .settling, latched := some w } }
  | _ => .next s

/-- SETTLE_END (R138): due while SETTLING. -/
def execSettleEnd (s : State) : Host.Outcome State Fault Refusal :=
  match s.sweep.activity with
  | some .settling => .next { s with sweep := { s.sweep with activity := some .converting } }
  | _ => .next s

/-- CONVERSION_COMPLETE (R139): due while CONVERTING; the level is the converter's (R194). -/
def execConversionComplete (rssi refLow refHigh : Nat) (s : State) : Host.Outcome State Fault Refusal :=
  match s.sweep.activity with
  | some .converting =>
    .next
      (startRefill
        (completePoint
          (converterLevel (Config.levelOutsideReferences s.freeUsed) rssi refLow refHigh) (showFree s)))
  | _ => .next s

/-- PASS_GAP_END (R137): due in the gap; the next pass begins at lo. -/
def execPassGapEnd (s : State) : Host.Outcome State Fault Refusal :=
  match s.sweep.activity with
  | some .gap => .next (beginPoint s.sweep.config.lo s)
  | _ => .next s

/-- The checks of WRITE SWEEP after the first (R135, checks 2 to 6). -/
def sweepValid (c : SweepConfig) : Bool :=
  edgesValid c.lo c.hi && c.step ≤ 16 && 1 ≤ c.settle && c.hysteresis ≤ 63 && 1 ≤ c.k && c.k ≤ 4 && 1 ≤ c.m &&
    c.m ≤ 8 && c.e ≤ 8 && 1 ≤ c.scale

/-- WRITE_SWEEP (R135): a step of 0 is stored as 1. -/
def execWriteSweep (lo hi : Word) (step settle threshold hysteresis k m e gap : Byte) (offset : Word24) (scale : Byte)
    (s : State) : Host.Outcome State Fault Refusal :=
  let c : SweepConfig :=
    { lo := lo.toNat, hi := hi.toNat, step := step.toNat, settle := settle.toNat, threshold := threshold.toNat,
      hysteresis := hysteresis.toNat, k := k.toNat, m := m.toNat, e := e.toNat, gap := gap.toNat,
      offset := offset.toNat, scale := scale.toNat }
  if s.sweep.activity.isSome then deny .busy s
  else if sweepValid c then accept [] { s with sweep := { s.sweep with config := { c with step := max 1 c.step } } }
  else deny .range s

/-- READ_SWEEP (R134, R191). The manual states no value for the last level while there is no last result: a free value
stands there (log entry 15). -/
def execReadSweep (s : State) : Host.Outcome State Fault Refusal :=
  accept
    (activityCodes s.sweep.activity ++ wordOf s.sweep.cursor ++
      (match s.sweep.last with
        | some (level, index) => byteOf level :: wordOf index
        | none => (Config.freeValue s.freeUsed).extractLsb' 0 8 :: optionalWord none) ++
      sweepConfigBytes s.sweep.config) (showFree s)

/-- SWEEP_START (R136). -/
def execSweepStart (s : State) : Host.Outcome State Fault Refusal :=
  if s.sweep.activity.isSome then accept [] s else accept [] (beginPoint s.sweep.config.lo s)

/-- SWEEP_STOP (R136): the point or the gap in progress ends; an abandoned point is not evaluated (R138). -/
def execSweepStop (s : State) : Host.Outcome State Fault Refusal :=
  accept [] { s with sweep := { s.sweep with activity := none } }

/-- READ_FOREIGN (R145). -/
def execReadForeign (s : State) : Host.Outcome State Fault Refusal :=
  accept (byteOf s.sweep.foreign.length :: s.sweep.foreign.flatMap foreignRecord) s

/-- The slots sourced from an index whose suspect field a removal clears, and those it gives another source (R150). -/
def dropCounts (e : ForeignEntry) (s : State) : Nat × Nat :=
  if e.confirmed then
    let after := setForeign (removeEntry e.index s.sweep.foreign) s
    (s.slots.countWith fun x => x.sourcedFrom e.index && (resourced after x).isNone,
      s.slots.countWith fun x => x.sourcedFrom e.index && (resourced after x).isSome)
  else (0, 0)

/-- DROP_FOREIGN (R150). -/
def execDropForeign (index : Word) (s : State) : Host.Outcome State Fault Refusal :=
  if !(onGrid index.toNat) then deny .range s
  else
    match entryAt index.toNat s.sweep.foreign with
    | none => deny .unknown s
    | some e =>
      accept ([foreignCode e.confirmed] ++ wordOf (dropCounts e s).1 ++ wordOf (dropCounts e s).2)
        (startRefill (dropEntry e s))

end Sys2Proof.Machine
end

