-- ==== Sys2Proof/Machine/Console.lean ====
section
/-! DEFINITION. The Console Port (chapter 9): hardware reset, the mode requests START, STOP and CLEAR, the reads that the port
gathers itself, the DEFER thresholds, the attention flags and their mask, and the frames that carry no request. -/

namespace Sys2Proof.Machine

/-! ## Hardware reset (R43, R93, R151, R186) -/

/-- A branch after hardware reset: its receive line is where the stations hold it. -/
def resetBranch (br : Branch) : Branch := { Branch.reset with line := br.line }

/-- The part after a hardware reset. What is not the part's own stays: the levels of the receive lines, the word that the
scanning receiver holds (R151), the queue of commands, and the count of free values shown (log entry 6). -/
def resetPart (s : State) : State :=
  { State.reset with
    branches := s.branches.each resetBranch
    sweep := { Sweep.reset with latched := s.sweep.latched }
    freeUsed := s.freeUsed
    pending := s.pending }

/-- HARDWARE_RESET (R43, R186). -/
def execHardwareReset (s : State) : Host.Outcome State Fault Refusal := .next (resetPart s)

/-! ## START, STOP and CLEAR (R176 to R178) -/

/-- The mode replaced. -/
def setMode (m : Mode) (s : State) : State := { s with console := { s.console with mode := m } }

/-- A RUNNING branch sets its round count to 0 and begins a round at START; any other branch begins none (R158). -/
def startBranch (b : Fin 4) (s : State) : State :=
  if (s.branches.read b).state = .running then beginRound b (changeBranch b (fun br => { br with roundCount := 0 }) s)
  else s

/-- START in CONFIG: RUN, a round on each RUNNING branch, queued console work taken if the engine is free, a refill
started where R82 allows (R158, R176). DESIGN CHOICE, log entry 36: work so taken has the whole effect of its taking (R88 to
R90) in START's event, on the result record, ENGINE_DONE and slot 0's conflict field as well. -/
def startPart (s : State) : State :=
  startRefill (takeWork ((List.finRange 4).foldl (fun t b => startBranch b t) (setMode .run s)))

/-- STOP in RUN: the engine work abandoned, the tick stopped, polling stopped on every branch, CONFIG (R92, R114, R158,
R177). -/
def stopPart (s : State) : State :=
  setMode .config ((List.finRange 4).foldl (fun t b => stopPolling b t) (stopTick (abandonWork s)))

/-- START (R176). -/
def execStart (s : State) : Host.Outcome State Fault Refusal :=
  if inRun s then accept [] s else accept [] (startPart s)

/-- STOP (R177). -/
def execStop (s : State) : Host.Outcome State Fault Refusal :=
  if inRun s then accept [] (stopPart s) else accept [] s

/-- The tables as CLEAR leaves them: every slot FREE, every zone STEADY without spares, the dynamic fields of the present
stations reset, the foreign list and the barred set empty (R42, R93, R115, R126, R127, R151, R165). -/
def emptyTables (s : State) : State :=
  setForeign []
    (emptyBarred
      { s with
        slots := Table.filled 384 .free
        zones := Table.filled 16 { clearing := none, spares := [] }
        stations := s.stations.each (Option.map Station.fresh) })

/-- CLEAR: the actions of STOP in RUN, in CONFIG the engine work abandoned, then the tables emptied (R178). -/
def clearPart (s : State) : State := emptyTables (if inRun s then stopPart s else abandonWork s)

/-- CLEAR (R178). -/
def execClear (s : State) : Host.Outcome State Fault Refusal := accept [] (clearPart s)

/-! ## Reads (R175, R182) -/

/-- The slot is ACTIVE. -/
def Slot.isActive (x : Slot) : Bool :=
  match x with
  | .owned o => o.state == .active
  | .free => false
  | .pinned _ => false
  | .spare _ => false

/-- The slot is STALE. -/
def Slot.isStale (x : Slot) : Bool :=
  match x with
  | .owned o => o.state != .active
  | .free => false
  | .pinned _ => false
  | .spare _ => false

/-- The slot is SPARE. -/
def Slot.isSpare (x : Slot) : Bool :=
  match x with
  | .spare _ => true
  | .free => false
  | .owned _ => false
  | .pinned _ => false

/-- The sum of all stations' held counts (R182). -/
def heldSum (s : State) : Nat :=
  (s.stations.toList.map fun x =>
      match x with
      | some st => st.held
      | none => 0).sum

/-- The five slot counts, FREE to SPARE (R182, R191). -/
def slotCounts (s : State) : List Nat :=
  [s.slots.countWith Slot.isFree, s.slots.countWith Slot.isActive, s.slots.countWith Slot.isStale,
    s.slots.countWith Slot.isPinned, s.slots.countWith Slot.isSpare]

/-- READ_COUNTS (R182). -/
def execReadCounts (s : State) : Host.Outcome State Fault Refusal :=
  accept
    ([modeCode s.console.mode, byteOf s.engine.queue.length, markOf s.engine.defer, markOf s.console.openRequest] ++
      splitWord s.epoch ++ (slotCounts s).flatMap wordOf ++ wordOf (heldSum s)) s

/-- READ_TIMING (R175). -/
def execReadTiming (s : State) : Host.Outcome State Fault Refusal :=
  accept
    ([periodCode s.timing.period, byteOf s.timing.lease] ++ wordOf s.timing.hold ++
      [byteOf s.timing.moveTime, byteOf s.engine.upper, byteOf s.engine.lower]) s

/-! ## The DEFER thresholds (R69) -/

/-- The thresholds written, a lower one at or above the upper clamped to the upper less one, and the DEFER flag compared
with them (R69). -/
def writeThresholds (upper lower : Nat) (s : State) : State :=
  deferClear (deferSet { s with engine := { s.engine with upper := upper, lower := min lower (upper - 1) } })

/-- WRITE_DEFER (R69). -/
def execWriteDefer (upper lower : Byte) (s : State) : Host.Outcome State Fault Refusal :=
  if 1 ≤ upper.toNat ∧ upper.toNat ≤ Config.queueCapacity then
    accept [] (writeThresholds upper.toNat lower.toNat s)
  else deny .range s

/-! ## Attention (R184, R185) -/

/-- Every attention flag is cleared (R184). -/
def clearFlags (s : State) : State := { s with console := { s.console with flags := 0 } }

/-- READ_ATTENTION (R184). -/
def execReadAttention (s : State) : Host.Outcome State Fault Refusal :=
  accept [s.console.flags, s.console.mask] (clearFlags s)

/-- WRITE_MASK (R185). -/
def execWriteMask (mask : Byte) (s : State) : Host.Outcome State Fault Refusal :=
  accept [] { s with console := { s.console with mask := mask } }

/-! ## Frames without a request (R173, R174) -/

/-- UNKNOWN_REQUEST_CODE (R173): answered UNKNOWN; a code that names a request is no such frame, and nothing happens
(log entry 21). -/
def execUnknownRequestCode (code : Byte) (s : State) : Host.Outcome State Fault Refusal :=
  if (requestReader code.toNat).isNone then deny .unknown s else .next s

/-- CHIP_SELECT_RELEASED_EARLY (R174): nothing is taken, nothing changes and no status is given. -/
def execChipSelectReleasedEarly (_received : List Byte) (s : State) : Host.Outcome State Fault Refusal :=
  .next { s with console := { s.console with response := [] } }

end Sys2Proof.Machine
end

