-- ==== Sys2Proof/Machine/Dispatch.lean ====
section
/-! DEFINITION. One arm per command: a direct call of its meaning. -/

namespace Sys2Proof.Machine

/-- A command's effect on everything but the queue. -/
def exec (i : Instr) (s : State) : Host.Outcome State Fault Refusal :=
  match i with
  | .hardwareReset => Sys2Proof.Machine.execHardwareReset s
  | .writeProfile profile state low high step c p3 p5 => Sys2Proof.Machine.execWriteProfile profile state low high step c p3 p5 s
  | .writeProfileUndefined profile low high step c p3 p5 => Sys2Proof.Machine.execWriteProfileUndefined profile low high step c p3 p5 s
  | .readProfile profile => Sys2Proof.Machine.execReadProfile profile s
  | .writeZone zone zlo zhi depth spareProfile clearTime => Sys2Proof.Machine.execWriteZone zone zlo zhi depth spareProfile clearTime s
  | .readZone zone => Sys2Proof.Machine.execReadZone zone s
  | .writeCoupling a b value => Sys2Proof.Machine.execWriteCoupling a b value s
  | .readCoupling a b => Sys2Proof.Machine.execReadCoupling a b s
  | .addExclusion lo hi => Sys2Proof.Machine.execAddExclusion lo hi s
  | .removeExclusion lo hi => Sys2Proof.Machine.execRemoveExclusion lo hi s
  | .listExclusions => Sys2Proof.Machine.execListExclusions s
  | .writeGuards g fg => Sys2Proof.Machine.execWriteGuards g fg s
  | .readGuards => Sys2Proof.Machine.execReadGuards s
  | .writeTimeBase code => Sys2Proof.Machine.execWriteTimeBase code s
  | .writeLease period => Sys2Proof.Machine.execWriteLease period s
  | .writeHold hold => Sys2Proof.Machine.execWriteHold hold s
  | .writeMoveTime ticks => Sys2Proof.Machine.execWriteMoveTime ticks s
  | .writeDefer upper lower => Sys2Proof.Machine.execWriteDefer upper lower s
  | .readTiming => Sys2Proof.Machine.execReadTiming s
  | .writeStation record branch address zone ceiling authority => Sys2Proof.Machine.execWriteStation record branch address zone ceiling authority s
  | .removeStation record => Sys2Proof.Machine.execRemoveStation record s
  | .readStation record => Sys2Proof.Machine.execReadStation record s
  | .writeBranch branch rate turnoff window gap debounce => Sys2Proof.Machine.execWriteBranch branch rate turnoff window gap debounce s
  | .readBranch branch => Sys2Proof.Machine.execReadBranch branch s
  | .branchEnable branch => Sys2Proof.Machine.execBranchEnable branch s
  | .branchDisable branch => Sys2Proof.Machine.execBranchDisable branch s
  | .pin index profile zone checkFlag label => Sys2Proof.Machine.execPin index profile zone checkFlag label s
  | .checkedPin index profile zone label => Sys2Proof.Machine.execCheckedPin index profile zone label s
  | .retire slot => Sys2Proof.Machine.execRetire slot s
  | .readEntry slot => Sys2Proof.Machine.execReadEntry slot s
  | .readEntries start n => Sys2Proof.Machine.execReadEntries start n s
  | .readCounts => Sys2Proof.Machine.execReadCounts s
  | .changeover zone force => Sys2Proof.Machine.execChangeover zone force s
  | .check index profile zone => Sys2Proof.Machine.execCheck index profile zone s
  | .audit => Sys2Proof.Machine.execAudit s
  | .readResult => Sys2Proof.Machine.execReadResult s
  | .writeSweep lo hi step settle threshold hysteresis k m e gap offset scale => Sys2Proof.Machine.execWriteSweep lo hi step settle threshold hysteresis k m e gap offset scale s
  | .readSweep => Sys2Proof.Machine.execReadSweep s
  | .sweepStart => Sys2Proof.Machine.execSweepStart s
  | .sweepStop => Sys2Proof.Machine.execSweepStop s
  | .readForeign => Sys2Proof.Machine.execReadForeign s
  | .dropForeign index => Sys2Proof.Machine.execDropForeign index s
  | .start => Sys2Proof.Machine.execStart s
  | .stop => Sys2Proof.Machine.execStop s
  | .clear => Sys2Proof.Machine.execClear s
  | .readAttention => Sys2Proof.Machine.execReadAttention s
  | .writeMask mask => Sys2Proof.Machine.execWriteMask mask s
  | .unknownRequestCode code => Sys2Proof.Machine.execUnknownRequestCode code s
  | .chipSelectReleasedEarly received => Sys2Proof.Machine.execChipSelectReleasedEarly received s
  | .tick => Sys2Proof.Machine.execTick s
  | .leaseCounterDecrement station => Sys2Proof.Machine.execLeaseCounterDecrement station s
  | .lapse station => Sys2Proof.Machine.execLapse station s
  | .holdCounterDecrement slot => Sys2Proof.Machine.execHoldCounterDecrement slot s
  | .holdExpiry slot => Sys2Proof.Machine.execHoldExpiry slot s
  | .moveCounterDecrement slot => Sys2Proof.Machine.execMoveCounterDecrement slot s
  | .moveLapse slot => Sys2Proof.Machine.execMoveLapse slot s
  | .clearTimerDecrement zone => Sys2Proof.Machine.execClearTimerDecrement zone s
  | .clearTimerExpiry zone => Sys2Proof.Machine.execClearTimerExpiry zone s
  | .poll branch => Sys2Proof.Machine.execPoll branch s
  | .turnoffDelayEnd branch => Sys2Proof.Machine.execTurnoffDelayEnd branch s
  | .replyAccepted branch char => Sys2Proof.Machine.execReplyAccepted branch char s
  | .replyWindowExpired branch => Sys2Proof.Machine.execReplyWindowExpired branch s
  | .replyGapTimeout branch => Sys2Proof.Machine.execReplyGapTimeout branch s
  | .replyFailed branch char => Sys2Proof.Machine.execReplyFailed branch char s
  | .quietWaitEnd branch => Sys2Proof.Machine.execQuietWaitEnd branch s
  | .strayCharacter branch char => Sys2Proof.Machine.execStrayCharacter branch char s
  | .roundGapEnd branch => Sys2Proof.Machine.execRoundGapEnd branch s
  | .branchFault branch => Sys2Proof.Machine.execBranchFault branch s
  | .branchFaultRecovery branch => Sys2Proof.Machine.execBranchFaultRecovery branch s
  | .validReplyNotice station => Sys2Proof.Machine.execValidReplyNotice station s
  | .engineTake => Sys2Proof.Machine.execEngineTake s
  | .candidateEvaluation => Sys2Proof.Machine.execCandidateEvaluation s
  | .searchCompletion => Sys2Proof.Machine.execSearchCompletion s
  | .reTest => Sys2Proof.Machine.execReTest s
  | .checkedPinCompletion => Sys2Proof.Machine.execCheckedPinCompletion s
  | .auditVisit => Sys2Proof.Machine.execAuditVisit s
  | .tuneLatch => Sys2Proof.Machine.execTuneLatch s
  | .settleEnd => Sys2Proof.Machine.execSettleEnd s
  | .conversionComplete rssi refLow refHigh => Sys2Proof.Machine.execConversionComplete rssi refLow refHigh s
  | .passGapEnd => Sys2Proof.Machine.execPassGapEnd s
  | .replyCharacterReceived branch char => Sys2Proof.Machine.execReplyCharacterReceived branch char s
  | .lineTransition branch level => Sys2Proof.Machine.execLineTransition branch level s

end Sys2Proof.Machine
end

