-- ==== Sys2Proof/Machine/Step.lean ====
section
/-! DEFINITION. The step of the block: the command at the front of the queue is taken; with no command waiting the block idles
(log entry 1). -/

namespace Sys2Proof.Machine

/-- The state with the queue of waiting commands replaced. -/
def State.withPending (s : State) (cs : List Instr) : State := { s with pending := cs }

/-- One step: the first waiting command has its effect on the part with the rest of the queue waiting. -/
def step (s : State) : Host.Outcome State Fault Refusal :=
  match s.pending with
  | [] => .next s
  | c :: rest => exec c (s.withPending rest)

/-- The state with the command that a word of the table's spells put at the front of the queue; unchanged where the word
spells none (log entry 17). -/
def State.withFetchWord (s : State) (nbits w : Nat) : State :=
  match decodeTableWord nbits w with
  | some c => s.withPending (c :: s.pending)
  | none => s

end Sys2Proof.Machine
end

