-- ==== Sys2Proof/Safety.lean ====
section
/-! DEFINITION. What counts as a sound state of the part, in the terms that the claims use: the limits of its tables, the
ranges of its settings, and the facts that the rules state of every moment. -/

namespace Sys2Proof.Machine

/-! ## Limits of the tables (R14, R65, R145, R165, R168, R169) -/

/-- No table holds more than the manual gives it room for; the request queue is ordered by class; no two notices of one
queue have one kind and channel; no two present station records have one branch and address. -/
structure Limits (s : State) : Prop where
  queue : s.engine.queue.length ≤ 24
  classes : s.engine.queue.Pairwise fun x y => x.rank ≤ y.rank
  bands : s.plan.exclusions.length ≤ 32
  foreign : s.sweep.foreign.length ≤ 32
  notices : ∀ r st, s.stations.read r = some st → st.notices.length ≤ 8
  keys : ∀ r st, s.stations.read r = some st → st.notices.Pairwise fun x y => sameKey x.notice y.notice = false
  failures : ∀ r st, s.stations.read r = some st → st.failures ≤ 4
  addresses : ∀ r q st su, s.stations.read r = some st → s.stations.read q = some su → st.branch = su.branch →
    st.address = su.address → r = q

/-! ## Ranges (R5, R9, R12, R14, R18, R68, R69, R97, R135, R155, R165) -/

/-- A profile record lies within R5's ranges. -/
def Profile.inRange (p : Profile) : Prop :=
  p.low ≤ p.high ∧ p.high < 9120 ∧ p.step ∈ [1, 2, 4, 8] ∧ 1 ≤ p.c ∧ p.c ≤ 40 ∧ p.p3 ≤ 20 ∧ p.p5 ≤ 10

/-- A zone's settings lie within R9's ranges. -/
def ZonePlan.inRange (z : ZonePlan) : Prop := z.zlo ≤ z.zhi ∧ z.zhi < 9120 ∧ z.depth ≤ 4 ∧ z.clearTime ≤ 65535

/-- A band lies on the grid with its edges in order (R14). -/
def Band.inRange (b : Band) : Prop := b.lo ≤ b.hi ∧ b.hi < 9120

/-- The plan is one that the manual allows: every item in its range, a zone with a spare depth above 0 names a DEFINED
profile, the coupling symmetric with SHARED on its diagonal, the bands in order without a repeat. -/
structure PlanSound (p : Plan) : Prop where
  profiles : ∀ i, (p.profiles.read i).inRange
  zones : ∀ z, (p.zones.read z).inRange
  spares : ∀ z, 0 < (p.zones.read z).depth → (p.profiles.read (p.zones.read z).spareProfile).defined = true
  symmetric : ∀ a b, (p.coupling.read a).read b = (p.coupling.read b).read a
  diagonal : ∀ a, (p.coupling.read a).read a = .shared
  bands : ∀ b ∈ p.exclusions, b.inRange
  order : p.exclusions.Pairwise fun x y => bandBefore x y = true
  guards : p.g ≤ 40 ∧ p.fg ≤ 40

/-- The sweep configuration lies within R135's ranges. -/
def SweepConfig.inRange (c : SweepConfig) : Prop :=
  c.lo ≤ c.hi ∧ c.hi < 9120 ∧ 1 ≤ c.step ∧ c.step ≤ 16 ∧ 1 ≤ c.settle ∧ c.settle ≤ 255 ∧ c.threshold ≤ 255 ∧
    c.hysteresis ≤ 63 ∧ 1 ≤ c.k ∧ c.k ≤ 4 ∧ 1 ≤ c.m ∧ c.m ≤ 8 ∧ c.e ≤ 8 ∧ c.gap ≤ 255 ∧ c.offset ≤ 16777215 ∧
    1 ≤ c.scale ∧ c.scale ≤ 255

/-- A branch's settings lie within R155's ranges. -/
def Branch.inRange (b : Branch) : Prop :=
  1 ≤ b.window ∧ b.window ≤ 15 ∧ b.gap ≤ 255 ∧ 1 ≤ b.debounce ∧ b.debounce ≤ 255

/-- The settings outside the plan lie in their ranges, and DEFER agrees with its thresholds: set only above the lower,
clear only below the upper. -/
structure SettingsSound (s : State) : Prop where
  lease : 1 ≤ s.timing.lease ∧ s.timing.lease ≤ 255
  hold : s.timing.hold ≤ 65535
  moveTime : 1 ≤ s.timing.moveTime ∧ s.timing.moveTime ≤ 255
  thresholds : 1 ≤ s.engine.upper ∧ s.engine.upper ≤ 24 ∧ s.engine.lower < s.engine.upper
  deferOn : s.engine.defer = true → s.engine.lower < s.engine.queue.length
  deferOff : s.engine.defer = false → s.engine.queue.length < s.engine.upper
  stations : ∀ r st, s.stations.read r = some st →
    1 ≤ st.address ∧ st.address ≤ 31 ∧ 1 ≤ st.ceiling ∧ st.ceiling ≤ 64
  sweep : s.sweep.config.inRange
  branches : ∀ b, (s.branches.read b).inRange

/-! ## Open requests (R65, R67) -/

/-- How much engine work of a station is queued or in the foreground. -/
def stationWork (e : Engine) (r : Fin 48) : Nat := (openStations e).count r

/-- How much console engine work is queued or in the foreground. -/
def hostWork (e : Engine) : Nat := (openHostKinds e).length

/-- The station of a poll in progress whose record has not been removed or moved meanwhile. -/
def Activity.polled? (a : Activity) : Option (Fin 48) :=
  match a with
  | .sending p => if p.stationGone then none else some p.station
  | .listening p _ _ => if p.stationGone then none else some p.station
  | .idle => none
  | .inRound _ => none
  | .quiet _ => none
  | .gap _ => none

/-- Each station and the console has one open request while its open-request flag is set and none otherwise, and every
poll in progress whose station is not gone has a present record on its branch. -/
structure OpenSound (s : State) : Prop where
  present : ∀ r st, s.stations.read r = some st → stationWork s.engine r = if st.openRequest then 1 else 0
  absent : ∀ r, s.stations.read r = none → stationWork s.engine r = 0
  host : hostWork s.engine = if s.console.openRequest then 1 else 0
  polled : ∀ b r, (s.branches.read b).activity.polled? = some r →
    ∃ st, s.stations.read r = some st ∧ st.branch = b

/-! ## Phases and clearing (R22, R116) -/

/-- Some slot of the zone is in phase ENDING. -/
def hasEnding (s : State) (z : Fin 16) : Prop := ∃ i, (s.slots.read i).endingIn z = true

/-- The phase that queued or running engine work asks for is LIVE or NEXT. -/
def Work.phaseSound (w : Work) : Prop :=
  match w with
  | .request r => r.phase ≠ .ending
  | .move _ => True
  | .check _ => True
  | .pin _ => True
  | .audit => True

/-- The same of the foreground work. -/
def Foreground.phaseSound (f : Foreground) : Prop :=
  match f with
  | .request r _ => r.phase ≠ .ending
  | .move _ _ => True
  | .pin _ _ => True
  | .audit _ _ => True

/-- A zone is CLEARING exactly while it has an ENDING slot, and no open REQUEST asks for ENDING. -/
structure ClearingSound (s : State) : Prop where
  zones : ∀ z, (s.zones.read z).clearing.isSome = true ↔ hasEnding s z
  queue : ∀ w ∈ s.engine.queue, w.phaseSound
  foreground : ∀ f, s.engine.foreground = some f → f.phaseSound

/-! ## The foreign list and the suspect fields (R38, R145) -/

/-- The foreign list is in ascending order of index without a repeat, and the source of every suspect field is a CONFIRMED
entry of it. -/
structure SuspectSound (s : State) : Prop where
  order : s.sweep.foreign.Pairwise fun x y => x.index < y.index
  sources : ∀ i x, (s.slots.read i).suspect? = some x → ∃ e ∈ s.sweep.foreign, e.index = x ∧ e.confirmed = true

/-! ## Spare lists (R127, R132) -/

/-- The slot is SPARE in the zone. -/
def Slot.spareIn (z : Fin 16) (x : Slot) : Prop :=
  match x with
  | .spare r => r.zone = z
  | .free => False
  | .owned _ => False
  | .pinned _ => False

/-- Every spare list holds the SPARE slots of its zone once each and no more than its depth, each under the zone's spare
profile, with room left for the refill that is held. -/
structure SparesSound (s : State) : Prop where
  members : ∀ z i, i ∈ (s.zones.read z).spares ↔ (s.slots.read i).spareIn z
  once : ∀ z, (s.zones.read z).spares.Nodup
  depth : ∀ z, (s.zones.read z).spares.length ≤ (s.plan.zones.read z).depth
  profile : ∀ i r, s.slots.read i = .spare r → r.profile = (s.plan.zones.read r.zone).spareProfile
  refill : ∀ b, s.engine.background = some b → wantsSpare s b.zone = true

/-! ## Held counts and owners (R31, R36) -/

/-- A REQUEST of the station for the channel is queued or in the foreground. -/
def requestOpenFor (e : Engine) (r : Fin 48) (ch : Fin 64) : Prop :=
  (∃ w, .request w ∈ e.queue ∧ w.station = r ∧ w.channel = ch) ∨
    ∃ w c, e.foreground = some (.request w c) ∧ w.station = r ∧ w.channel = ch

/-- With open requests as they should be: the held count of a present station is the number of slots it owns, an absent
one owns none, no two slots have one owner, and no slot is owned for which a REQUEST is open. -/
structure OwnersSound (s : State) : Prop where
  requests : OpenSound s
  held : ∀ r st, s.stations.read r = some st → st.held = s.slots.countWith (Slot.ownedByStation r)
  absent : ∀ r i, s.stations.read r = none → (s.slots.read i).ownedByStation r = false
  unique : ∀ r ch i j, (s.slots.read i).ownedBy r ch = true → (s.slots.read j).ownedBy r ch = true → i = j
  fresh : ∀ r ch i, requestOpenFor s.engine r ch → (s.slots.read i).ownedBy r ch = false

/-! ## Modes and branches (R65, R82, R153, R156 to R158) -/

/-- A branch polls only while it is RUNNING in RUN; TXEN is asserted while it sends and released while it listens and
while it is FAULTED; a watched run of space stands on a RUNNING branch and a run of mark on a FAULTED one. -/
def Branch.linkSound (running : Bool) (br : Branch) : Prop :=
  (br.activity ≠ .idle → br.state = .running ∧ running = true) ∧
    (∀ p, br.activity = .sending p → br.txen = true) ∧
    (∀ p rx seen, br.activity = .listening p rx seen → br.txen = false) ∧
    (br.spaceRun = true → br.state = .running ∧ br.line = .space ∧ br.txen = false) ∧
    (br.markRun = true → br.state = .faulted ∧ br.line = .mark) ∧ (br.state = .faulted → br.txen = false)

/-- Every branch is as its state and the mode allow, and in CONFIG there is no refill and no station's work. -/
structure ModeSound (s : State) : Prop where
  branches : ∀ b, (s.branches.read b).linkSound (inRun s)
  refill : s.console.mode = .config → s.engine.background = none
  stations : s.console.mode = .config → openStations s.engine = []

/-! ## Answer queues (R168) -/

/-- The item that the poll in progress on a branch carries, while its station is not gone. -/
def Activity.carries? (a : Activity) : Option PollItem :=
  match a with
  | .sending p => if p.stationGone then none else some p.item
  | .listening p _ _ => if p.stationGone then none else some p.item
  | .idle => none
  | .inRound _ => none
  | .quiet _ => none
  | .gap _ => none

/-- The item is an answer. -/
def PollItem.isAnswer (i : PollItem) : Bool :=
  match i with
  | .answer _ => true
  | .nothing => false
  | .resync => false
  | .notice _ => false

/-- With open requests, the mode and the branches as they should be: the answers waiting and the open request of a station number at most 2, and at
most 1 beside an answer that a poll in progress carries, which is the head of the queue. -/
structure AnswersSound (s : State) : Prop where
  requests : OpenSound s
  link : ModeSound s
  room : ∀ r st, s.stations.read r = some st → st.answers.length + stationWork s.engine r ≤ 2
  carried : ∀ b r st, (s.branches.read b).activity.polled? = some r → s.stations.read r = some st →
    ∀ a, (s.branches.read b).activity.carries? = some (.answer a) → st.answers.head? = some a
  free : ∀ b r st i, (s.branches.read b).activity.polled? = some r → s.stations.read r = some st →
    (s.branches.read b).activity.carries? = some i → i.isAnswer = false →
    st.answers.length + stationWork s.engine r ≤ 1

/-! ## Leases (R26, R100 to R102) -/

/-- With owners as they should be: an owned slot is ACTIVE exactly while its owner's lease is CURRENT, and a LAPSED
station's lease counter stands at 0. -/
structure LeaseSound (s : State) : Prop where
  owners : OwnersSound s
  states : ∀ i o st, s.slots.read i = .owned o → s.stations.read o.station = some st →
    (o.state = .active ↔ st.leaseState = .current)
  counters : ∀ r st, s.stations.read r = some st → st.leaseState = .lapsed → st.lease.count = 0

/-! ## What the records hold (R20, R23, R73, R91, R116, R134, R145) -/

/-- A running counter holds at least one tick and no more than its field can. -/
def TickCounter.within (limit : Nat) (c : TickCounter) : Prop := 1 ≤ c.count ∧ c.count ≤ limit

/-- A slot's fields lie in R20's ranges. -/
def Slot.inRange (x : Slot) : Prop :=
  match x with
  | .free => True
  | .owned o =>
    o.frequency < 9120 ∧ labelValid o.label = true ∧
      (∀ w, o.move = some w → w.pending < 9120 ∧ w.counter.within 255) ∧
      ∀ h, o.state = .stale (some h) → h.within 65535
  | .pinned p => p.frequency < 9120 ∧ labelValid p.label = true
  | .spare r => r.frequency < 9120

/-- The index of console work lies on the grid and a pin's label is a label. -/
def Work.inRange (w : Work) : Prop :=
  match w with
  | .check k => k.index < 9120
  | .pin k => k.index < 9120 ∧ labelValid k.label = true
  | .request _ => True
  | .move _ => True
  | .audit => True

/-- A search has made at most two re-searches, and its found candidate lies on the grid. -/
def SearchContext.inRange (c : SearchContext) : Prop :=
  c.research ≤ 2 ∧
    match c.stage with
    | .walking => True
    | .found f => f < 9120
    | .retestDue f => f < 9120
    | .retested f => f < 9120

/-- The same of the foreground work; an audit under way has a slot left to visit, and no more flagged than visited. -/
def Foreground.inRange (f : Foreground) : Prop :=
  match f with
  | .request _ c => c.inRange
  | .move _ c => c.inRange
  | .pin k c => k.index < 9120 ∧ labelValid k.label = true ∧ c.inRange
  | .audit n flagged => n < 384 ∧ flagged ≤ n

/-- A foreign entry's fields lie in R145's ranges. -/
def ForeignEntry.inRange (e : ForeignEntry) : Prop :=
  e.index < 9120 ∧ e.peak ≤ 255 ∧ 1 ≤ e.hits ∧ e.hits ≤ 4 ∧ e.misses ≤ 7

/-- With the plan and the settings in their ranges: every record, counter and piece of work holds values of its field. -/
structure RecordsInRange (s : State) : Prop where
  plan : PlanSound s.plan
  settings : SettingsSound s
  slots : ∀ i, (s.slots.read i).inRange
  clearing : ∀ z c, (s.zones.read z).clearing = some c → c.within 65535
  leases : ∀ r st, s.stations.read r = some st → st.lease.count ≤ 255
  queue : ∀ w ∈ s.engine.queue, w.inRange
  foreground : ∀ f, s.engine.foreground = some f → f.inRange
  background : ∀ b, s.engine.background = some b → b.context.inRange
  foreign : ∀ e ∈ s.sweep.foreign, e.inRange
  cursor : s.sweep.cursor < 9120
  last : ∀ level index, s.sweep.last = some (level, index) → level ≤ 255 ∧ index < 9120

/-! ## The counted-carrier set (R29, R51, R53) -/

/-- An element of the counted-carrier set, less those of a slot left out: the frequency of a counted slot or its pending
index, with the slot's zone and profile. -/
def isCarrier (s : State) (leftOut : Option (Fin 384)) (c : Carrier) : Prop :=
  some c.slot ≠ leftOut ∧
    match s.slots.read c.slot with
    | .free => False
    | .owned o =>
      c.zone = o.zone ∧ c.profile = o.profile ∧
        (if c.isPending then ∃ w, o.move = some w ∧ c.index = w.pending else c.index = o.frequency)
    | .pinned p => c.zone = p.zone ∧ c.profile = p.profile ∧ c.isPending = false ∧ c.index = p.frequency
    | .spare r => c.zone = r.zone ∧ c.profile = r.profile ∧ c.isPending = false ∧ c.index = r.frequency

/-- Carrier order: ascending slot number, and in one slot the frequency before the pending index. -/
def carrierBefore (a b : Carrier) : Prop :=
  a.slot < b.slot ∨ (a.slot = b.slot ∧ a.isPending = false ∧ b.isPending = true)

/-! ## Searches rest on passing evaluations (R73, R75) -/

/-- The candidate that the next completion of a search will record, if it is free to: found or re-tested with no advance
of the epoch since. -/
def SearchContext.ready? (c : SearchContext) : Option Nat :=
  if c.moved then none
  else
    match c.stage with
    | .walking => none
    | .found f => some f
    | .retestDue _ => none
    | .retested f => some f

/-- The MOVE work that is queued or in the foreground. -/
def openMoveWork (e : Engine) (w : MoveWork) : Prop := .move w ∈ e.queue ∨ ∃ c, e.foreground = some (.move w c)

/-- The search contexts that hold an e0. -/
def holdsContext (e : Engine) (c : SearchContext) : Prop :=
  (∃ w, e.foreground = some (.request w c)) ∨ (∃ w, e.foreground = some (.move w c)) ∨
    (∃ w, e.foreground = some (.pin w c)) ∨ ∃ z, e.background = some { zone := z, context := c }

/-- With the plan, the owners and the spare lists as they should be: an epoch that has not moved is the one recorded, the
profile and zone of MOVE work are its slot's, and every candidate that a completion is free to record passes T1 to T6
against the tables as they stand. -/
structure PassingSound (s : State) : Prop where
  plan : PlanSound s.plan
  owners : OwnersSound s
  spares : SparesSound s
  marks : ∀ c, holdsContext s.engine c → c.moved = false → c.e0 = s.epoch
  moving : ∀ w o, openMoveWork s.engine w → s.slots.read w.slot = .owned o → o.station = w.station →
    o.channel = w.channel → o.profile = w.profile ∧ o.zone = w.zone
  request : ∀ w c f, s.engine.foreground = some (.request w c) → c.ready? = some f →
    evaluate s w.profile (stationZone s w.station) none f = none
  move : ∀ w c f, s.engine.foreground = some (.move w c) → c.ready? = some f → stillMoving s w = true →
    evaluate s w.profile w.zone (some w.slot) f = none
  refill : ∀ b f, s.engine.background = some b → b.context.ready? = some f →
    evaluate s (s.plan.zones.read b.zone).spareProfile b.zone none f = none
  pin : ∀ w c f, s.engine.foreground = some (.pin w c) → c.ready? = some f → evaluate s w.profile w.zone none w.index = none

/-! ## Refills start at once (R82) -/

/-- While the part is in RUN with both contexts and the queue empty and a slot FREE, every zone that wants a spare is
barred. -/
def RefillsStarted (s : State) : Prop :=
  s.console.mode = .run → s.engine.foreground = none → s.engine.background = none → s.engine.queue = [] →
    (∃ i, s.slots.read i = .free) → ∀ z, wantsSpare s z = true → s.engine.barred.read z = true

end Sys2Proof.Machine
end

