-- ==== Sys2Proof/WellFormed.lean ====
section
/-! DEFINITION. Which commands can be sent. The operand types hold the widths of R191 and the numbering of section 4.6
already; what is left to check is below, each check with the rule it comes from. -/

namespace Sys2Proof

/-- A label is announced by one length byte, so it has at most 255 bytes (R192). -/
def labelFits (label : List Byte) : Bool := label.length ≤ 255

/-- Whether a command can be sent as it stands. -/
def Instr.wellFormed (i : Instr) : Bool :=
  match i with
  | .writeProfile _ state _ _ _ _ _ _ => state ≠ 0        -- state 0 is the other row's request (R8)
  | .pin _ _ _ checkFlag label => checkFlag ≠ 1 && labelFits label   -- check 1 is the other row's request (R72)
  | .checkedPin _ _ _ label => labelFits label
  | .unknownRequestCode code => decodeFrame [code] == .unknownRequestCode code                  -- R173
  | .chipSelectReleasedEarly received => decodeFrame received == .chipSelectReleasedEarly received  -- R174
  | .conversionComplete _ refLow refHigh => refLow < refHigh      -- section 10.6: V_REFL < V_REFH
  | .hardwareReset => true
  | .writeProfileUndefined _ _ _ _ _ _ _ => true
  | .readProfile _ => true
  | .writeZone _ _ _ _ _ _ => true
  | .readZone _ => true
  | .writeCoupling _ _ _ => true
  | .readCoupling _ _ => true
  | .addExclusion _ _ => true
  | .removeExclusion _ _ => true
  | .listExclusions => true
  | .writeGuards _ _ => true
  | .readGuards => true
  | .writeTimeBase _ => true
  | .writeLease _ => true
  | .writeHold _ => true
  | .writeMoveTime _ => true
  | .writeDefer _ _ => true
  | .readTiming => true
  | .writeStation _ _ _ _ _ _ => true
  | .removeStation _ => true
  | .readStation _ => true
  | .writeBranch _ _ _ _ _ _ => true
  | .readBranch _ => true
  | .branchEnable _ => true
  | .branchDisable _ => true
  | .retire _ => true
  | .readEntry _ => true
  | .readEntries _ _ => true
  | .readCounts => true
  | .changeover _ _ => true
  | .check _ _ _ => true
  | .audit => true
  | .readResult => true
  | .writeSweep _ _ _ _ _ _ _ _ _ _ _ _ => true
  | .readSweep => true
  | .sweepStart => true
  | .sweepStop => true
  | .readForeign => true
  | .dropForeign _ => true
  | .start => true
  | .stop => true
  | .clear => true
  | .readAttention => true
  | .writeMask _ => true
  | .tick => true
  | .leaseCounterDecrement _ => true
  | .lapse _ => true
  | .holdCounterDecrement _ => true
  | .holdExpiry _ => true
  | .moveCounterDecrement _ => true
  | .moveLapse _ => true
  | .clearTimerDecrement _ => true
  | .clearTimerExpiry _ => true
  | .poll _ => true
  | .turnoffDelayEnd _ => true
  | .replyAccepted _ _ => true
  | .replyWindowExpired _ => true
  | .replyGapTimeout _ => true
  | .replyFailed _ _ => true
  | .quietWaitEnd _ => true
  | .strayCharacter _ _ => true
  | .roundGapEnd _ => true
  | .branchFault _ => true
  | .branchFaultRecovery _ => true
  | .validReplyNotice _ => true
  | .engineTake => true
  | .candidateEvaluation => true
  | .searchCompletion => true
  | .reTest => true
  | .checkedPinCompletion => true
  | .auditVisit => true
  | .tuneLatch => true
  | .settleEnd => true
  | .passGapEnd => true
  | .replyCharacterReceived _ _ => true
  | .lineTransition _ _ => true

end Sys2Proof
end

