-- ==== Sys2Proof/Certificates/Slice0/Obligations.lean ====
section
/-! DEFINITION. The statements for the provers, in the order of the manual's chapters; the last two sections hold what every
step keeps and what the kept facts give. -/

open Sys2Proof Sys2Proof.Machine

/-! ## The step and the reset -/

/-- One step takes the command at the front of the queue and is exec of it with the rest of the queue waiting; with an empty
queue the block idles (log entry 1: the idling is the model's choice). -/
def Obligations.StepRunsTheFrontCommand : Prop :=
  (∀ (c : Instr) (rest : List Instr) (s : State), s.pending = c :: rest → step s = exec c { s with pending := rest }) ∧
    ∀ s : State, s.pending = [] → step s = .next s

/-- Every command completes in every state, and leaves the queue of waiting commands alone. The manual says only that each step
is taken whole: that an event which is not due answers the state unchanged, that a hardware reset keeps the queue, and that a
command for an unknown request code answers even where its code names a request are the model's choices (log entries 2, 6
and 21). -/
def Obligations.EveryCommandCompletes : Prop :=
  ∀ (c : Instr) (s : State), ∃ t, exec c s = .next t ∧ t.pending = s.pending

/-- HARDWARE_RESET gives the state after reset, and that state holds the values that the manual states, item by item (R5, R9,
R12, R18, R43, R93, R115, R126, R134, R135, R155, R156, R158, R165, R186). What is not the part's own stays: the levels of
the receive lines, the word in the scanning receiver, the queue of commands and the model's count of free values (log
entry 6). -/
def Obligations.HardwareResetRestoresTheResetState : Prop :=
  (∀ s : State, exec .hardwareReset s = .next
    { State.reset with
      branches := s.branches.each fun br => { Branch.reset with line := br.line }
      sweep := { Sweep.reset with latched := s.sweep.latched }
      freeUsed := s.freeUsed
      pending := s.pending }) ∧
  let s := State.reset
  (∀ p, s.plan.profiles.read p = { defined := false, low := 0, high := 9119, step := 1, c := 1, p3 := 0, p5 := 0 }) ∧
    (∀ z, s.plan.zones.read z = { zlo := 0, zhi := 9119, depth := 0, spareProfile := 0, clearTime := 120 }) ∧
    (∀ a b, (s.plan.coupling.read a).read b = if a = b then Coupling.shared else Coupling.isolated) ∧
    s.plan.exclusions = [] ∧ s.plan.g = 4 ∧ s.plan.fg = 8 ∧
    (∀ i, s.slots.read i = .free) ∧ s.epoch = 0 ∧
    s.timing = { period := .s1, lease := 30, hold := 0, moveTime := 60 } ∧
    (∀ b, (s.branches.read b).rate = .b115200 ∧ (s.branches.read b).turnoff = .bits1 ∧
      (s.branches.read b).window = 4 ∧ (s.branches.read b).gap = 10 ∧ (s.branches.read b).debounce = 20 ∧
      (s.branches.read b).state = .disabled ∧ (s.branches.read b).roundCount = 0 ∧ (s.branches.read b).txen = false) ∧
    (∀ r, s.stations.read r = none) ∧
    (∀ z, s.zones.read z = { clearing := none, spares := [] }) ∧
    s.sweep.activity = none ∧ s.sweep.cursor = 0 ∧ s.sweep.last = none ∧ s.sweep.foreign = [] ∧
    s.sweep.config =
      { lo := 0, hi := 9119, step := 4, settle := 20, threshold := 64, hysteresis := 6, k := 2, m := 3, e := 2, gap := 50,
        offset := 0, scale := 1 } ∧
    s.engine.queue = [] ∧ s.engine.foreground = none ∧ s.engine.background = none ∧
    (∀ z, s.engine.barred.read z = false) ∧ s.engine.upper = 18 ∧ s.engine.lower = 10 ∧ s.engine.defer = false ∧
    s.console.mode = .config ∧ s.console.openRequest = false ∧ s.console.result = { number := 0, entry := none } ∧
    s.console.flags = 0 ∧ s.console.mask = 0xFF ∧ attnLow s = false

/-- The state after reset meets every invariant stated below. -/
def Obligations.ResetStateIsSound : Prop :=
  let s := State.reset
  Limits s ∧ SettingsSound s ∧ AnswersSound s ∧ ClearingSound s ∧ SuspectSound s ∧ LeaseSound s ∧ RecordsInRange s ∧
    PassingSound s ∧ RefillsStarted s ∧ ModeSound s

/-! ## The bytes of a request (R172, R174, R187, R191, R192) -/

/-- Reading the bytes of a command that can be sent gives that command back, whatever bytes the host clocks in after its
parameters; and a frame released before the last parameter byte asks for nothing. -/
def Obligations.RequestBytesRoundTrip : Prop :=
  (∀ (c : Instr) (bytes : List Byte), c.wellFormed = true → encodeFrame c = some bytes → decodeFrame bytes = c) ∧
    ∀ (c : Instr) (bytes : List Byte), c.wellFormed = true → encodeFrame c = some bytes →
      (∀ received, c ≠ .chipSelectReleasedEarly received) →
      (∀ extra, decodeFrame (bytes ++ extra) = c) ∧
        ∀ first rest, bytes = first ++ rest → rest ≠ [] → decodeFrame first = .chipSelectReleasedEarly first

/-! ## Reads (R5, R8, R11, R12, R17, R18, R41, R62, R134, R145, R155, R167, R175, R180 to R182, R188, R191, R193) -/

/-- The plan's reads return the stored items in R191's layout and change nothing but the response; a number out of range
is refused RANGE. -/
def Obligations.PlanReadsReturnTheStoredItems : Prop :=
  (∀ (profile : Byte) (s : State), exec (.readProfile profile) s = .next
      (if h : profile.toNat < 16 then
        let r := s.plan.profiles.read ⟨profile.toNat, h⟩
        respond .ok
          ([if r.defined then 1 else 0] ++ splitWord (BitVec.ofNat 16 r.low) ++ splitWord (BitVec.ofNat 16 r.high) ++
            [BitVec.ofNat 8 r.step, BitVec.ofNat 8 r.c, BitVec.ofNat 8 r.p3, BitVec.ofNat 8 r.p5]) s
      else respond .range [] s)) ∧
    (∀ (zone : Byte) (s : State), exec (.readZone zone) s = .next
      (if h : zone.toNat < 16 then
        let p := s.plan.zones.read ⟨zone.toNat, h⟩
        let z := s.zones.read ⟨zone.toNat, h⟩
        let spare := fun k : Nat => splitWord (BitVec.ofNat 16 ((z.spares[k]?.map Fin.val).getD 65535))
        respond .ok
          (splitWord (BitVec.ofNat 16 p.zlo) ++ splitWord (BitVec.ofNat 16 p.zhi) ++
            [BitVec.ofNat 8 p.depth, BitVec.ofNat 8 p.spareProfile.val] ++ splitWord (BitVec.ofNat 16 p.clearTime) ++
            [if z.clearing.isSome then 1 else 0] ++
            splitWord (BitVec.ofNat 16 ((z.clearing.map TickCounter.count).getD 0)) ++
            [BitVec.ofNat 8 z.spares.length] ++ spare 0 ++ spare 1 ++ spare 2 ++ spare 3) s
      else respond .range [] s)) ∧
    (∀ (a b : Byte) (s : State), exec (.readCoupling a b) s = .next
      (if h : a.toNat < 16 ∧ b.toNat < 16 then
        respond .ok
          [match (s.plan.coupling.read ⟨a.toNat, h.1⟩).read ⟨b.toNat, h.2⟩ with
            | .isolated => 0
            | .near => 1
            | .shared => 2] s
      else respond .range [] s)) ∧
    (∀ s : State, exec .listExclusions s = .next
      (respond .ok
        (BitVec.ofNat 8 s.plan.exclusions.length ::
          s.plan.exclusions.flatMap fun b => splitWord (BitVec.ofNat 16 b.lo) ++ splitWord (BitVec.ofNat 16 b.hi)) s)) ∧
    ∀ s : State, exec .readGuards s = .next (respond .ok [BitVec.ofNat 8 s.plan.g, BitVec.ofNat 8 s.plan.fg] s)

/-- Four reads of settings and figures, in R191's and R193's layouts, each leaving everything but the response: READ STATION, READ
BRANCH, READ TIMING, and READ COUNTS with its five slot counts. -/
def Obligations.StationBranchAndFigureReads : Prop :=
  (∀ (record : Byte) (s : State), exec (.readStation record) s = .next
      (if h : record.toNat < 48 then
        respond .ok
          (match s.stations.read ⟨record.toNat, h⟩ with
            | none => List.replicate 15 0
            | some st =>
              [1, BitVec.ofNat 8 st.branch.val, BitVec.ofNat 8 st.address, BitVec.ofNat 8 st.zone.val,
                BitVec.ofNat 8 st.ceiling, if st.authority then 1 else 0,
                (match st.link with | .unknown => 0 | .present => 1 | .silent => 2), BitVec.ofNat 8 st.failures,
                (match st.leaseState with | .current => 0 | .lapsed => 1), BitVec.ofNat 8 st.lease.count,
                BitVec.ofNat 8 st.held, if st.openRequest then 1 else 0, BitVec.ofNat 8 st.answers.length,
                BitVec.ofNat 8 st.notices.length, if st.resync then 1 else 0]) s
      else respond .range [] s)) ∧
    (∀ (branch : Byte) (s : State), exec (.readBranch branch) s = .next
      (if h : branch.toNat < 4 then
        let br := s.branches.read ⟨branch.toNat, h⟩
        respond .ok
          [match br.rate with | .b38400 => 0 | .b115200 => 1 | .b230400 => 2 | .b460800 => 3,
            match br.turnoff with | .bits0 => 0 | .bits1 => 1 | .bits2 => 2 | .bits4 => 3,
            BitVec.ofNat 8 br.window, BitVec.ofNat 8 br.gap, BitVec.ofNat 8 br.debounce,
            match br.state with | .disabled => 0 | .running => 1 | .faulted => 2, br.roundCount] s
      else respond .range [] s)) ∧
    (∀ s : State, exec .readTiming s = .next
      (respond .ok
        ([match s.timing.period with | .ms250 => 0 | .ms500 => 1 | .s1 => 2 | .s2 => 3,
          BitVec.ofNat 8 s.timing.lease] ++ splitWord (BitVec.ofNat 16 s.timing.hold) ++
          [BitVec.ofNat 8 s.timing.moveTime, BitVec.ofNat 8 s.engine.upper, BitVec.ofNat 8 s.engine.lower]) s)) ∧
    ∀ s : State, exec .readCounts s = .next
      (respond .ok
        ([match s.console.mode with | .config => 0 | .run => 1, BitVec.ofNat 8 s.engine.queue.length,
          if s.engine.defer then 1 else 0, if s.console.openRequest then 1 else 0] ++ splitWord s.epoch ++
          splitWord (BitVec.ofNat 16 (s.slots.countWith fun x => decide (x = .free))) ++
          splitWord (BitVec.ofNat 16 (s.slots.countWith fun x => x.isActive)) ++
          splitWord (BitVec.ofNat 16 (s.slots.countWith fun x => x.isStale)) ++
          splitWord (BitVec.ofNat 16 (s.slots.countWith fun x => x.isPinned)) ++
          splitWord (BitVec.ofNat 16 (s.slots.countWith fun x => x.isSpare)) ++
          splitWord (BitVec.ofNat 16 (s.stations.toList.map fun x => (x.map Station.held).getD 0).sum)) s)

/-- The slot reads: the record of one slot, or of up to sixteen slots together, in R193's layout (29 bytes, or the one byte
0 of a FREE slot). -/
def Obligations.SlotReadsGiveTheRecords : Prop :=
  let word := fun n : Nat => splitWord (BitVec.ofNat 16 n)
  let label := fun l : List Byte => BitVec.ofNat 8 l.length :: (l ++ List.replicate (12 - l.length) 0)
  let record : Slot → List Byte := fun x =>
    match x with
    | .free => [0]
    | .owned o =>
      [match o.state with | .active => (1 : Byte) | .stale _ => 2] ++ word o.frequency ++
        word ((o.move.map MoveWindow.pending).getD 65535) ++
        [BitVec.ofNat 8 ((o.move.map fun w => w.counter.count).getD 0), BitVec.ofNat 8 o.profile.val,
          BitVec.ofNat 8 o.zone.val, BitVec.ofNat 8 o.station.val, BitVec.ofNat 8 o.channel.val,
          match o.phase with | .live => 1 | .next => 2 | .ending => 3] ++
        label o.label ++ word (o.suspect.getD 65535) ++ [if o.conflict then (1 : Byte) else 0] ++
        word (match o.state with | .stale (some h) => h.count | .stale none => 0 | .active => 0)
    | .pinned p =>
      [(3 : Byte)] ++ word p.frequency ++ word 65535 ++ [0, BitVec.ofNat 8 p.profile.val, BitVec.ofNat 8 p.zone.val, 255, 255, 0] ++
        label p.label ++ word (p.suspect.getD 65535) ++ [if p.conflict then (1 : Byte) else 0] ++ word 0
    | .spare r =>
      [(4 : Byte)] ++ word r.frequency ++ word 65535 ++ [0, BitVec.ofNat 8 r.profile.val, BitVec.ofNat 8 r.zone.val, 255, 255, 0] ++
        label [] ++ word 65535 ++ [if r.conflict then (1 : Byte) else 0] ++ word 0
  (∀ (slot : Word) (s : State), exec (.readEntry slot) s = .next
      (if h : slot.toNat < 384 then respond .ok (record (s.slots.read ⟨slot.toNat, h⟩)) s else respond .range [] s)) ∧
    ∀ (start : Word) (n : Byte) (s : State), exec (.readEntries start n) s = .next
      (if start.toNat < 384 ∧ 1 ≤ n.toNat ∧ n.toNat ≤ 16 then
        let count := min n.toNat (384 - start.toNat)
        respond .ok (BitVec.ofNat 8 count :: ((s.slots.toList.drop start.toNat).take count).flatMap record) s
      else respond .range [] s)

/-- READ SWEEP, READ FOREIGN and READ RESULT. Where the manual states no value (the last level before any result, the
count field of an outcome other than COUNT) the bytes are free, Config.freeValue of the count of free values shown, and
that count moves on (log entry 15). -/
def Obligations.SweepForeignAndResultReads : Prop :=
  let word := fun n : Nat => splitWord (BitVec.ofNat 16 n)
  let shown := fun s : State => { s with freeUsed := s.freeUsed + 1 }
  (∀ s : State, exec .readSweep s = .next
      (respond .ok
        ((match s.sweep.activity with
            | none => [0, 0]
            | some (.tuning _) => [1, 1]
            | some .settling => [1, 2]
            | some .converting => [1, 3]
            | some .gap => [1, 4]) ++
          word s.sweep.cursor ++
          (match s.sweep.last with
            | some (level, index) => BitVec.ofNat 8 level :: word index
            | none => (Config.freeValue s.freeUsed).extractLsb' 0 8 :: word 65535) ++
          word s.sweep.config.lo ++ word s.sweep.config.hi ++
          [BitVec.ofNat 8 s.sweep.config.step, BitVec.ofNat 8 s.sweep.config.settle,
            BitVec.ofNat 8 s.sweep.config.threshold, BitVec.ofNat 8 s.sweep.config.hysteresis,
            BitVec.ofNat 8 s.sweep.config.k, BitVec.ofNat 8 s.sweep.config.m, BitVec.ofNat 8 s.sweep.config.e,
            BitVec.ofNat 8 s.sweep.config.gap] ++
          splitWord24 (BitVec.ofNat 24 s.sweep.config.offset) ++ [BitVec.ofNat 8 s.sweep.config.scale]) (shown s))) ∧
    (∀ s : State, exec .readForeign s = .next
      (respond .ok
        (BitVec.ofNat 8 s.sweep.foreign.length ::
          s.sweep.foreign.flatMap fun e =>
            word e.index ++
              [if e.confirmed then 2 else 1, BitVec.ofNat 8 e.peak, BitVec.ofNat 8 e.hits, BitVec.ofNat 8 e.misses]) s)) ∧
    ∀ s : State, exec .readResult s = .next
      (respond .ok
        ([s.console.result.number] ++
          (match s.console.result.entry with
            | none => [0, 0, 0] ++ word 65535 ++ word 65535 ++ word 65535 ++ splitWord (Config.freeValue s.freeUsed)
            | some (kind, outcome) =>
              [match kind with | .check => 1 | .pin => 2 | .audit => 3] ++
                (match outcome with
                  | .pass => [1, 0] ++ word 65535 ++ word 65535 ++ word 65535 ++ splitWord (Config.freeValue s.freeUsed)
                  | .fail f =>
                    [2] ++
                      (match f with
                        | .t1 => [1] ++ word 65535 ++ word 65535
                        | .t2 band => [2] ++ word band ++ word 65535
                        | .t3 index => [3] ++ word index ++ word 65535
                        | .t4 slot => [4] ++ word slot.val ++ word 65535
                        | .t5 a b => [5] ++ word a.val ++ word b.val
                        | .t6 e v => [6] ++ word e.val ++ word v.val) ++
                      word 65535 ++ splitWord (Config.freeValue s.freeUsed)
                  | .pinned slot =>
                    [3, 0] ++ word 65535 ++ word 65535 ++ word slot.val ++ splitWord (Config.freeValue s.freeUsed)
                  | .full => [4, 0] ++ word 65535 ++ word 65535 ++ word 65535 ++ splitWord (Config.freeValue s.freeUsed)
                  | .retry => [5, 0] ++ word 65535 ++ word 65535 ++ word 65535 ++ splitWord (Config.freeValue s.freeUsed)
                  | .count n => [6, 0] ++ word 65535 ++ word 65535 ++ word 65535 ++ word n
                  | .abandoned =>
                    [7, 0] ++ word 65535 ++ word 65535 ++ word 65535 ++ splitWord (Config.freeValue s.freeUsed))) ++
          [if s.console.openRequest then 1 else 0]) (shown s))

/-! ## Plan writes (R2 to R16, R18, R30, R87, R131, R132) -/

/-- WRITE PROFILE: the checks in order, the record stored with its values clamped, no advance of the epoch, nothing but the
plan, the barred set and a refill's start changed; with state UNDEFINED the stored fields stay.
Log entries 11 and 21 are the model's own reading here. -/
def Obligations.ProfileWritesCheckAndClamp : Prop :=
  let inUse := fun (s : State) (p : Fin 16) =>
    s.slots.toList.any (fun x => x.profile? == some p) ||
      s.engine.queue.any (fun w => match w with
        | .request r => r.profile == p
        | .check k => k.profile == p
        | .pin k => k.profile == p
        | .move _ => false
        | .audit => false) ||
      s.engine.foreground.any (fun f => match f with
        | .request r _ => r.profile == p
        | .pin k _ => k.profile == p
        | .move _ _ => false
        | .audit _ _ => false) ||
      s.plan.zones.toList.any (fun z => decide (0 < z.depth) && z.spareProfile == p)
  let store := fun (s : State) (p : Fin 16) (r : Profile) =>
    respond .ok []
      (startRefill
        { s with
          plan := { s.plan with profiles := s.plan.profiles.write p r }
          engine := { s.engine with barred := Table.filled 16 false } })
  let undefine := fun (profile : Byte) (s : State) =>
    if h : profile.toNat < 16 then
      if inUse s ⟨profile.toNat, h⟩ then respond .inUse [] s
      else store s ⟨profile.toNat, h⟩ { s.plan.profiles.read ⟨profile.toNat, h⟩ with defined := false }
    else respond .range [] s
  (∀ (profile state : Byte) (low high : Word) (step c p3 p5 : Byte) (s : State),
    exec (.writeProfile profile state low high step c p3 p5) s = .next
      (if state = 1 then
        if h : profile.toNat < 16 then
          if low.toNat ≤ high.toNat ∧ high.toNat < 9120 ∧ step.toNat ∈ [1, 2, 4, 8] then
            if inUse s ⟨profile.toNat, h⟩ then respond .inUse [] s
            else
              store s ⟨profile.toNat, h⟩
                { defined := true, low := low.toNat, high := high.toNat, step := step.toNat,
                  c := if c = 0 then 1 else min c.toNat 40, p3 := min p3.toNat 20, p5 := min p5.toNat 10 }
          else respond .range [] s
        else respond .range [] s
      else if state = 0 then undefine profile s
      else respond .range [] s)) ∧
    ∀ (profile : Byte) (low high : Word) (step c p3 p5 : Byte) (s : State),
      exec (.writeProfileUndefined profile low high step c p3 p5) s = .next (undefine profile s)

/-- WRITE ZONE: the checks in order, the four settings stored together, the epoch advanced and the contexts marked exactly
when the window is narrowed. A changed spare profile retires every spare of the zone, head to tail, a depth below the
list's length the spares beyond it, newest first; either change discards the zone's refill.
Log entry 11 is the model's own reading here. -/
def Obligations.ZoneWritesCheckAndHandOn : Prop :=
  ∀ (zone : Byte) (zlo zhi : Word) (depth spareProfile : Byte) (clearTime : Word) (s : State),
    exec (.writeZone zone zlo zhi depth spareProfile clearTime) s = .next
      (if h : zone.toNat < 16 ∧ spareProfile.toNat < 16 then
        let z : Fin 16 := ⟨zone.toNat, h.1⟩
        let p : Fin 16 := ⟨spareProfile.toNat, h.2⟩
        if zlo.toNat ≤ zhi.toNat ∧ zhi.toNat < 9120 ∧ depth.toNat ≤ 4 ∧
            (depth.toNat = 0 ∨ (s.plan.profiles.read p).defined = true) then
          let old := s.plan.zones.read z
          let new : ZonePlan :=
            { zlo := zlo.toNat, zhi := zhi.toNat, depth := depth.toNat, spareProfile := p, clearTime := clearTime.toNat }
          let written : State :=
            { s with
              plan := { s.plan with zones := s.plan.zones.write z new }
              engine := { s.engine with barred := Table.filled 16 false } }
          let stored := if old.zlo < new.zlo ∨ new.zhi < old.zhi then advanceEpoch written else written
          let spares := (s.zones.read z).spares
          let dropped :=
            if old.spareProfile = p ∧ old.depth = new.depth then stored
            else
              match s.engine.background with
              | some b => if b.zone = z then { stored with engine := { stored.engine with background := none } } else stored
              | none => stored
          respond .ok []
            (startRefill
              (if old.spareProfile ≠ p then spares.foldl (fun t i => retireSlot none i t) dropped
              else if old.depth ≠ new.depth then
                (spares.drop new.depth).reverse.foldl (fun t i => retireSlot none i t) dropped
              else dropped))
        else respond .range [] s
      else respond .range [] s)

/-- WRITE COUPLING and WRITE GUARDS: the checks, both halves of a coupling set at once, and the epoch advanced exactly when a
value is raised.
Log entry 11 is the model's own reading here. -/
def Obligations.CouplingAndGuardWrites : Prop :=
  let rank := fun v : Coupling => match v with | .isolated => 0 | .near => 1 | .shared => 2
  let stored := fun (s : State) (plan : Plan) (raised : Prop) [Decidable raised] =>
    let written : State := { s with plan := plan, engine := { s.engine with barred := Table.filled 16 false } }
    respond .ok [] (startRefill (if raised then advanceEpoch written else written))
  (∀ (a b value : Byte) (s : State), ∃ t, exec (.writeCoupling a b value) s = .next t ∧
    if h : a.toNat < 16 ∧ b.toNat < 16 ∧ a ≠ b ∧ value.toNat < 3 then
      let x : Fin 16 := ⟨a.toNat, h.1⟩
      let y : Fin 16 := ⟨b.toNat, h.2.1⟩
      ∃ (v : Coupling) (m : Table (Table Coupling 16) 16), rank v = value.toNat ∧
        (∀ i j, (m.read i).read j =
          if (i = x ∧ j = y) ∨ (i = y ∧ j = x) then v else (s.plan.coupling.read i).read j) ∧
        t = stored s { s.plan with coupling := m } (rank ((s.plan.coupling.read x).read y) < rank v)
    else t = respond .range [] s) ∧
    ∀ (g fg : Byte) (s : State), exec (.writeGuards g fg) s = .next
      (if g.toNat ≤ 40 ∧ fg.toNat ≤ 40 then
        stored s { s.plan with g := g.toNat, fg := fg.toNat } (s.plan.g < g.toNat ∨ s.plan.fg < fg.toNat)
      else respond .range [] s)

/-- ADD EXCLUSION and REMOVE EXCLUSION. An added band joins the others, and the new list, in the order of lo and then hi, holds it
and every band there was; the epoch advances. A removed band leaves the rest in their order; the epoch does not
advance.
Log entry 11 is the model's own reading here. -/
def Obligations.ExclusionBandsJoinAndLeave : Prop :=
  let before := fun x y : Band => x.lo < y.lo ∨ (x.lo = y.lo ∧ x.hi < y.hi)
  let written := fun (s : State) (bands : List Band) =>
    { s with
      plan := { s.plan with exclusions := bands }
      engine := { s.engine with barred := Table.filled 16 false } }
  (∀ (lo hi : Word) (s : State), ∃ t, exec (.addExclusion lo hi) s = .next t ∧
    if lo.toNat ≤ hi.toNat ∧ hi.toNat < 9120 then
      if { lo := lo.toNat, hi := hi.toNat } ∈ s.plan.exclusions then t = respond .duplicate [] s
      else if 32 ≤ s.plan.exclusions.length then t = respond .full [] s
      else
        ∃ bands : List Band, (s.plan.exclusions.Pairwise before → bands.Pairwise before) ∧
          bands.Perm ({ lo := lo.toNat, hi := hi.toNat } :: s.plan.exclusions) ∧
          t = respond .ok [] (startRefill (advanceEpoch (written s bands)))
    else t = respond .range [] s) ∧
    ∀ (lo hi : Word) (s : State), exec (.removeExclusion lo hi) s = .next
      (if lo.toNat ≤ hi.toNat ∧ hi.toNat < 9120 then
        if { lo := lo.toNat, hi := hi.toNat } ∈ s.plan.exclusions then
          respond .ok [] (startRefill (written s (s.plan.exclusions.erase { lo := lo.toNat, hi := hi.toNat })))
        else respond .unknown [] s
      else respond .range [] s)

/-! ## Records: PIN, RETIRE and what every event keeps of a record (R20, R21, R28, R33 to R37) -/

/-- An unchecked PIN: the checks in order, then the lowest FREE slot PINNED with the suspect source that R34 gives it, the
epoch advanced and every context's moved mark set; the response carries the slot and the source. PIN with a check flag
above 1 is refused RANGE (R192); that this comes before FULL is the model's choice (log entry 33). -/
def Obligations.PinRecordsInTheLowestFreeSlot : Prop :=
  ∀ (index : Word) (profile zone checkFlag : Byte) (label : List Byte) (s : State), checkFlag ≠ 1 →
    ∃ t, exec (.pin index profile zone checkFlag label) s = .next t ∧
      if h : checkFlag = 0 ∧ index.toNat < 9120 ∧ profile.toNat < 16 ∧ zone.toNat < 16 ∧ label.length ≤ 12 ∧
          ∀ c ∈ label, 32 ≤ c.toNat ∧ c.toNat ≤ 126 then
        if (s.plan.profiles.read ⟨profile.toNat, h.2.2.1⟩).defined = true then
          ((∀ i, s.slots.read i ≠ .free) → t = respond .full [] s) ∧
            ∀ i, s.slots.read i = .free → (∀ j < i, s.slots.read j ≠ .free) →
              ∃ source : Option Nat,
                (match source with
                  | none => ∀ e ∈ s.sweep.foreign, e.confirmed = true → s.plan.fg ≤ distance index.toNat e.index
                  | some x => distance index.toNat x < s.plan.fg ∧
                    (∃ e ∈ s.sweep.foreign, e.confirmed = true ∧ e.index = x) ∧
                    ∀ e ∈ s.sweep.foreign, e.confirmed = true → distance index.toNat x ≤ distance index.toNat e.index ∧
                      (distance index.toNat e.index = distance index.toNat x → x ≤ e.index)) ∧
                t = respond .ok (splitWord (BitVec.ofNat 16 i.val) ++ splitWord (BitVec.ofNat 16 (source.getD 65535)))
                  (advanceEpoch
                    { s with
                      slots := s.slots.write i
                        (.pinned
                          { frequency := index.toNat, profile := ⟨profile.toNat, h.2.2.1⟩,
                            zone := ⟨zone.toNat, h.2.2.2.1⟩, label := label, suspect := source, conflict := false }) })
        else t = respond .range [] s
      else t = respond .range [] s

/-- The retirement of a slot for a cause, and the request RETIRE. The slot becomes FREE, which empties the barred set. An owned
slot's owner holds one slot fewer, is given the cause's RETIRED notice if one is due, and loses the MOVE_ADVISED notices for
the channel; a zone left without an ENDING slot is STEADY. A spare leaves its zone's list. RETIRE returns the former
state, index and owner, refuses a FREE slot UNKNOWN, and a refill may start.
Log entries 10, 11, 18 and 32 are the model's own reading here. -/
def Obligations.RetirementFreesASlot : Prop :=
  (∀ (cause : Option RetireCause) (i : Fin 384) (s : State),
    retireSlot cause i s =
      (let freed : State :=
        { s with
          slots := s.slots.write i .free
          engine := { s.engine with barred := Table.filled 16 false } }
      match s.slots.read i with
      | .free => s
      | .pinned _ => freed
      | .spare r =>
        { freed with
          zones := s.zones.change r.zone fun z => { z with spares := z.spares.filter fun j => decide (j ≠ i) } }
      | .owned o =>
        let told : State :=
          { freed with
            stations := s.stations.change o.station (Option.map fun st =>
              let fewer : Station := { st with held := st.held - 1 }
              let noticed :=
                match cause with
                | none => fewer
                | some c => fewer.takeNotice (.retired o.channel c)
              { noticed with
                notices := noticed.notices.filter fun q =>
                  match q.notice with
                  | .moveAdvised c _ => decide (c ≠ o.channel)
                  | .moveLapsed _ => true
                  | .retired _ _ => true
                  | .phaseChanged _ => true }) }
        if o.phase = .ending ∧ (told.slots.toList.all fun x => !(x.endingIn o.zone)) = true then
          { told with zones := s.zones.change o.zone fun z => { z with clearing := none } }
        else told)) ∧
  ∀ (slot : Word) (s : State), exec (.retire slot) s = .next
    (if h : slot.toNat < 384 then
      let i : Fin 384 := ⟨slot.toNat, h⟩
      let word := fun n : Nat => splitWord (BitVec.ofNat 16 n)
      let retired := startRefill (retireSlot (some .operator) i s)
      match s.slots.read i with
      | .free => respond .unknown [] s
      | .pinned p => respond .ok ([3] ++ word p.frequency ++ [255, 255]) retired
      | .spare r => respond .ok ([4] ++ word r.frequency ++ [255, 255]) retired
      | .owned o =>
        respond .ok
          ([match o.state with | .active => (1 : Byte) | .stale _ => 2] ++ word o.frequency ++
            [BitVec.ofNat 8 o.station.val, BitVec.ofNat 8 o.channel.val]) retired
    else respond .range [] s)

/-- In one event a record is kept or retired, never made over: a slot that was not FREE is FREE afterwards or holds a record
of the same kind with the same profile, zone, label and owner; and a slot that was FREE and is not any more was the
lowest FREE one. -/
def Obligations.RecordsKeepProfileZoneOwnerAndLabel : Prop :=
  ∀ (c : Instr) (s t : State), exec c s = .next t → ∀ i,
    (match s.slots.read i with
      | .free => t.slots.read i = .free ∨ ∀ j < i, s.slots.read j ≠ .free
      | .owned o => t.slots.read i = .free ∨ ∃ n, t.slots.read i = .owned n ∧ n.profile = o.profile ∧ n.zone = o.zone ∧
          n.station = o.station ∧ n.channel = o.channel ∧ n.label = o.label
      | .pinned p => t.slots.read i = .free ∨ ∃ n, t.slots.read i = .pinned n ∧ n.frequency = p.frequency ∧
          n.profile = p.profile ∧ n.zone = p.zone ∧ n.label = p.label
      | .spare r => t.slots.read i = .free ∨ ∃ n, t.slots.read i = .spare n ∧ n.frequency = r.frequency ∧
          n.profile = r.profile ∧ n.zone = r.zone)

/-! ## The compatibility arithmetic (R44 to R61) -/

/-- An index passes exactly when it meets the six tests against the tables as they stand: it lies aligned in the effective
window, in no band with its guard, at least fg from every CONFIRMED carrier, at least the larger spacing from every
carrier coupled for spacing, at least the protections from every product of a SHARED triangle's pair, and leaves every
victim its protections. A distance that equals the required one passes; a protection of 0 is met by every distance. -/
def Obligations.EvaluationPassesExactly : Prop :=
  ∀ (s : State) (p z : Fin 16) (leftOut : Option (Fin 384)) (f : Nat),
    let pr := s.plan.profiles.read p
    let zn := s.plan.zones.read z
    let profile := fun c : Carrier => s.plan.profiles.read c.profile
    let coupling := fun a b : Fin 16 => (s.plan.coupling.read a).read b
    let apart := fun (limit : Nat) (a b : Int) => limit ≤ (a - b).natAbs
    let pair := fun a b : Carrier =>
      isCarrier s leftOut a ∧ isCarrier s leftOut b ∧ a.slot ≠ b.slot ∧ coupling a.zone b.zone = .shared ∧
        coupling a.zone z = .shared ∧ coupling b.zone z = .shared
    evaluate s p z leftOut f = none ↔
      (pr.low ≤ f ∧ zn.zlo ≤ f ∧ f ≤ pr.high ∧ f ≤ zn.zhi ∧ pr.step ∣ f - pr.low) ∧
      (∀ b ∈ s.plan.exclusions, ¬((b.lo : Int) - s.plan.g ≤ f ∧ (f : Int) ≤ b.hi + s.plan.g)) ∧
      (∀ e ∈ s.sweep.foreign, e.confirmed = true → apart s.plan.fg f e.index) ∧
      (∀ c, isCarrier s leftOut c → coupling c.zone z ≠ .isolated → apart (max pr.c (profile c).c) f c.index) ∧
      (∀ a b, pair a b → apart pr.p3 f (2 * (a.index : Int) - b.index) ∧
        apart pr.p5 f (3 * (a.index : Int) - 2 * b.index)) ∧
      ∀ e v, pair e v →
        apart (profile v).p3 v.index (2 * (f : Int) - e.index) ∧ apart (profile v).p3 v.index (2 * (e.index : Int) - f) ∧
        apart (profile v).p5 v.index (3 * (f : Int) - 2 * e.index) ∧
        apart (profile v).p5 v.index (3 * (e.index : Int) - 2 * f)

/-- An index that fails is answered with the first test that it fails and, within the test, the evidence of the first item in
the test's order: the number of the first band, the first CONFIRMED index, the slot of the first carrier, and the
slots of the first ordered pair of carriers, in carrier order. -/
def Obligations.EvaluationNamesTheFirstFailure : Prop :=
  ∀ (s : State) (p z : Fin 16) (leftOut : Option (Fin 384)) (f : Nat),
    let pr := s.plan.profiles.read p
    let zn := s.plan.zones.read z
    let profile := fun c : Carrier => s.plan.profiles.read c.profile
    let coupling := fun a b : Fin 16 => (s.plan.coupling.read a).read b
    let near := fun (limit : Nat) (a b : Int) => (a - b).natAbs < limit
    let pair := fun a b : Carrier =>
      isCarrier s leftOut a ∧ isCarrier s leftOut b ∧ a.slot ≠ b.slot ∧ coupling a.zone b.zone = .shared ∧
        coupling a.zone z = .shared ∧ coupling b.zone z = .shared
    let window := pr.low ≤ f ∧ zn.zlo ≤ f ∧ f ≤ pr.high ∧ f ≤ zn.zhi ∧ pr.step ∣ f - pr.low
    let held := fun b : Band => (b.lo : Int) - s.plan.g ≤ f ∧ (f : Int) ≤ b.hi + s.plan.g
    let foreignNear := fun e : ForeignEntry => e.confirmed = true ∧ near s.plan.fg f e.index
    let tooClose := fun c : Carrier =>
      isCarrier s leftOut c ∧ coupling c.zone z ≠ .isolated ∧ near (max pr.c (profile c).c) f c.index
    let onto := fun a b : Carrier => pair a b ∧
      (near pr.p3 f (2 * (a.index : Int) - b.index) ∨ near pr.p5 f (3 * (a.index : Int) - 2 * b.index))
    let harmed := fun e v : Carrier => pair e v ∧
      (near (profile v).p3 v.index (2 * (f : Int) - e.index) ∨ near (profile v).p3 v.index (2 * (e.index : Int) - f) ∨
        near (profile v).p5 v.index (3 * (f : Int) - 2 * e.index) ∨
        near (profile v).p5 v.index (3 * (e.index : Int) - 2 * f))
    let firstPair := fun (bad : Carrier → Carrier → Prop) (i j : Fin 384) =>
      ∃ a b, bad a b ∧ a.slot = i ∧ b.slot = j ∧ (∀ c d, bad c d → ¬carrierBefore c a) ∧ ∀ d, bad a d → ¬carrierBefore d b
    match evaluate s p z leftOut f with
    | none => True
    | some .t1 => ¬window
    | some (.t2 n) => window ∧ ∃ front b back, s.plan.exclusions = front ++ b :: back ∧ n = front.length + 1 ∧ held b ∧
        ∀ x ∈ front, ¬held x
    | some (.t3 x) => window ∧ (∀ b ∈ s.plan.exclusions, ¬held b) ∧ ∃ front e back, s.sweep.foreign = front ++ e :: back ∧
        x = e.index ∧ foreignNear e ∧ ∀ d ∈ front, ¬foreignNear d
    | some (.t4 i) => window ∧ (∀ b ∈ s.plan.exclusions, ¬held b) ∧ (∀ e ∈ s.sweep.foreign, ¬foreignNear e) ∧
        ∃ c, tooClose c ∧ c.slot = i ∧ ∀ d, tooClose d → ¬carrierBefore d c
    | some (.t5 i j) => window ∧ (∀ b ∈ s.plan.exclusions, ¬held b) ∧ (∀ e ∈ s.sweep.foreign, ¬foreignNear e) ∧
        (∀ c, ¬tooClose c) ∧ firstPair onto i j
    | some (.t6 i j) => window ∧ (∀ b ∈ s.plan.exclusions, ¬held b) ∧ (∀ e ∈ s.sweep.foreign, ¬foreignNear e) ∧
        (∀ c, ¬tooClose c) ∧ (∀ a b, ¬onto a b) ∧ firstPair harmed i j

/-- The orders of a walk, for a profile and a zone in their ranges. Without a hint: the aligned indices of the effective window,
ascending. With a hint: the same indices, nearest to the snapped hint first and the lower of two at equal distance first,
the snapped hint being the aligned index nearest to the clamped hint, the lower on a tie. -/
def Obligations.WalkOrders : Prop :=
  ∀ (s : State) (p z : Fin 16), (s.plan.profiles.read p).inRange → (s.plan.zones.read z).inRange →
    let pr := s.plan.profiles.read p
    let zn := s.plan.zones.read z
    let aligned := (List.range 9120).filter fun f =>
      decide (pr.low ≤ f ∧ zn.zlo ≤ f ∧ f ≤ pr.high ∧ f ≤ zn.zhi ∧ (f - pr.low) % pr.step = 0)
    let order := fun w : Walk => (List.range w.count).map w.candidate
    order (formWalk s p z none) = aligned ∧
      ∀ hint : Nat,
        let clamped := max (max pr.low zn.zlo) (min hint (min pr.high zn.zhi))
        (order (formWalk s p z (some hint))).Perm aligned ∧
          (aligned ≠ [] → ∃ snapped ∈ aligned,
            (∀ f ∈ aligned, distance snapped clamped ≤ distance f clamped ∧
              (distance f clamped = distance snapped clamped → snapped ≤ f)) ∧
            (order (formWalk s p z (some hint))).Pairwise fun x y : Nat =>
              distance x snapped < distance y snapped ∨ (distance x snapped = distance y snapped ∧ x < y))

/-! ## The engine and its queue (R30, R65 to R68, R72 to R92, R179) -/

/-- CHECK, PIN with the check flag set, and AUDIT: the parameters, then the console's open request and the queue's room; the
accepted work stands behind the console's own work and before every MOVE and REQUEST, and DEFER rises with the
occupancy. A PIN carrying the flag as 1 is the checked PIN.
Log entry 21 is the model's own reading here. -/
def Obligations.HostWorkJoinsTheQueue : Prop :=
  let joins := fun (w : Work) (s : State) =>
    if s.console.openRequest = true ∨ 24 ≤ s.engine.queue.length then respond .busy [] s
    else
      respond .ok []
        { s with
          engine :=
            { s.engine with
              queue :=
                s.engine.queue.takeWhile (fun x => x.hostKind?.isSome) ++
                  w :: s.engine.queue.dropWhile (fun x => x.hostKind?.isSome)
              defer := s.engine.defer || decide (s.engine.upper ≤ s.engine.queue.length + 1) }
          console :=
            { s.console with
              openRequest := true
              flags :=
                if s.engine.defer = false ∧ s.engine.upper ≤ s.engine.queue.length + 1 then s.console.flags ||| 0x80
                else s.console.flags } }
  (∀ (index : Word) (profile zone : Byte) (s : State), exec (.check index profile zone) s = .next
      (if h : index.toNat < 9120 ∧ profile.toNat < 16 ∧ zone.toNat < 16 then
        if (s.plan.profiles.read ⟨profile.toNat, h.2.1⟩).defined = true then
          joins (.check { index := index.toNat, profile := ⟨profile.toNat, h.2.1⟩, zone := ⟨zone.toNat, h.2.2⟩ }) s
        else respond .range [] s
      else respond .range [] s)) ∧
    (∀ (index : Word) (profile zone : Byte) (label : List Byte) (s : State),
      exec (.checkedPin index profile zone label) s = .next
        (if h : index.toNat < 9120 ∧ profile.toNat < 16 ∧ zone.toNat < 16 ∧ label.length ≤ 12 ∧
            ∀ c ∈ label, 32 ≤ c.toNat ∧ c.toNat ≤ 126 then
          if (s.plan.profiles.read ⟨profile.toNat, h.2.1⟩).defined = true then
            joins
              (.pin
                { index := index.toNat, profile := ⟨profile.toNat, h.2.1⟩, zone := ⟨zone.toNat, h.2.2.1⟩,
                  label := label }) s
          else respond .range [] s
        else respond .range [] s) ∧
      exec (.pin index profile zone 1 label) s = exec (.checkedPin index profile zone label) s) ∧
    ∀ s : State, exec .audit s = .next (joins .audit s)

/-- How a search's walk begins and how a search ends without a record. A walk records e0, clears the moved mark and forms its
order from the window as it stands; with no candidate to visit (none, or only the moving slot's own frequency) it ends
at once with NONE. An end answers the station and leaves the foreground empty, a MOVE whose slot is gone with
UNKNOWN_CHANNEL; a refill leaves the background empty and bars its zone.
Log entries 22 and 29 are the model's own reading here. -/
def Obligations.WalksBeginAndEnd : Prop :=
  let answered := fun (s : State) (r : Fin 48) (ch : Fin 64) (why : RefuseReason) =>
    { s with
      engine := { s.engine with foreground := none }
      stations := s.stations.change r (Option.map fun st =>
        { st with answers := st.answers ++ [.refused (BitVec.ofNat 8 ch.val) why], openRequest := false }) }
  let begun := fun (s : State) (n : Nat) (w : Walk) =>
    ({ e0 := s.epoch, moved := false, research := n, walk := w, stage := .walking } : SearchContext)
  let owned := fun (s : State) (w : MoveWork) =>
    ∃ o, s.slots.read w.slot = .owned o ∧ o.station = w.station ∧ o.channel = w.channel
  (∀ (w : RequestWork) (why : RefuseReason) (s : State),
    closeSearch (.request w) why s = answered s w.station w.channel why) ∧
  (∀ (w : MoveWork) (why : RefuseReason) (s : State),
    (owned s w → closeSearch (.move w) why s = answered s w.station w.channel why) ∧
      (¬owned s w → closeSearch (.move w) why s = answered s w.station w.channel .unknownChannel)) ∧
  (∀ (z : Fin 16) (why : RefuseReason) (s : State),
    closeSearch (.refill z) why s =
      { s with engine := { s.engine with background := none, barred := s.engine.barred.write z true } }) ∧
  (∀ (w : RequestWork) (n : Nat) (s : State),
    let walk := formWalk s w.profile (stationZone s w.station) w.hint
    beginWalk (.request w) n s =
      if walk.count = 0 then answered s w.station w.channel .noneFound
      else { s with engine := { s.engine with foreground := some (.request w (begun s n walk)) } }) ∧
  (∀ (w : MoveWork) (o : Owned) (n : Nat) (s : State), s.slots.read w.slot = .owned o → o.station = w.station →
    o.channel = w.channel →
    let walk := formWalk s w.profile w.zone none
    beginWalk (.move w) n s =
      if walk.count = 0 ∨ (walk.count = 1 ∧ walk.lowest = o.frequency) then answered s w.station w.channel .noneFound
      else { s with engine := { s.engine with foreground := some (.move w (begun s n walk)) } }) ∧
  ∀ (z : Fin 16) (n : Nat) (s : State),
    let walk := formWalk s (s.plan.zones.read z).spareProfile z none
    beginWalk (.refill z) n s =
      if walk.count = 0 then
        { s with engine := { s.engine with background := none, barred := s.engine.barred.write z true } }
      else { s with engine := { s.engine with background := some { zone := z, context := begun s n walk } } }

/-- ENGINE_TAKE: the free engine takes the entry at the front of the queue, which may clear DEFER, and begins it in the event:
the walk of a REQUEST or of a MOVE whose slot is still the station's, the one evaluation of a CHECK with its result, the
evaluation of a checked PIN, the first visit of an audit.
Log entries 2, 11 and 28 are the model's own reading here. -/
def Obligations.EngineTakesTheFrontEntry : Prop :=
  ∀ s : State,
    let placed := fun (kind : HostKind) (outcome : HostOutcome) (t : State) =>
      { t with
        console :=
          { t.console with
            openRequest := false
            result := { number := t.console.result.number + 1, entry := some (kind, outcome) }
            flags := t.console.flags ||| 0x01 } }
    exec .engineTake s = .next
      (match s.engine.foreground, s.engine.queue with
      | some _, _ => s
      | none, [] => startRefill s
      | none, w :: rest =>
        let left : State :=
          { s with
            engine := { s.engine with queue := rest, defer := s.engine.defer && decide (s.engine.lower < rest.length) } }
        startRefill
          (match w with
          | .request r => beginWalk (.request r) 0 left
          | .move m =>
            if (s.slots.read m.slot).ownedBy m.station m.channel then beginWalk (.move m) 0 left
            else closeSearch (.move m) .unknownChannel left
          | .check k =>
            placed .check
              (match evaluate s k.profile k.zone none k.index with
                | none => .pass
                | some f => .fail f) left
          | .pin k =>
            match evaluate s k.profile k.zone none k.index with
            | some f => placed .pin (.fail f) left
            | none =>
              { left with
                engine :=
                  { left.engine with
                    foreground := some (.pin k
                      { e0 := s.epoch, moved := false, research := 0,
                        walk := { lowest := k.index, step := 1, count := 1, start := none, cursor := 1 },
                        stage := .found k.index }) } }
          | .audit =>
            { left with
              slots := s.slots.write 0 ((s.slots.read 0).withConflict (auditFinds s 0))
              engine :=
                { left.engine with foreground := some (.audit 1 (if auditFinds s 0 = true then 1 else 0)) } }))

/-- CANDIDATE_EVALUATION: the next candidate of the walk is evaluated; a pass is the walk's result, and a walk that has no
further candidate ends with NONE. A MOVE passes over its slot's frequency and leaves the slot out; a refill walks only
while the foreground and the queue are empty in RUN. With no walk due nothing happens.
Log entries 2, 11, 22 and 29 are the model's own reading here. -/
def Obligations.CandidateEvaluationWalksOn : Prop :=
  let on := fun (c : SearchContext) (cursor : Nat) => { c with walk := { c.walk with cursor := cursor } }
  let result := fun (c : SearchContext) (cursor f : Nat) =>
    { c with walk := { c.walk with cursor := cursor }, stage := .found f }
  (∀ (s : State) (w : RequestWork) (c : SearchContext), s.engine.foreground = some (.request w c) → c.stage = .walking →
    let k := c.walk.cursor
    let held := fun d : SearchContext => { s with engine := { s.engine with foreground := some (.request w d) } }
    exec .candidateEvaluation s = .next
      (if k < c.walk.count then
        if evaluate s w.profile (stationZone s w.station) none (c.walk.candidate k) = none then
          held (result c (k + 1) (c.walk.candidate k))
        else if k + 1 < c.walk.count then held (on c (k + 1))
        else startRefill (closeSearch (.request w) .noneFound s)
      else startRefill (closeSearch (.request w) .noneFound s))) ∧
  (∀ (s : State) (w : MoveWork) (c : SearchContext), s.engine.foreground = some (.move w c) → c.stage = .walking →
    let held := fun d : SearchContext => { s with engine := { s.engine with foreground := some (.move w d) } }
    let own := if (s.slots.read w.slot).ownedBy w.station w.channel then (s.slots.read w.slot).frequency? else none
    let k := if c.walk.cursor < c.walk.count ∧ own = some (c.walk.candidate c.walk.cursor) then c.walk.cursor + 1
      else c.walk.cursor
    exec .candidateEvaluation s = .next
      (if k < c.walk.count then
        if evaluate s w.profile w.zone (some w.slot) (c.walk.candidate k) = none then
          held (result c (k + 1) (c.walk.candidate k))
        else if k + 2 < c.walk.count ∨ (k + 2 = c.walk.count ∧ own ≠ some (c.walk.candidate (k + 1))) then held (on c (k + 1))
        else startRefill (closeSearch (.move w) .noneFound s)
      else startRefill (closeSearch (.move w) .noneFound s))) ∧
  (∀ (s : State) (b : Refill), s.engine.foreground = none → s.engine.background = some b → b.context.stage = .walking →
    let c := b.context
    let k := c.walk.cursor
    let held := fun d : SearchContext =>
      { s with engine := { s.engine with background := some { zone := b.zone, context := d } } }
    exec .candidateEvaluation s = .next
      (if s.engine.queue = [] ∧ s.console.mode = .run then
        if k < c.walk.count then
          if evaluate s (s.plan.zones.read b.zone).spareProfile b.zone none (c.walk.candidate k) = none then
            held (result c (k + 1) (c.walk.candidate k))
          else if k + 1 < c.walk.count then held (on c (k + 1))
          else startRefill (closeSearch (.refill b.zone) .noneFound s)
        else startRefill (closeSearch (.refill b.zone) .noneFound s)
      else s)) ∧
  ∀ s : State, (∀ job c, activeSearch s = some (job, c) → c.stage ≠ .walking) → exec .candidateEvaluation s = .next s

/-- SEARCH_COMPLETION: with the epoch unmoved the found candidate is recorded: a REQUEST in the lowest FREE slot, owned by its
station and channel and STALE if the station is LAPSED; a MOVE as its slot's pending index with the move time; a spare
at the tail of its zone's list. No FREE slot ends in FULL or a barred zone, a gone moving slot in UNKNOWN_CHANNEL. With
the epoch moved a re-test falls due, or after a re-test a full re-search begins, or at the count of 2 the end is
RETRY.
Log entries 2, 11, 22 and 25 are the model's own reading here. -/
def Obligations.SearchCompletionRecordsOrRetests : Prop :=
  let moved := fun (job : Job) (c : SearchContext) (f : Nat) (s : State) =>
    if c.research < 2 then
      if c.stage = .found f then setContext job { c with e0 := s.epoch, moved := false, stage := .retestDue f } s
      else beginWalk job (c.research + 1) s
    else closeSearch job .retry s
  (∀ (s : State) (w : RequestWork) (c : SearchContext) (f : Nat), s.engine.foreground = some (.request w c) →
    c.stage = .found f ∨ c.stage = .retested f →
    ∃ t, exec .searchCompletion s = .next (startRefill t) ∧
      if c.moved = false then
        ((∀ i, s.slots.read i ≠ .free) → t = closeSearch (.request w) .full s) ∧
          ∀ i, s.slots.read i = .free → (∀ j < i, s.slots.read j ≠ .free) →
            let lapsed := (s.stations.read w.station).any fun st => decide (st.leaseState = .lapsed)
            let hold := if 0 < s.timing.hold then some { count := s.timing.hold, owed := 0 } else none
            let record : Owned :=
              { state := if lapsed = true then .stale hold else .active, frequency := f, move := none,
                profile := w.profile, zone := stationZone s w.station, station := w.station, channel := w.channel,
                phase := w.phase,
                label := (w.label.take 12).map fun b => if 32 ≤ b.toNat ∧ b.toNat ≤ 126 then b else 63,
                suspect := none, conflict := false }
            t =
              { s with
                slots := s.slots.write i (.owned record)
                epoch := s.epoch + 1
                engine :=
                  { s.engine with
                    foreground := none
                    background := s.engine.background.map fun b => { b with context := { b.context with moved := true } } }
                stations := s.stations.change w.station (Option.map fun st =>
                  { st with
                    held := st.held + 1, answers := st.answers ++ [.granted w.channel f false], openRequest := false }) }
      else t = moved (.request w) c f s) ∧
  (∀ (s : State) (w : MoveWork) (c : SearchContext) (f : Nat), s.engine.foreground = some (.move w c) →
    c.stage = .found f ∨ c.stage = .retested f →
    (∀ o, s.slots.read w.slot = .owned o → o.station = w.station → o.channel = w.channel →
      exec .searchCompletion s = .next
        (startRefill
          (if c.moved = false then
            { s with
              slots := s.slots.write w.slot (.owned
                { o with move := some { pending := f, counter := { count := s.timing.moveTime, owed := 0 } } })
              epoch := s.epoch + 1
              engine :=
                { s.engine with
                  foreground := none
                  background := s.engine.background.map fun b => { b with context := { b.context with moved := true } } }
              stations := s.stations.change w.station (Option.map fun st =>
                { st with answers := st.answers ++ [.moveTo w.channel f], openRequest := false }) }
          else moved (.move w) c f s))) ∧
    ((s.slots.read w.slot).ownedBy w.station w.channel = false →
      exec .searchCompletion s = .next (startRefill (closeSearch (.move w) .unknownChannel s)))) ∧
  (∀ (s : State) (b : Refill) (f : Nat), s.engine.foreground = none → s.engine.background = some b →
    b.context.stage = .found f ∨ b.context.stage = .retested f →
    ∃ t, exec .searchCompletion s = .next t ∧
      if s.engine.queue = [] ∧ s.console.mode = .run then
        if b.context.moved = false then
          ((∀ i, s.slots.read i ≠ .free) → t = startRefill (closeSearch (.refill b.zone) .full s)) ∧
            ∀ i, s.slots.read i = .free → (∀ j < i, s.slots.read j ≠ .free) →
              t = startRefill
                { s with
                  slots := s.slots.write i (.spare
                    { frequency := f, profile := (s.plan.zones.read b.zone).spareProfile, zone := b.zone,
                      conflict := false })
                  zones := s.zones.change b.zone fun z => { z with spares := z.spares ++ [i] }
                  epoch := s.epoch + 1
                  engine := { s.engine with background := none } }
        else t = startRefill (moved (.refill b.zone) b.context f s)
      else t = s) ∧
  ∀ s : State, (∀ job c f, activeSearch s = some (job, c) → c.stage ≠ .found f ∧ c.stage ≠ .retested f) →
    exec .searchCompletion s = .next s

/-- RE_TEST: the found candidate is evaluated once more; a pass goes to its completion, a failure begins a full re-search of a
search, or at the re-search count of 2 ends it with RETRY, and ends a checked PIN with the failure. With no re-test
due nothing happens.
Log entries 2, 11, 25 and 27 are the model's own reading here. -/
def Obligations.ReTestEvaluatesTheCandidateAgain : Prop :=
  (∀ (s : State) (job : Job) (c : SearchContext) (f : Nat), activeSearch s = some (job, c) → c.stage = .retestDue f →
    exec .reTest s = .next
      (startRefill
        (if evaluate s (job.profile s) (job.zone s) job.leftOut f = none then setContext job { c with stage := .retested f } s
        else if c.research < 2 then beginWalk job (c.research + 1) s
        else closeSearch job .retry s))) ∧
  (∀ (s : State) (w : PinWork) (c : SearchContext) (f : Nat), s.engine.foreground = some (.pin w c) → c.stage = .retestDue f →
    exec .reTest s = .next
      (match evaluate s w.profile w.zone none w.index with
      | none =>
        { s with engine := { s.engine with foreground := some (.pin w { c with stage := .retested w.index }) } }
      | some x =>
        startRefill
          { s with
            engine := { s.engine with foreground := none }
            console :=
              { s.console with
                openRequest := false
                result := { number := s.console.result.number + 1, entry := some (.pin, .fail x) }
                flags := s.console.flags ||| 0x01 } })) ∧
  ∀ s : State, (∀ job c f, activeSearch s = some (job, c) → c.stage ≠ .retestDue f) →
    (∀ w c f, s.engine.foreground = some (.pin w c) → c.stage ≠ .retestDue f) → exec .reTest s = .next s

/-- CHECKED_PIN_COMPLETION and AUDIT_VISIT. A checked PIN whose epoch has not moved is pinned in the lowest FREE slot or ends
FULL; otherwise a re-test falls due, after a re-test one further evaluation is made (log entry 12), and at the
re-search count of 2 the outcome is RETRY. A visit sets or clears one slot's conflict field by T2 to T5 of each of its
indices against the other slots' carriers, and after slot 383 the count is placed and CONFLICT raised unless it is 0.
Log entries 2, 11, 12 and 25 are the model's own reading here. -/
def Obligations.CheckedPinsAndAuditsRunToTheirResult : Prop :=
  let placed := fun (kind : HostKind) (outcome : HostOutcome) (t : State) =>
    { t with
      engine := { t.engine with foreground := none }
      console :=
        { t.console with
          openRequest := false
          result := { number := t.console.result.number + 1, entry := some (kind, outcome) }
          flags := t.console.flags ||| 0x01 } }
  (∀ (s : State) (w : PinWork) (c : SearchContext), s.engine.foreground = some (.pin w c) →
    c.stage = .found w.index ∨ c.stage = .retested w.index →
    ∃ t, exec .checkedPinCompletion s = .next (startRefill t) ∧
      if c.moved = false then
        ((∀ i, s.slots.read i ≠ .free) → t = placed .pin .full s) ∧
          ∀ i, s.slots.read i = .free → (∀ j < i, s.slots.read j ≠ .free) →
            t = placed .pin (.pinned i)
              { s with
                slots := s.slots.write i (.pinned
                  { frequency := w.index, profile := w.profile, zone := w.zone, label := w.label,
                    suspect := nearestForeign s w.index none, conflict := false })
                epoch := s.epoch + 1
                engine :=
                  { s.engine with
                    background := s.engine.background.map fun b => { b with context := { b.context with moved := true } } } }
      else if 2 ≤ c.research then t = placed .pin .retry s
      else if c.stage = .found w.index then
        t = { s with
          engine := { s.engine with
            foreground := some (.pin w { c with e0 := s.epoch, moved := false, stage := .retestDue w.index }) } }
      else
        (∀ x, evaluate s w.profile w.zone none w.index = some x → t = placed .pin (.fail x) s) ∧
          (evaluate s w.profile w.zone none w.index = none → ∃ d : SearchContext,
            d.e0 = s.epoch ∧ d.moved = false ∧ d.research = c.research + 1 ∧ d.stage = .found w.index ∧
            t = { s with engine := { s.engine with foreground := some (.pin w d) } })) ∧
  (∀ (s : State) (n : Nat) (flagged : Nat) (h : n < 384), s.engine.foreground = some (.audit n flagged) →
    let i : Fin 384 := ⟨n, h⟩
    ∃ found : Bool,
      (found = true ↔ ∃ c, isCarrier s none c ∧ c.slot = i ∧
        (testExclusion s c.index ≠ none ∨ testForeign s c.index ≠ none ∨
          testSpacing s c.profile c.zone (carriersBut s (some i)) c.index ≠ none ∨
          testProducts s c.profile c.zone (carriersBut s (some i)) c.index ≠ none)) ∧
      let tally := if found = true then flagged + 1 else flagged
      let visited : State := { s with slots := s.slots.write i ((s.slots.read i).withConflict found) }
      exec .auditVisit s = .next
        (if n + 1 < 384 then { visited with engine := { s.engine with foreground := some (.audit (n + 1) tally) } }
        else
          let ended := placed .audit (.count tally) visited
          startRefill
            (if tally = 0 then ended
            else { ended with console := { ended.console with flags := ended.console.flags ||| 0x02 } }))) ∧
  (∀ s : State, (∀ w c f, s.engine.foreground = some (.pin w c) → c.stage ≠ .found f ∧ c.stage ≠ .retested f) →
    exec .checkedPinCompletion s = .next s) ∧
  ∀ s : State, (∀ n flagged, s.engine.foreground ≠ some (.audit n flagged)) → exec .auditVisit s = .next s

/-- A refill starts in RUN with the foreground, the background and the queue empty and a slot FREE, and for the lowest-numbered
zone that wants a spare and is not barred; a zone whose walk holds no candidate is barred at once and passed over.
Nothing but the background and the barred set changes.
Log entries 11 and 14 are the model's own reading here. -/
def Obligations.RefillsStartAtTheLowestZone : Prop :=
  ∀ s : State,
    let due := s.console.mode = .run ∧ s.engine.foreground = none ∧ s.engine.background = none ∧ s.engine.queue = [] ∧
      ∃ i, s.slots.read i = .free
    let wants := fun z => wantsSpare s z = true ∧ s.engine.barred.read z = false
    let walk := fun z => formWalk s (s.plan.zones.read z).spareProfile z none
    (¬due → startRefill s = s) ∧
      (due → ∃ barred : Table Bool 16,
        (∀ z, barred.read z = true ↔ s.engine.barred.read z = true ∨
          (wants z ∧ (walk z).count = 0 ∧ ∀ y < z, wants y → (walk y).count = 0)) ∧
        ((∀ z, wants z → (walk z).count = 0) → startRefill s = { s with engine := { s.engine with barred := barred } }) ∧
        ∀ z, wants z → (walk z).count ≠ 0 → (∀ y < z, wants y → (walk y).count = 0) →
          startRefill s =
            { s with
              engine :=
                { s.engine with
                  barred := barred
                  background := some
                    { zone := z
                      context :=
                        { e0 := s.epoch, moved := false, research := 0, walk := walk z, stage := .walking } } } })

/-! ## Timing, leases, holds and moves (R69, R94 to R104, R113, R114) -/

/-- The five timing writes: their ranges, the lease period, the hold and the move time stored (R97), the time base refused MODE in RUN after its code is checked, and the DEFER thresholds,
a lower one at or above the upper taken to the upper less one, with DEFER compared at once. -/
def Obligations.TimingWritesStoreTheirValues : Prop :=
  (∀ (code : Byte) (s : State), exec (.writeTimeBase code) s = .next
    (let store := fun p : TickPeriod =>
      if s.console.mode = .run then respond .mode [] s
      else respond .ok [] { s with timing := { s.timing with period := p } }
    if code = 0 then store .ms250
    else if code = 1 then store .ms500
    else if code = 2 then store .s1
    else if code = 3 then store .s2
    else respond .range [] s)) ∧
  (∀ (period : Byte) (s : State), exec (.writeLease period) s = .next
    (if period = 0 then respond .range [] s
    else respond .ok [] { s with timing := { s.timing with lease := period.toNat } })) ∧
  (∀ (hold : Word) (s : State), exec (.writeHold hold) s = .next
    (respond .ok [] { s with timing := { s.timing with hold := hold.toNat } })) ∧
  (∀ (ticks : Byte) (s : State), exec (.writeMoveTime ticks) s = .next
    (if ticks = 0 then respond .range [] s
    else respond .ok [] { s with timing := { s.timing with moveTime := ticks.toNat } })) ∧
  ∀ (upper lower : Byte) (s : State), exec (.writeDefer upper lower) s = .next
    (if 1 ≤ upper.toNat ∧ upper.toNat ≤ 24 then
      let u := upper.toNat
      let l := if lower.toNat < u then lower.toNat else u - 1
      let n := s.engine.queue.length
      respond .ok []
        { s with
          engine :=
            { s.engine with
              upper := u
              lower := l
              defer := if u ≤ n then true else if n ≤ l then false else s.engine.defer }
          console :=
            { s.console with
              flags := if s.engine.defer = false ∧ u ≤ n then s.console.flags ||| 0x80 else s.console.flags } }
    else respond .range [] s)

/-- A tick in RUN is owed at every counter it reaches (log entry 4: TICK and the events that take it are separate commands): each
hold and move counter, each clear timer, and each lease counter above 0 of a CURRENT station on a branch that is not
DISABLED. Taken at a lease counter it counts down, and from 1 the station lapses: its ACTIVE slots turn STALE, its notices
are dropped, resync and STATION_LAPSED are raised. A valid reply loads the counter, and a LAPSED station returns.
Log entries 2, 4 and 26 are the model's own reading here. -/
def Obligations.TicksAndRepliesMoveTheLeases : Prop :=
  (∀ s : State, exec .tick s = .next
    (if s.console.mode = .run then
      let owe := fun c : TickCounter => { c with owed := c.owed + 1 }
      { s with
        slots := s.slots.each fun x =>
          match x with
          | .owned o =>
            .owned
              { o with
                state := match o.state with | .active => .active | .stale h => .stale (h.map owe)
                move := o.move.map fun w => { w with counter := owe w.counter } }
          | .free => .free
          | .pinned p => .pinned p
          | .spare r => .spare r
        zones := s.zones.each fun z => { z with clearing := z.clearing.map owe }
        stations := s.stations.each (Option.map fun st =>
          if st.leaseState = .current ∧ 0 < st.lease.count ∧ (s.branches.read st.branch).state ≠ .disabled then
            { st with lease := owe st.lease }
          else st) }
    else s)) ∧
  (∀ (r : Fin 48) (s : State),
    let taken : State :=
      match s.stations.read r with
      | none => s
      | some st =>
        if st.lease.owed = 0 ∨ s.console.mode = .config then s
        else if st.leaseState = .current ∧ 0 < st.lease.count ∧ (s.branches.read st.branch).state ≠ .disabled then
          if st.lease.count = 1 then
            { s with
              slots := s.slots.each fun x =>
                match x with
                | .owned o =>
                  if o.station = r ∧ o.state = .active then
                    .owned
                      { o with
                        state := .stale (if 0 < s.timing.hold then some { count := s.timing.hold, owed := 0 } else none) }
                  else .owned o
                | .free => .free
                | .pinned p => .pinned p
                | .spare q => .spare q
              stations := s.stations.write r (some
                { st with
                  leaseState := .lapsed, lease := { count := 0, owed := 0 }, notices := [], resync := true,
                  resyncCarried := false })
              console := { s.console with flags := s.console.flags ||| 0x40 } }
          else
            { s with
              stations := s.stations.write r (some
                { st with lease := { count := st.lease.count - 1, owed := st.lease.owed - 1 } }) }
        else { s with stations := s.stations.write r (some { st with lease := { st.lease with owed := 0 } }) }
    exec (.leaseCounterDecrement r) s = .next taken ∧
      exec (.lapse r) s = .next (if ∃ st ∈ s.stations.read r, st.lease.count = 1 then taken else s)) ∧
  ∀ (r : Fin 48) (s : State), exec (.validReplyNotice r) s = .next
    (match s.stations.read r with
    | none => s
    | some st =>
      if st.validReplies = 0 then s
      else
        let loaded : State :=
          { s with
            stations := s.stations.write r (some
              { st with
                validReplies := st.validReplies - 1
                leaseState := .current
                lease := { count := s.timing.lease, owed := st.lease.owed } }) }
        if st.leaseState = .current then loaded
        else
          { loaded with
            slots := s.slots.each fun x =>
              match x with
              | .owned o => if o.station = r then .owned { o with state := .active } else .owned o
              | .free => .free
              | .pinned p => .pinned p
              | .spare q => .spare q })

/-- The tick taken in RUN at a STALE slot's hold counter and at an open move's counter: each counts down; at its last tick the
hold retires the slot with HOLD_EXPIRED, and the move loses its pending index, empties the barred set and gives the
owner MOVE_LAPSED. HOLD_EXPIRY and MOVE_LAPSE are those last ticks (log entry 4).
Log entries 2, 4 and 11 are the model's own reading here. -/
def Obligations.HoldsAndMovesRunDown : Prop :=
  (∀ (i : Fin 384) (s : State),
    let idle := ∀ o h, s.slots.read i = .owned o → o.state = .stale (some h) → h.owed = 0 ∨ s.console.mode = .config
    (idle → exec (.holdCounterDecrement i) s = .next s ∧ exec (.holdExpiry i) s = .next s) ∧
    ∀ o h, s.slots.read i = .owned o → o.state = .stale (some h) → 0 < h.owed → s.console.mode = .run →
      let taken :=
        if h.count ≤ 1 then startRefill (retireSlot (some .holdExpired) i s)
        else
          { s with
            slots := s.slots.write i (.owned
              { o with state := .stale (some { count := h.count - 1, owed := h.owed - 1 }) }) }
      exec (.holdCounterDecrement i) s = .next taken ∧
        exec (.holdExpiry i) s = .next (if h.count = 1 then taken else s)) ∧
  ∀ (i : Fin 384) (s : State),
    let idle := ∀ o w, s.slots.read i = .owned o → o.move = some w → w.counter.owed = 0 ∨ s.console.mode = .config
    (idle → exec (.moveCounterDecrement i) s = .next s ∧ exec (.moveLapse i) s = .next s) ∧
    ∀ o w, s.slots.read i = .owned o → o.move = some w → 0 < w.counter.owed → s.console.mode = .run →
      let taken :=
        if w.counter.count ≤ 1 then
          startRefill
            { s with
              slots := s.slots.write i (.owned { o with move := none })
              engine := { s.engine with barred := Table.filled 16 false }
              stations := s.stations.change o.station (Option.map fun st => st.takeNotice (.moveLapsed o.channel)) }
        else
          { s with
            slots := s.slots.write i (.owned
              { o with
                move := some { w with counter := { count := w.counter.count - 1, owed := w.counter.owed - 1 } } }) }
      exec (.moveCounterDecrement i) s = .next taken ∧
        exec (.moveLapse i) s = .next (if w.counter.count = 1 then taken else s)

/-! ## Changeovers (R117 to R125) -/

/-- CHANGEOVER from the console, and the clear timer. In STEADY every LIVE slot of the zone turns ENDING and every NEXT slot LIVE,
each station that owns a slot of the zone is given PHASE_CHANGED once, and with ENDING slots the zone is CLEARING for its
clear time, or for a time of 0 they are retired CLEARED at once. In CLEARING the request is BUSY without force; with force
the ENDING slots are first retired FORCED. The last tick of the clear timer retires them CLEARED and leaves STEADY.
Log entries 2, 4, 11 and 18 are the model's own reading here. -/
def Obligations.ChangeoversTurnThePhases : Prop :=
  let ending := fun (t : State) (z : Fin 16) => (List.finRange 384).filter fun i => (t.slots.read i).endingIn z
  let retired := fun (cause : RetireCause) (is : List (Fin 384)) (t : State) =>
    is.foldl (fun u i => retireSlot (some cause) i u) t
  let clearing := fun (z : Fin 16) (c : Option TickCounter) (t : State) =>
    { t with zones := t.zones.change z fun x => { x with clearing := c } }
  (∀ (zone force : Byte) (s : State), exec (.changeover zone force) s = .next
    (if h : zone.toNat < 16 then
      let z : Fin 16 := ⟨zone.toNat, h⟩
      let word := fun n : Nat => splitWord (BitVec.ofNat 16 n)
      if (s.zones.read z).clearing.isSome = true ∧ force = 0 then respond .busy [] s
      else
        let forced := if (s.zones.read z).clearing.isSome then ending s z else []
        let steady := if (s.zones.read z).clearing.isSome then clearing z none (retired .forced forced s) else s
        let owned := fun ph : Phase => steady.slots.countWith fun x =>
          match x with
          | .owned o => o.zone == z && o.phase == ph
          | .free => false
          | .pinned _ => false
          | .spare _ => false
        let turned : State :=
          { steady with
            slots := steady.slots.each fun x =>
              match x with
              | .owned o =>
                if o.zone = z then
                  .owned { o with phase := match o.phase with | .live => .ending | .next => .live | .ending => .ending }
                else .owned o
              | .free => .free
              | .pinned p => .pinned p
              | .spare r => .spare r }
        let told :=
          ((List.finRange 48).filter fun r => turned.slots.toList.any fun x => x.ownedByStation r && x.ownedInZone z).foldl
            (fun t r => { t with stations := t.stations.change r (Option.map fun st => st.takeNotice (.phaseChanged z)) })
            turned
        let outgoing := ending told z
        let time := (s.plan.zones.read z).clearTime
        let done :=
          if outgoing = [] then told
          else if 0 < time then clearing z (some { count := time, owed := 0 }) told
          else retired .cleared outgoing told
        respond .ok
          (word forced.length ++ word (owned .live) ++ word (owned .next) ++
            word (if outgoing ≠ [] ∧ time = 0 then outgoing.length else 0) ++
            [if (done.zones.read z).clearing.isSome then (1 : Byte) else 0] ++
            word (((done.zones.read z).clearing.map TickCounter.count).getD 0)) (startRefill done)
    else respond .range [] s)) ∧
  ∀ (z : Fin 16) (s : State),
    let taken : State :=
      match (s.zones.read z).clearing with
      | none => s
      | some c =>
        if c.owed = 0 ∨ s.console.mode = .config then s
        else if c.count ≤ 1 then startRefill (clearing z none (retired .cleared (ending s z) s))
        else clearing z (some { count := c.count - 1, owed := c.owed - 1 }) s
    exec (.clearTimerDecrement z) s = .next taken ∧
      exec (.clearTimerExpiry z) s = .next (if ∃ c ∈ (s.zones.read z).clearing, c.count = 1 then taken else s)

/-! ## The sweep and the foreign list (R63, R64, R134 to R151) -/

/-- The sweep's requests and the stages of a point. WRITE SWEEP is BUSY while the sweep runs and otherwise stores values in their
ranges, a step of 0 as 1. A start begins the point at lo, a stop ends what is in progress; a point is tuned with the
offset plus the index times the scale, limited to 16777215, latched, settled and converted; a gap's end begins the next
pass. While a point is tuned its word's 24 bits go out most significant first, one each microsecond, and the latch pulse
follows; the tune lines rest low otherwise.
Log entries 2, 34 and 35 are the model's own reading here. -/
def Obligations.SweepRequestsAndPointStages : Prop :=
  let point := fun (s : State) (index : Nat) =>
    { s with
      sweep :=
        { s.sweep with
          cursor := index
          activity := some (.tuning (min (s.sweep.config.offset + index * s.sweep.config.scale) 16777215)) } }
  (∀ (lo hi : Word) (step settle threshold hysteresis k m e gap : Byte) (offset : Word24) (scale : Byte) (s : State),
    exec (.writeSweep lo hi step settle threshold hysteresis k m e gap offset scale) s = .next
      (if s.sweep.activity ≠ none then respond .busy [] s
      else if lo.toNat ≤ hi.toNat ∧ hi.toNat < 9120 ∧ step.toNat ≤ 16 ∧ 1 ≤ settle.toNat ∧ hysteresis.toNat ≤ 63 ∧
          1 ≤ k.toNat ∧ k.toNat ≤ 4 ∧ 1 ≤ m.toNat ∧ m.toNat ≤ 8 ∧ e.toNat ≤ 8 ∧ 1 ≤ scale.toNat then
        respond .ok []
          { s with
            sweep :=
              { s.sweep with
                config :=
                  { lo := lo.toNat, hi := hi.toNat, step := if step.toNat = 0 then 1 else step.toNat,
                    settle := settle.toNat, threshold := threshold.toNat, hysteresis := hysteresis.toNat,
                    k := k.toNat, m := m.toNat, e := e.toNat, gap := gap.toNat, offset := offset.toNat,
                    scale := scale.toNat } } }
      else respond .range [] s)) ∧
  (∀ s : State, exec .sweepStart s = .next
    (respond .ok [] (if s.sweep.activity = none then point s s.sweep.config.lo else s))) ∧
  (∀ s : State, exec .sweepStop s = .next (respond .ok [] { s with sweep := { s.sweep with activity := none } })) ∧
  (∀ s : State, exec .tuneLatch s = .next
    (match s.sweep.activity with
    | some (.tuning w) => { s with sweep := { s.sweep with activity := some .settling, latched := some w } }
    | _ => s)) ∧
  (∀ s : State, exec .settleEnd s = .next
    (if s.sweep.activity = some .settling then { s with sweep := { s.sweep with activity := some .converting } }
    else s)) ∧
  (∀ s : State, exec .passGapEnd s = .next
    (if s.sweep.activity = some .gap then point s s.sweep.config.lo else s)) ∧
  (∀ (half : Nat) (s : State), (∀ w, s.sweep.activity ≠ some (.tuning w)) →
    tuneLines half s = { clk := false, data := false, latch := false }) ∧
  ∀ (w : Nat) (s : State), s.sweep.activity = some (.tuning w) →
    (∀ k < 24,
      tuneLines (2 * k) s = { clk := false, data := decide (w / 2 ^ (23 - k) % 2 = 1), latch := false } ∧
      tuneLines (2 * k + 1) s = { clk := true, data := decide (w / 2 ^ (23 - k) % 2 = 1), latch := false }) ∧
    ∀ half ≥ 48, (tuneLines half s).clk = false ∧ ((tuneLines half s).latch = true ↔ half < 50)

/-- CONVERSION_COMPLETE while converting: the level is 255 times the input's place between the references, 0 at or below V_REFL and
255 at or above V_REFH, with a free value where the input is both; it is stored with its index. A point explained by a carrier within E changes no entry; at any
other a hit and a miss are judged and counted, a new entry joins the list in its place if there is room, and an entry is
confirmed at K hits and removed at M misses. Then the next point begins, or the gap, or with a gap of 0 the next pass.
Log entries 2, 11, 16 and 23 are the model's own reading here. -/
def Obligations.ConversionsDecideThePoint : Prop :=
  ∀ (rssi refLow refHigh : Nat) (s : State),
    ∃ t, exec (.conversionComplete rssi refLow refHigh) s = .next t ∧
      if s.sweep.activity = some .converting then
        let c := s.sweep.config
        let x := s.sweep.cursor
        let level :=
          if rssi ≤ refLow ∧ refHigh ≤ rssi then (Config.levelOutsideReferences s.freeUsed).toNat
          else if rssi ≤ refLow then 0
          else if refHigh ≤ rssi then 255 else 255 * (rssi - refLow) / (refHigh - refLow)
        let read : State := { s with sweep := { s.sweep with last := some (level, x) }, freeUsed := s.freeUsed + 1 }
        let next := fun u : State =>
          { u with
            sweep :=
              { u.sweep with
                cursor := if x + c.step ≤ c.hi then x + c.step else if c.gap = 0 then c.lo else x
                activity :=
                  if x + c.step ≤ c.hi then some (.tuning (min (c.offset + (x + c.step) * c.scale) 16777215))
                  else if c.gap = 0 then some (.tuning (min (c.offset + c.lo * c.scale) 16777215))
                  else some .gap } }
        let listed := fun l : List ForeignEntry => { read with sweep := { read.sweep with foreign := l } }
        let updated := fun d : ForeignEntry => listed (s.sweep.foreign.map fun e => if e.index = x then d else e)
        ((∃ d, isCarrier s none d ∧ ((x : Int) - d.index).natAbs ≤ c.e) → t = startRefill (next read)) ∧
        ((∀ d, isCarrier s none d → c.e < ((x : Int) - d.index).natAbs) →
          (∀ e, s.sweep.foreign.find? (fun d => d.index == x) = some e →
            (c.threshold ≤ level + c.hysteresis →
              let hits := min (e.hits + 1) c.k
              let after : ForeignEntry :=
                { e with
                  hits := hits, misses := 0, peak := max e.peak level, confirmed := e.confirmed || decide (hits = c.k) }
              t = startRefill (next
                (if e.confirmed = false ∧ hits = c.k then confirmForeign x (updated after) else updated after))) ∧
            (level + c.hysteresis < c.threshold →
              t = startRefill (next
                (if c.m ≤ e.misses + 1 then dropEntry e read
                else
                  listed (s.sweep.foreign.map fun d => if d.index = x then { d with misses := d.misses + 1 } else d))))) ∧
          (s.sweep.foreign.find? (fun d => d.index == x) = none →
            (level < c.threshold → t = startRefill (next read)) ∧
            (c.threshold ≤ level → 32 ≤ s.sweep.foreign.length →
              t = startRefill (next { read with console := { s.console with flags := s.console.flags ||| 0x08 } })) ∧
            (c.threshold ≤ level → s.sweep.foreign.length < 32 →
              ∃ l : List ForeignEntry,
                l.Perm ({ index := x, confirmed := decide (c.k ≤ 1), peak := level, hits := 1, misses := 0 } ::
                  s.sweep.foreign) ∧
                (s.sweep.foreign.Pairwise (fun d e => d.index < e.index) → l.Pairwise fun d e => d.index < e.index) ∧
                t = startRefill (next (if c.k ≤ 1 then confirmForeign x (listed l) else listed l)))))
      else t = s

/-- A confirmation and a removal. A confirmed carrier advances the epoch, raises FOREIGN_NEW and reaches every slot with an index
less than fg from it: an owned slot is marked and its owner given MOVE_ADVISED, a pin is marked and PINNED_SUSPECT raised,
a spare is retired. A removal of a CONFIRMED entry empties the barred set and gives every slot that named it the nearest
CONFIRMED carrier left within fg of its nearer index, or none. DROP FOREIGN removes an entry and counts those slots.
Log entry 11 is the model's own reading here. -/
def Obligations.ForeignCarriersReachAndLeaveSlots : Prop :=
  let near := fun (s : State) (x : Slot) (index : Nat) =>
    match x.frequency? with
    | none => false
    | some f => decide (((f : Int) - index).natAbs < s.plan.fg ∨ ∃ p ∈ x.pending?, ((p : Int) - index).natAbs < s.plan.fg)
  (∀ (index : Nat) (s : State), ∃ (slots : Table Slot 384) (zones : Table ZoneState 16),
    (∀ i, slots.read i =
      if near s (s.slots.read i) index = true then
        match s.slots.read i with
        | .free => .free
        | .owned o => .owned { o with suspect := some index }
        | .pinned p => .pinned { p with suspect := some index }
        | .spare _ => .free
      else s.slots.read i) ∧
    (∀ z, zones.read z =
      { s.zones.read z with
        spares := (s.zones.read z).spares.filter fun i =>
          match s.slots.read i with
          | .spare r => !(r.zone == z && near s (.spare r) index)
          | .free => true
          | .owned _ => true
          | .pinned _ => true }) ∧
    confirmForeign index s =
      { s with
        slots := slots
        zones := zones
        epoch := s.epoch + 1
        engine :=
          { s.engine with
            foreground := s.engine.foreground.map Foreground.marked
            background := s.engine.background.map fun b => { b with context := { b.context with moved := true } }
            barred := if s.slots.toList.any (fun x => x.isSpare && near s x index) then Table.filled 16 false
              else s.engine.barred }
        stations :=
          ((List.finRange 384).filter fun i => near s (s.slots.read i) index).foldl
            (fun st i =>
              match s.slots.read i with
              | .owned o => st.change o.station (Option.map fun x => x.takeNotice (.moveAdvised o.channel index))
              | .free => st
              | .pinned _ => st
              | .spare _ => st)
            s.stations
        console :=
          { s.console with
            flags :=
              if s.slots.toList.any (fun x => x.isPinned && near s x index) then s.console.flags ||| 0x04 ||| 0x10
              else s.console.flags ||| 0x04 } }) ∧
  (∀ (e : ForeignEntry) (s : State),
    let removed : State :=
      { s with sweep := { s.sweep with foreign := s.sweep.foreign.filter fun d => decide (d.index ≠ e.index) } }
    dropEntry e s =
      if e.confirmed = true then
        { removed with
          slots := s.slots.each fun x =>
            if x.suspect? = some e.index then x.withSuspect (x.frequency?.bind fun f => nearestForeign removed f x.pending?)
            else x
          engine := { s.engine with barred := Table.filled 16 false } }
      else removed) ∧
  (∀ (s : State) (f : Nat) (pending : Option Nat),
    let far := fun e : ForeignEntry =>
      match pending with
      | none => ((f : Int) - e.index).natAbs
      | some p => min ((f : Int) - e.index).natAbs ((p : Int) - e.index).natAbs
    match nearestForeign s f pending with
    | none => ∀ e ∈ s.sweep.foreign, e.confirmed = true → s.plan.fg ≤ far e
    | some x => ∃ e ∈ s.sweep.foreign, e.confirmed = true ∧ e.index = x ∧ far e < s.plan.fg ∧
        ∀ d ∈ s.sweep.foreign, d.confirmed = true → far e ≤ far d ∧ (far d = far e → x ≤ d.index)) ∧
  ∀ (index : Word) (s : State), exec (.dropForeign index) s = .next
    (if index.toNat < 9120 then
      match s.sweep.foreign.find? (fun d => d.index == index.toNat) with
      | none => respond .unknown [] s
      | some e =>
        let named := fun x : Slot => decide (e.confirmed = true ∧ x.suspect? = some e.index)
        let left := dropEntry e s
        let after := fun source : Option Nat → Bool =>
          ((List.finRange 384).filter fun i => named (s.slots.read i) && source (left.slots.read i).suspect?).length
        respond .ok
          ([if e.confirmed then (2 : Byte) else 1] ++ splitWord (BitVec.ofNat 16 (after Option.isNone)) ++
            splitWord (BitVec.ofNat 16 (after Option.isSome))) (startRefill left)
    else respond .range [] s)

/-! ## Branches and stations (R154 to R171, R189, R190) -/

/-- The branch requests. WRITE BRANCH is BUSY unless the branch is DISABLED. A DISABLED branch that is enabled is RUNNING with round
count 0 and in RUN begins a round; a branch that is disabled abandons its poll, ends its fault watch, and its stations'
lease counters stand still.
Log entries 26 and 31 are the model's own reading here. -/
def Obligations.BranchRequestsFollowTheState : Prop :=
  (∀ (branch rate turnoff window gap debounce : Byte) (s : State),
    exec (.writeBranch branch rate turnoff window gap debounce) s = .next
      (if h : branch.toNat < 4 then
        if (s.branches.read ⟨branch.toNat, h⟩).state ≠ .disabled then respond .busy [] s
        else
          match [Rate.b38400, .b115200, .b230400, .b460800][rate.toNat]?,
            [Turnoff.bits0, .bits1, .bits2, .bits4][turnoff.toNat]? with
          | some x, some y =>
            if 1 ≤ window.toNat ∧ window.toNat ≤ 15 ∧ 1 ≤ debounce.toNat then
              respond .ok []
                { s with
                  branches := s.branches.change ⟨branch.toNat, h⟩ fun br =>
                    { br with
                      rate := x, turnoff := y, window := window.toNat, gap := gap.toNat, debounce := debounce.toNat } }
            else respond .range [] s
          | _, _ => respond .range [] s
      else respond .range [] s)) ∧
  (∀ (branch : Byte) (s : State), exec (.branchEnable branch) s = .next
    (if h : branch.toNat < 4 then
      let b : Fin 4 := ⟨branch.toNat, h⟩
      let stations := s.stations.toList.any fun x => x.any fun st => st.branch == b && decide (0 < st.address)
      if (s.branches.read b).state = .disabled then
        respond .ok []
          { s with
            branches := s.branches.change b fun br =>
              { br with
                state := .running, roundCount := 0, markRun := false, spaceRun := br.line == .space && !br.txen,
                activity := if s.console.mode = .config then .idle else if stations then .inRound 0 else .gap true } }
      else respond .ok [] s
    else respond .range [] s)) ∧
  ∀ (branch : Byte) (s : State), exec (.branchDisable branch) s = .next
    (if h : branch.toNat < 4 then
      let b : Fin 4 := ⟨branch.toNat, h⟩
      if (s.branches.read b).state = .disabled then respond .ok [] s
      else
        respond .ok []
          { s with
            branches := s.branches.change b fun br =>
              { br with state := .disabled, activity := .idle, spaceRun := false, markRun := false }
            stations := s.stations.each (Option.map fun st =>
              if st.branch = b then { st with lease := { st.lease with owed := 0 } } else st) }
    else respond .range [] s)

/-- WRITE STATION and REMOVE STATION. A record in use keeps its branch, address and zone; no two present records have one branch
and address. A new record, and one moved to another branch or address, has its dynamic fields as CLEAR sets them, and a
moved or removed record's poll in progress is marked, so that its reply is not taken. An authority byte above 1 is refused
RANGE (R192); that this comes before IN_USE and DUPLICATE is the model's choice (log entry 33). -/
def Obligations.StationRequestsKeepTheRecords : Prop :=
  let inUse := fun st : Station => 0 < st.held ∨ st.openRequest = true
  let orphaned := fun (s : State) (r : Fin 48) =>
    s.branches.each fun br =>
      { br with
        activity :=
          match br.activity with
          | .sending p => if p.station = r then .sending { p with stationGone := true } else .sending p
          | .listening p rx seen =>
            if p.station = r then .listening { p with stationGone := true } rx seen else .listening p rx seen
          | .idle => .idle
          | .inRound l => .inRound l
          | .quiet l => .quiet l
          | .gap a => .gap a }
  (∀ (record branch address zone ceiling authority : Byte) (s : State),
    exec (.writeStation record branch address zone ceiling authority) s = .next
      (if h : record.toNat < 48 ∧ branch.toNat < 4 ∧ zone.toNat < 16 ∧ authority.toNat < 2 ∧ 1 ≤ address.toNat ∧
          address.toNat ≤ 31 ∧ 1 ≤ ceiling.toNat ∧ ceiling.toNat ≤ 64 then
        let r : Fin 48 := ⟨record.toNat, h.1⟩
        let b : Fin 4 := ⟨branch.toNat, h.2.1⟩
        let z : Fin 16 := ⟨zone.toNat, h.2.2.1⟩
        let fresh : Station :=
          { branch := b, address := address.toNat, zone := z, ceiling := ceiling.toNat,
            authority := decide (authority.toNat = 1), link := .unknown, failures := 0, leaseState := .current,
            lease := { count := 0, owed := 0 }, held := 0, openRequest := false, answers := [], notices := [],
            resync := false, resyncCarried := false, validReplies := 0 }
        let taken := (List.finRange 48).any fun q =>
          decide (q ≠ r) && (s.stations.read q).any fun st => st.branch == b && st.address == address.toNat
        let locked := (s.stations.read r).any fun st =>
          decide ((st.branch ≠ b ∨ st.address ≠ address.toNat ∨ st.zone ≠ z) ∧ inUse st)
        if locked = true then respond .inUse [] s
        else if taken = true then respond .duplicate [] s
        else
          respond .ok []
            (match s.stations.read r with
            | none => { s with stations := s.stations.write r (some fresh) }
            | some st =>
              if st.branch = b ∧ st.address = address.toNat then
                { s with
                  stations := s.stations.write r (some
                    { st with zone := z, ceiling := fresh.ceiling, authority := fresh.authority }) }
              else { s with stations := s.stations.write r (some fresh), branches := orphaned s r })
      else respond .range [] s)) ∧
  ∀ (record : Byte) (s : State), exec (.removeStation record) s = .next
    (if h : record.toNat < 48 then
      let r : Fin 48 := ⟨record.toNat, h⟩
      match s.stations.read r with
      | none => respond .unknown [] s
      | some st =>
        if inUse st then respond .inUse [] s
        else respond .ok [] { s with stations := s.stations.write r none, branches := orphaned s r }
    else respond .range [] s)

/-- POLL in a round of a RUNNING branch in RUN, and the end of the turnoff delay. The station polled is the due one with the lowest
address above the last; the poll carries the head answer, else resync, else the head notice, else nothing, in R190's
layout with a check byte that brings the sum to 0, the address character alone with its mark bit at 1. A
character sent is a space, its data bits from the least significant, its mark bit and a mark on the line (R152). With no due station left the round gap begins. After the turnoff delay
TXEN is released and the branch listens.
Log entries 2, 9, 24 and 31 are the model's own reading here. -/
def Obligations.PollsCarryTheFirstItem : Prop :=
  let word := fun n : Nat => splitWord (BitVec.ofNat 16 n)
  let byte := fun n : Nat => BitVec.ofNat 8 n
  let item := fun i : PollItem =>
    match i with
    | .nothing => [(0 : Byte)]
    | .answer (.granted ch n existing) => [1, byte ch.val] ++ word n ++ [if existing then 1 else 0]
    | .answer (.moveTo ch n) => [2, byte ch.val] ++ word n
    | .answer (.confirmed ch n) => [3, byte ch.val] ++ word n
    | .answer (.released ch) => [4, byte ch.val]
    | .answer (.status ch n ph stale pending suspect) =>
      [5, byte ch.val] ++ word n ++
        [match ph with | .live => 1 | .next => 2 | .ending => 3, if stale then 2 else 1] ++
        word (pending.getD 65535) ++ [if suspect then 1 else 0]
    | .answer (.changedOver z) => [6, byte z.val]
    | .answer (.refused ch why) =>
      [7, ch,
        match why with
        | .profile => 1 | .window => 2 | .ceiling => 3 | .full => 4 | .busy => 5 | .noneFound => 6 | .retry => 7
        | .unknownChannel => 8 | .phase => 9 | .notMoving => 10 | .authority => 11]
    | .resync => [16]
    | .notice (.moveAdvised ch n) => [17, byte ch.val] ++ word n
    | .notice (.moveLapsed ch) => [18, byte ch.val]
    | .notice (.retired ch cause) =>
      [19, byte ch.val, match cause with | .operator => 1 | .holdExpired => 2 | .cleared => 3 | .forced => 4]
    | .notice (.phaseChanged z) => [20, byte z.val]
  let due := fun (s : State) (b : Fin 4) (last : Nat) (q : Fin 48) (st : Station) =>
    s.stations.read q = some st ∧ st.branch = b ∧ last < st.address ∧
      (st.link = .silent → (s.branches.read b).roundCount.toNat % 8 = 0)
  (∀ (b : Fin 4) (s : State),
    ((s.console.mode = .config ∨ (s.branches.read b).state ≠ .running ∨ (s.branches.read b).txen = true ∨
      ∀ last, (s.branches.read b).activity ≠ .inRound last) → exec (.poll b) s = .next s) ∧
    ∀ last, (s.branches.read b).activity = .inRound last → s.console.mode = .run → (s.branches.read b).state = .running →
      (s.branches.read b).txen = false →
      ((∀ q st, ¬due s b last q st) → exec (.poll b) s = .next
        { s with branches := s.branches.change b fun br => { br with activity := .gap true } }) ∧
      ∀ r st, due s b last r st →
        (∀ q su, due s b last q su → st.address ≤ su.address ∧ (su.address = st.address → r ≤ q)) →
        ∃ (i : PollItem) (check : Byte),
          i = (match st.answers, st.resync, st.notices with
            | a :: _, _, _ => .answer a
            | [], true, _ => .resync
            | [], false, n :: _ => .notice n.notice
            | [], false, [] => .nothing) ∧
          (let body := (if s.engine.defer then (1 : Byte) else 0) :: item i
          let frame := [byte st.address, byte body.length, 64] ++ body ++ [check]
          frame.sum = 0 ∧
          exec (.poll b) s = .next
            { s with
              branches := s.branches.change b fun br =>
                { br with
                  activity := .sending { station := r, address := st.address, item := i, stationGone := false }
                  txen := true
                  spaceRun := false
                  txFrame := frame.mapIdx fun k d => { data := d, mark := decide (k = 0) } }
              stations := s.stations.write r (some
                { st with
                  resyncCarried := decide (i = .resync)
                  notices := st.notices.mapIdx fun k n =>
                    { n with carried := decide (k = 0 ∧ i = .notice n.notice) } }) })) ∧
  (∀ c : TxChar, charLevels c.bits =
    let level := fun one : Bool => if one = true then LineLevel.mark else .space
    let bit := fun k : Nat => level (decide (c.data.toNat / 2 ^ k % 2 = 1))
    [.space, bit 0, bit 1, bit 2, bit 3, bit 4, bit 5, bit 6, bit 7, level c.mark, .mark]) ∧
  (∀ br : Branch, (sentLevels br).length = 11 * br.txFrame.length ∧
    ∀ k, ∀ c ∈ br.txFrame[k]?, ((sentLevels br).drop (11 * k)).take 11 = charLevels c.bits) ∧
  ∀ (b : Fin 4) (s : State), exec (.turnoffDelayEnd b) s = .next
    (if (s.branches.read b).txen = true then
      { s with
        branches := s.branches.change b fun br =>
          { br with
            txen := false
            spaceRun := decide (br.state = .running ∧ br.line = .space)
            activity :=
              match br.activity with
              | .sending p => .listening p [] false
              | .listening p rx seen => .listening p rx seen
              | .idle => .idle
              | .inRound l => .inRound l
              | .quiet l => .quiet l
              | .gap a => .gap a } }
    else s)

/-- A character arrives, under any of the four commands that bring one. While a reply is listened for it is judged in its place:
address, length and type, the check sum, and of its ten bits after the start bit the eight data bits, least significant
first, the mark bit and the stop bit (R152); a failure is counted at the station, which is
SILENT at the fourth, and the quiet wait begins; a valid reply makes the station PRESENT, removes the item the poll carried,
is routed to its handler, is owed to the Lease Timer, and the round goes on (R159); a refill whose last condition the handling
brings about starts in the same event (R82, log entry 11). Anywhere else it is discarded.
Log entries 7, 8, 9, 11, 20 and 24 are the model's own reading here. -/
def Obligations.RepliesAreJudgedByCharacter : Prop :=
  let known := fun (type length : Nat) =>
    (type = 65 ∧ length = 0) ∨ (type = 66 ∧ 5 ≤ length ∧ length ≤ 17) ∨ (67 ≤ type ∧ type ≤ 71 ∧ length = 1)
  let data := fun c : RxChar => BitVec.ofNat 8 (c.bits.toNat % 256)
  let bad := fun (p : Poll) (rx : List Byte) (c : RxChar) =>
    c.bits.getLsbD 9 = false ∨ (rx = [] ∧ ¬(c.bits.getLsbD 8 = true ∧ (data c).toNat = p.address + 128)) ∨
      (rx ≠ [] ∧ c.bits.getLsbD 8 = true) ∨
      (∃ head length type body, rx ++ [data c] = head :: length :: type :: body ∧
        (¬(known type.toNat length.toNat) ∨ (body.length = length.toNat + 1 ∧ (rx ++ [data c]).sum ≠ 0)))
  let whole := fun (rx : List Byte) (c : RxChar) (f : Frame) =>
    ∃ head length type body check, rx ++ [data c] = head :: length :: type :: (body ++ [check]) ∧
      body.length = length.toNat ∧
      match type.toNat, body with
      | 65, [] => f = .idle
      | 66, ch :: profile :: phase :: h1 :: h0 :: label =>
        f = .request ch profile phase (if h1 = 255 ∧ h0 = 255 then none else some (256 * h1.toNat + h0.toNat)) label
      | 67, [ch] => f = .release ch
      | 68, [ch] => f = .move ch
      | 69, [ch] => f = .confirm ch
      | 70, [ch] => f = .query ch
      | 71, [force] => f = .changeover (decide (force ≠ 0))
      | _, _ => False
  let on := fun (s : State) (b : Fin 4) (a : Activity) =>
    { s with branches := s.branches.change b fun br => { br with activity := a } }
  ∀ (b : Fin 4) (c : RxChar) (s : State), ∃ t,
    exec (.replyCharacterReceived b c) s = .next t ∧ exec (.replyAccepted b c) s = .next t ∧
    exec (.replyFailed b c) s = .next t ∧ exec (.strayCharacter b c) s = .next t ∧
    ((∀ p rx seen, (s.branches.read b).activity ≠ .listening p rx seen) → t = s) ∧
    ∀ p rx seen, (s.branches.read b).activity = .listening p rx seen →
      (rx.length ≥ 3 → ∀ length ∈ rx[1]?, ∀ type ∈ rx[2]?, known type.toNat length.toNat ∧ rx.length < length.toNat + 4) →
      (bad p rx c →
        t = on
          (if p.stationGone = true then s
          else
            { s with
              stations := s.stations.change p.station (Option.map fun st =>
                { st with
                  failures := min (st.failures + 1) 4, link := if 4 ≤ st.failures + 1 then .silent else st.link }) })
          b (.quiet p.address)) ∧
      (¬bad p rx c → (∀ f, ¬whole rx c f) → t = on s b (.listening p (rx ++ [data c]) false)) ∧
      (¬bad p rx c → ∀ f, whole rx c f →
        t =
          if p.stationGone = true then on s b (.quiet p.address)
          else
            let present : State :=
              { s with
                stations := s.stations.change p.station (Option.map fun st =>
                  let here : Station := { st with link := .present, failures := 0 }
                  match p.item with
                  | .nothing => here
                  | .answer _ => { here with answers := st.answers.tail }
                  | .resync => if st.resyncCarried = true then { here with resync := false, resyncCarried := false } else here
                  | .notice _ => { here with notices := st.notices.filter fun q => !q.carried }) }
            let handled := routeFrame p.station f present
            startRefill
              (continueRound b p.address
                { handled with
                  stations := handled.stations.change p.station (Option.map fun st =>
                    { st with validReplies := st.validReplies + 1 }) }))

/-- The waits of a branch. A reply window or a gap that ends without a start bit fails the poll; the quiet wait ends on a line at
mark and the round goes on above the address last polled, or ends and its gap begins; the gap's end advances the round
count, except after the return from FAULTED, and begins a round. With no such wait nothing happens.
Log entries 2, 8, 19, 20 and 24 are the model's own reading here. -/
def Obligations.WaitsFailThePollOrGoOn : Prop :=
  let on := fun (s : State) (b : Fin 4) (a : Activity) =>
    { s with branches := s.branches.change b fun br => { br with activity := a } }
  let failed := fun (s : State) (b : Fin 4) (p : Poll) =>
    on
      (if p.stationGone = true then s
      else
        { s with
          stations := s.stations.change p.station (Option.map fun st =>
            { st with failures := min (st.failures + 1) 4, link := if 4 ≤ st.failures + 1 then .silent else st.link }) })
      b (.quiet p.address)
  let due := fun (s : State) (b : Fin 4) (count : Byte) (last : Nat) =>
    s.stations.toList.any fun x => x.any fun st =>
      st.branch == b && decide (last < st.address) && decide (st.link ≠ .silent ∨ count.toNat % 8 = 0)
  (∀ (b : Fin 4) (s : State), exec (.replyWindowExpired b) s = .next
    (match (s.branches.read b).activity with
    | .listening p [] false => failed s b p
    | _ => s)) ∧
  (∀ (b : Fin 4) (s : State), exec (.replyGapTimeout b) s = .next
    (match (s.branches.read b).activity with
    | .listening p (_ :: _) false => failed s b p
    | _ => s)) ∧
  (∀ (b : Fin 4) (last : Nat) (s : State), continueRound b last s =
    on s b (if due s b (s.branches.read b).roundCount last then .inRound last else .gap true)) ∧
  (∀ (b : Fin 4) (s : State), exec (.quietWaitEnd b) s = .next
    (match (s.branches.read b).activity with
    | .quiet last => if (s.branches.read b).line = .mark then continueRound b last s else s
    | _ => s)) ∧
  ∀ (b : Fin 4) (s : State), exec (.roundGapEnd b) s = .next
    (match (s.branches.read b).activity with
    | .gap advances =>
      let count := (s.branches.read b).roundCount + (if advances then 1 else 0)
      { s with
        branches := s.branches.change b fun br =>
          { br with roundCount := count, activity := if due s b count 0 then .inRound 0 else .gap true } }
    | _ => s)

/-- The fault watch. A run of space under watch on a RUNNING branch makes it FAULTED, raises BRANCH_FAULT and fails a poll not yet
decided; a run of mark on a FAULTED branch returns it to RUNNING with round count 0 and, in RUN, a round gap that does not
advance it. A line transition begins or breaks the run of the branch's state, and is not looked at under TXEN.
Log entries 2, 8, 19, 20 and 31 are the model's own reading here. -/
def Obligations.FaultWatchChangesTheBranch : Prop :=
  (∀ (b : Fin 4) (s : State), exec (.branchFault b) s = .next
    (if (s.branches.read b).state = .running ∧ (s.branches.read b).spaceRun = true then
      { s with
        stations :=
          (match (s.branches.read b).activity.polled? with
          | some r => s.stations.change r (Option.map fun st =>
              { st with failures := min (st.failures + 1) 4, link := if 4 ≤ st.failures + 1 then .silent else st.link })
          | none => s.stations)
        branches := s.branches.change b fun br =>
          { br with state := .faulted, activity := .idle, spaceRun := false, markRun := false }
        console := { s.console with flags := s.console.flags ||| 0x20 } }
    else s)) ∧
  (∀ (b : Fin 4) (s : State), exec (.branchFaultRecovery b) s = .next
    (if (s.branches.read b).state = .faulted ∧ (s.branches.read b).markRun = true then
      { s with
        branches := s.branches.change b fun br =>
          { br with
            state := .running, roundCount := 0, markRun := false,
            activity := if s.console.mode = .run then .gap false else .idle } }
    else s)) ∧
  ∀ (b : Fin 4) (level : LineLevel) (s : State), exec (.lineTransition b level) s = .next
    { s with
      branches := s.branches.change b fun br =>
        if br.line = level then br
        else if br.txen = true then { br with line := level }
        else
          match br.state with
          | .disabled => { br with line := level }
          | .faulted => { br with line := level, markRun := decide (level = .mark) }
          | .running =>
            { br with
              line := level
              spaceRun := decide (level = .space)
              activity :=
                match br.activity with
                | .listening p rx seen => .listening p rx (seen || decide (level = .space))
                | .idle => .idle
                | .inRound l => .inRound l
                | .sending p => .sending p
                | .quiet l => .quiet l
                | .gap a => .gap a } }

/-- A REQUEST frame of a present station is answered by the first check that applies, checks 1 to 4 in R70's order and 5 to 8 in
R71's, or by R71's check 9 waits in the queue behind every other entry with the station's open-request flag set; a channel above 63 is REFUSED UNKNOWN_CHANNEL with that
channel. For a channel that owns a slot the answer is GRANTED with the marker of an existing grant, or REFUSED PHASE. -/
def Obligations.RequestFramesAreCheckedInOrder : Prop :=
  ∀ (r : Fin 48) (st : Station) (ch profile phase : Byte) (hint : Option Nat) (label : List Byte) (s : State),
    s.stations.read r = some st →
    let answered := fun a : Answer => { s with stations := s.stations.write r (some { st with answers := st.answers ++ [a] }) }
    routeFrame r (.request ch profile phase hint label) s =
      if hc : ch.toNat < 64 then
        let c : Fin 64 := ⟨ch.toNat, hc⟩
        if hp : profile.toNat < 16 then
          let p : Fin 16 := ⟨profile.toNat, hp⟩
          let pr := s.plan.profiles.read p
          if pr.defined = false then answered (.refused ch .profile)
          else if st.openRequest = true then answered (.refused ch .busy)
          else
            match (List.finRange 384).findSome? fun i =>
                match s.slots.read i with
                | .owned o => if o.station = r ∧ o.channel = c then some o else none
                | .free => none
                | .pinned _ => none
                | .spare _ => none with
            | some o =>
              if phase = (match o.phase with | .live => (1 : Byte) | .next => 2 | .ending => 3) then
                answered (.granted c o.frequency true)
              else answered (.refused ch .phase)
            | none =>
              if phase ≠ 1 ∧ phase ≠ 2 then answered (.refused ch .phase)
              else if st.ceiling ≤ st.held then answered (.refused ch .ceiling)
              else if (formWalk s p st.zone none).count = 0 then answered (.refused ch .window)
              else if s.slots.toList.all (fun x => !x.isFree) = true then answered (.refused ch .full)
              else if 24 ≤ s.engine.queue.length then answered (.refused ch .busy)
              else
                { s with
                  engine :=
                    { s.engine with
                      queue :=
                        s.engine.queue ++
                          [.request
                            { station := r, channel := c, profile := p, phase := if phase = 1 then .live else .next,
                              hint := hint, label := label }]
                      defer := s.engine.defer || decide (s.engine.upper ≤ s.engine.queue.length + 1) }
                  console :=
                    { s.console with
                      flags :=
                        if s.engine.defer = false ∧ s.engine.upper ≤ s.engine.queue.length + 1 then
                          s.console.flags ||| 0x80
                        else s.console.flags }
                  stations := s.stations.write r (some { st with openRequest := true }) }
        else answered (.refused ch .profile)
      else answered (.refused ch .unknownChannel)

/-- The other frames of a present station, for a channel that owns one slot. RELEASE retires the slot and answers RELEASED; QUERY
answers STATUS; MOVE answers the pending index, or with none (or a suspect one, which is dropped) hands over the head
spare of the zone if it is held under the profile, or joins the queue; CONFIRM moves the slot to its pending index,
evaluates its suspect field afresh and withdraws the channel's advice, or is REFUSED NOT_MOVING. A channel that owns none is
REFUSED UNKNOWN_CHANNEL. CHANGEOVER needs the authority flag.
Log entries 10 and 32 are the model's own reading here. -/
def Obligations.SlotFramesAreAnswered : Prop :=
  let answered := fun (t : State) (r : Fin 48) (a : Answer) =>
    { t with stations := t.stations.change r (Option.map fun st => { st with answers := st.answers ++ [a] }) }
  let waits := fun (t : State) (r : Fin 48) (w : Work) =>
    { t with
      engine :=
        { t.engine with
          queue :=
            t.engine.queue.takeWhile (fun x => decide (x.rank ≤ 1)) ++
              w :: t.engine.queue.dropWhile (fun x => decide (x.rank ≤ 1))
          defer := t.engine.defer || decide (t.engine.upper ≤ t.engine.queue.length + 1) }
      console :=
        { t.console with
          flags :=
            if t.engine.defer = false ∧ t.engine.upper ≤ t.engine.queue.length + 1 then t.console.flags ||| 0x80
            else t.console.flags }
      stations := t.stations.change r (Option.map fun st => { st with openRequest := true }) }
  (∀ (r : Fin 48) (ch : Byte) (f : Frame) (s : State), f = .release ch ∨ f = .move ch ∨ f = .confirm ch ∨ f = .query ch →
    (∀ i o, s.slots.read i = .owned o → o.station = r → o.channel.val ≠ ch.toNat) →
    routeFrame r f s = answered s r (.refused ch .unknownChannel)) ∧
  (∀ (r : Fin 48) (st : Station) (i : Fin 384) (o : Owned) (s : State), s.stations.read r = some st →
    s.slots.read i = .owned o → o.station = r →
    (∀ j, (s.slots.read j).ownedBy r o.channel = true → j = i) →
    let ch : Byte := BitVec.ofNat 8 o.channel.val
    let onward := fun t : State =>
      match (s.zones.read o.zone).spares with
      | j :: _ =>
        match s.slots.read j with
        | .spare sp =>
          if sp.profile = o.profile then
            let freed := retireSlot none j t
            answered
              { freed with
                slots := freed.slots.write i (.owned
                  { o with
                    move := some
                      { pending := sp.frequency, counter := { count := s.timing.moveTime, owed := 0 } } }) }
              r (.moveTo o.channel sp.frequency)
          else if 24 ≤ s.engine.queue.length then answered t r (.refused ch .busy)
          else waits t r (.move { station := r, channel := o.channel, slot := i, profile := o.profile, zone := o.zone })
        | _ =>
          if 24 ≤ s.engine.queue.length then answered t r (.refused ch .busy)
          else waits t r (.move { station := r, channel := o.channel, slot := i, profile := o.profile, zone := o.zone })
      | [] =>
        if 24 ≤ s.engine.queue.length then answered t r (.refused ch .busy)
        else waits t r (.move { station := r, channel := o.channel, slot := i, profile := o.profile, zone := o.zone })
    routeFrame r (.release ch) s = answered (retireSlot none i s) r (.released o.channel) ∧
    routeFrame r (.query ch) s = answered s r
      (.status o.channel o.frequency o.phase (decide (o.state ≠ .active)) (o.move.map MoveWindow.pending)
        o.suspect.isSome) ∧
    routeFrame r (.move ch) s =
      (if st.openRequest = true then answered s r (.refused ch .busy)
      else
        match o.move with
        | none => onward s
        | some w =>
          if (∃ x ∈ o.suspect, ((w.pending : Int) - x).natAbs < s.plan.fg) then
            onward
              { s with
                slots := s.slots.write i (.owned { o with move := none })
                engine := { s.engine with barred := Table.filled 16 false } }
          else answered s r (.moveTo o.channel w.pending)) ∧
    routeFrame r (.confirm ch) s =
      (match o.move with
      | none => answered s r (.refused ch .notMoving)
      | some w =>
        let source := nearestForeign s w.pending none
        answered
          { s with
            slots := s.slots.write i (.owned { o with frequency := w.pending, move := none, suspect := source })
            engine := { s.engine with barred := Table.filled 16 false }
            stations := s.stations.change r (Option.map fun x =>
              let withdrawn : Station :=
                { x with
                  notices := x.notices.filter fun q =>
                    match q.notice with
                    | .moveAdvised c _ => decide (c ≠ o.channel)
                    | .moveLapsed _ => true
                    | .retired _ _ => true
                    | .phaseChanged _ => true }
              match source with
              | none => withdrawn
              | some n => withdrawn.takeNotice (.moveAdvised o.channel n)) }
          r (.confirmed o.channel w.pending))) ∧
  (∀ (r : Fin 48) (s : State), routeFrame r .idle s = s) ∧
  ∀ (r : Fin 48) (st : Station) (force : Bool) (s : State), s.stations.read r = some st →
    routeFrame r (.changeover force) s =
      if st.authority = false then answered s r (.refused 255 .authority)
      else
        match changeoverZone st.zone force s with
        | none => answered s r (.refused 255 .busy)
        | some done => answered done.1 r (.changedOver st.zone)

/-- A notice joins its station's queue. One of its kind and channel (of its kind and zone) already there is replaced in its place,
and is no longer the one that a poll carries if it has other fields; with 8 notices queued the queue is emptied and resync
is set anew; otherwise it joins at the tail. No other station and nothing else changes.
Log entry 9 is the model's own reading here. -/
def Obligations.NoticesCoalesceOverflowOrJoin : Prop :=
  ∀ (r : Fin 48) (n : Notice) (s : State),
    let same := fun q : QueuedNotice =>
      match n, q.notice with
      | .moveAdvised c _, .moveAdvised d _ => decide (c = d)
      | .moveLapsed c, .moveLapsed d => decide (c = d)
      | .retired c _, .retired d _ => decide (c = d)
      | .phaseChanged y, .phaseChanged z => decide (y = z)
      | _, _ => false
    let plain := match n with
      | .moveAdvised _ _ => false
      | .retired _ _ => false
      | .moveLapsed _ => true
      | .phaseChanged _ => true
    giveNotice r n s =
      match s.stations.read r with
      | none => s
      | some st =>
        { s with
          stations := s.stations.write r (some
            (if st.notices.any same then
              { st with
                notices := st.notices.map fun q =>
                  if same q = true then { notice := n, carried := q.carried && plain } else q }
            else if 8 ≤ st.notices.length then { st with notices := [], resync := true, resyncCarried := false }
            else { st with notices := st.notices ++ [{ notice := n, carried := false }] })) }

/-! ## The console port (R92 to R94, R172 to R186) -/

/-- START, STOP and CLEAR. START in CONFIG is RUN with round count 0 and a round on each RUNNING branch, after which queued work is
taken as by ENGINE_TAKE; in RUN it changes nothing. STOP in RUN abandons all engine work, with ABANDONED for the console's,
stops the tick and the polling; in CONFIG it changes nothing. CLEAR does that and empties the tables, in either mode.
Log entries 13, 26 and 36 are the model's own reading here. -/
def Obligations.ModeRequestsStartStopAndClear : Prop :=
  let abandoned := fun s : State =>
    let console := openHostKinds s.engine
    { s with
      engine := { s.engine with queue := [], foreground := none, background := none, defer := false }
      stations := (openStations s.engine).foldl
        (fun t r => t.change r (Option.map fun st => { st with openRequest := false })) s.stations
      console :=
        { s.console with
          openRequest := if console = [] then s.console.openRequest else false
          result :=
            { number := s.console.result.number + BitVec.ofNat 8 console.length
              entry := match console.getLast? with
                | some k => some (k, .abandoned)
                | none => s.console.result.entry }
          flags := if console = [] then s.console.flags else s.console.flags ||| 0x01 } }
  let still := fun c : TickCounter => { c with owed := 0 }
  let stopped := fun s : State =>
    { abandoned s with
      slots := s.slots.each fun x =>
        match x with
        | .owned o =>
          .owned
            { o with
              state := match o.state with | .active => .active | .stale h => .stale (h.map still)
              move := o.move.map fun w => { w with counter := still w.counter } }
        | .free => .free
        | .pinned p => .pinned p
        | .spare r => .spare r
      zones := s.zones.each fun z => { z with clearing := z.clearing.map still }
      stations := (abandoned s).stations.each (Option.map fun st => { st with lease := still st.lease })
      branches := s.branches.each fun br => { br with activity := .idle }
      console := { (abandoned s).console with mode := .config } }
  let cleared := fun s : State =>
    { s with
      slots := Table.filled 384 .free
      zones := Table.filled 16 { clearing := none, spares := [] }
      stations := s.stations.each (Option.map fun st =>
        { st with
          link := .unknown, failures := 0, leaseState := .current, lease := { count := 0, owed := 0 }, held := 0,
          openRequest := false, answers := [], notices := [], resync := false, resyncCarried := false,
          validReplies := 0 })
      engine := { s.engine with barred := Table.filled 16 false }
      sweep := { s.sweep with foreign := [] } }
  (∀ s : State,
    (s.console.mode = .run → exec .start s = .next (respond .ok [] s)) ∧
    (s.console.mode = .config → ∃ (branches : Table Branch 4) (t : State),
      (∀ b, branches.read b =
        if (s.branches.read b).state = .running then
          { s.branches.read b with
            roundCount := 0
            activity :=
              if s.stations.toList.any (fun x => x.any fun st => st.branch == b && decide (0 < st.address)) then .inRound 0
              else .gap true }
        else s.branches.read b) ∧
      exec .engineTake { s with branches := branches, console := { s.console with mode := .run } } = .next t ∧
      exec .start s = .next (respond .ok [] t))) ∧
  (∀ s : State, exec .stop s = .next (respond .ok [] (if s.console.mode = .run then stopped s else s))) ∧
  ∀ s : State, exec .clear s = .next
    (respond .ok [] (cleared (if s.console.mode = .run then stopped s else abandoned s)))

/-- READ ATTENTION returns the flags and the mask and clears the flags; WRITE MASK sets the mask alone; ATTN is driven low exactly
while a flag is set whose mask bit is 0. A flag that is set stays set through every command but READ ATTENTION and a
hardware reset, and the mask changes by WRITE MASK and a reset alone. -/
def Obligations.AttentionFlagsStayUntilTheyAreRead : Prop :=
  (∀ s : State, exec .readAttention s = .next
    (respond .ok [s.console.flags, s.console.mask] { s with console := { s.console with flags := 0 } })) ∧
  (∀ (mask : Byte) (s : State), exec (.writeMask mask) s = .next
    (respond .ok [] { s with console := { s.console with mask := mask } })) ∧
  (∀ s : State, attnLow s = true ↔ ∃ k < 8, s.console.flags.getLsbD k = true ∧ s.console.mask.getLsbD k = false) ∧
  ∀ (c : Instr) (s t : State), exec c s = .next t → c ≠ .hardwareReset →
    (c ≠ .readAttention → ∀ k, s.console.flags.getLsbD k = true → t.console.flags.getLsbD k = true) ∧
    ((∀ mask, c ≠ .writeMask mask) → t.console.mask = s.console.mask)

/-- A frame whose request code is unknown is answered UNKNOWN and one released early is not answered; neither changes anything. A
request that can be sent is answered OK with its data, or with another status and no data, and then it has changed
nothing else; every byte clocked out beyond the response reads 0, for a refused request every byte after its status. An
event other than a hardware reset gives no response.
Log entries 6 and 21 are the model's own reading here. -/
def Obligations.DeniedRequestsChangeNothing : Prop :=
  (∀ (code : Byte) (s : State), exec (.unknownRequestCode code) s = .next
    (if (Instr.unknownRequestCode code).wellFormed then respond .unknown [] s else s)) ∧
  (∀ (received : List Byte) (s : State), exec (.chipSelectReleasedEarly received) s = .next
    { s with console := { s.console with response := [] } }) ∧
  (∀ (s : State) (k : Nat), s.console.response = [] → clockedOut s k = none) ∧
  ∀ (c : Instr) (s t : State), c.wellFormed = true → exec c s = .next t →
    match encodeFrame c with
    | some _ =>
      (∃ received, c = .chipSelectReleasedEarly received) ∨
        (∃ data, t.console.response = 0 :: data ∧ clockedOut t 0 = some 0 ∧
          (∀ k, ∀ d ∈ data[k]?, clockedOut t (k + 1) = some d) ∧ ∀ k > data.length, clockedOut t k = some 0) ∨
        ∃ x, x ≠ .ok ∧ t = respond x [] s ∧ clockedOut t 0 = some (statusCode x) ∧ ∀ k > 0, clockedOut t k = some 0
    | none => c = .hardwareReset ∨ t.console.response = s.console.response

/-- What changes the plan, the mode and the constraint epoch. The plan changes by plan writes and the hardware reset alone, the
mode by START, STOP, CLEAR and the reset, and the epoch, by one at a time and from 65535 to 0, by a tightening plan write, a
pin, a recorded completion and a confirmation. The moved mark of every search that holds an e0 is then set, but for a refill
that begins in the same event with the new epoch as its e0 (R82, log entry 11): no refill was held before, or the held one was
recorded by this completion or stood for the zone that this WRITE ZONE writes. -/
def Obligations.PlanModeAndEpochChangeByTheirOwnEvents : Prop :=
  ∀ (c : Instr) (s t : State), exec c s = .next t → c ≠ .hardwareReset →
    (t.plan ≠ s.plan →
      (∃ p st l h sp cc a b, c = .writeProfile p st l h sp cc a b) ∨
      (∃ p l h sp cc a b, c = .writeProfileUndefined p l h sp cc a b) ∨ (∃ z l h d p ct, c = .writeZone z l h d p ct) ∨
      (∃ a b v, c = .writeCoupling a b v) ∨ (∃ l h, c = .addExclusion l h) ∨ (∃ l h, c = .removeExclusion l h) ∨
      ∃ g fg, c = .writeGuards g fg) ∧
    (t.console.mode ≠ s.console.mode → c = .start ∨ c = .stop ∨ c = .clear) ∧
    (t.epoch = s.epoch ∨ t.epoch = s.epoch + 1) ∧
    (t.epoch ≠ s.epoch →
      (∃ z l h d p ct, c = .writeZone z l h d p ct) ∨ (∃ a b v, c = .writeCoupling a b v) ∨
      (∃ l h, c = .addExclusion l h) ∨ (∃ g fg, c = .writeGuards g fg) ∨ (∃ i p z k l, c = .pin i p z k l) ∨
      c = .searchCompletion ∨ c = .checkedPinCompletion ∨ ∃ a b d, c = .conversionComplete a b d) ∧
    (t.epoch ≠ s.epoch → ∀ x, holdsContext t.engine x → x.moved = true ∨
      (t.engine.foreground = none ∧ x.e0 = t.epoch ∧ x.research = 0 ∧ x.walk.cursor = 0 ∧ x.stage = .walking ∧
        ∀ b, s.engine.background = some b → (c = .searchCompletion ∧ s.engine.foreground = none) ∨
          ∃ z l h d p ct, c = .writeZone z l h d p ct ∧ z.toNat = b.zone.val))

/-! ## What every step keeps -/

/-- Every step keeps the limits of the tables: the queue of at most 24 entries in its classes' order, at most 32 bands and 32
foreign entries, at most 8 notices a station with no two of one key, at most 4 failures, and no two present records at one
branch and address. -/
def Obligations.TablesStayWithinTheirLimits : Prop :=
  ∀ s t : State, Limits s → step s = .next t → Limits t

/-- Every step keeps a sound plan, and keeps the settings outside the plan in their ranges with DEFER between its
thresholds. -/
def Obligations.PlanAndSettingsStaySound : Prop :=
  (∀ s t : State, PlanSound s.plan → step s = .next t → PlanSound t.plan) ∧
    ∀ s t : State, SettingsSound s → step s = .next t → SettingsSound t

/-- Every step keeps every record, counter and piece of work within the ranges of its fields. -/
def Obligations.RecordsStayInTheirRanges : Prop :=
  ∀ s t : State, RecordsInRange s → step s = .next t → RecordsInRange t

/-- Every step keeps a zone CLEARING exactly while it has an ENDING slot. -/
def Obligations.ZonesClearWhileSlotsEnd : Prop :=
  ∀ s t : State, ClearingSound s → step s = .next t → ClearingSound t

/-- Every step keeps the foreign list in ascending order of index, and keeps the source of every suspect field a CONFIRMED
entry of it. -/
def Obligations.SuspectSourcesStayConfirmed : Prop :=
  ∀ s t : State, SuspectSound s → step s = .next t → SuspectSound t

/-- Every step keeps each spare list the SPARE slots of its zone, once each, within its depth and under its profile, and a refill
only for a zone that wants one. -/
def Obligations.SpareListsHoldTheSpareSlots : Prop :=
  ∀ s t : State, SparesSound s → step s = .next t → SparesSound t

/-- Every step keeps one slot for each owner, held counts that count them, and one open request for each station and the
console. -/
def Obligations.OwnersHoldOneSlotEach : Prop :=
  ∀ s t : State, OwnersSound s → step s = .next t → OwnersSound t

/-- Every step keeps the answer queues within 2, with room for the answer of every open request, while no poll is in progress but
on a RUNNING branch in RUN. -/
def Obligations.AnswerQueuesKeepRoom : Prop :=
  ∀ s t : State, AnswersSound s → step s = .next t → AnswersSound t

/-- Every step keeps an owned slot ACTIVE exactly while its owner's lease is CURRENT. -/
def Obligations.SlotsAreActiveWhileLeasesAreCurrent : Prop :=
  ∀ s t : State, LeaseSound s → step s = .next t → LeaseSound t

/-- Every step keeps the mode and the branches as they agree: polling only in RUN on a RUNNING branch, TXEN as the poll has it,
watched runs only where the state allows, and in CONFIG no refill and no station's work. -/
def Obligations.BranchesFollowTheMode : Prop :=
  ∀ s t : State, ModeSound s → step s = .next t → ModeSound t

/-- Every step leaves no refill owed: while its conditions hold, no unbarred zone wants a spare with the background empty.
Log entry 11 is the model's own reading here. -/
def Obligations.NoRefillIsLeftOwed : Prop :=
  ∀ s t : State, RefillsStarted s → step s = .next t → RefillsStarted t

/-- Every step keeps the ground that recording rests on: a found candidate whose search has seen no advance of the epoch passes
T1 to T6 against the tables as they stand. -/
def Obligations.FoundCandidatesKeepPassing : Prop :=
  ∀ s t : State, PassingSound s → step s = .next t → PassingSound t

/-! ## What the kept facts give -/

/-- Every index that the engine records, as grant, spare, move target or checked pin, passes tests T1 to T6 against the tables
as they stand at the moment it is recorded, a move target with its slot's own carriers left out. -/
def Obligations.RecordedIndexPasses : Prop :=
  ∀ (c : Instr) (s t : State) (i : Fin 384), PassingSound s → exec c s = .next t →
    (∀ n, s.slots.read i = .free → t.slots.read i = .owned n → evaluate s n.profile n.zone none n.frequency = none) ∧
    (∀ n, s.slots.read i = .free → t.slots.read i = .spare n → evaluate s n.profile n.zone none n.frequency = none) ∧
    (∀ n, c = .checkedPinCompletion → s.slots.read i = .free → t.slots.read i = .pinned n →
      evaluate s n.profile n.zone none n.frequency = none) ∧
    ∀ o n w, c = .searchCompletion → s.slots.read i = .owned o → t.slots.read i = .owned n → n.move = some w →
      o.move ≠ n.move → evaluate s o.profile o.zone (some i) w.pending = none
end

