-- ==== Sys2Proof/Laws/State.lean ====
section
/-! SUPPORT. Reading tables after a write, and one lemma for each part of the state that a basic update sets. What an update
leaves alone stands in Sys2Proof/Laws/Frames.lean. -/

namespace Sys2Proof

/-! ## Tables -/

/-- A record of a table is an element of its vector. -/
theorem Table.read_eq {α : Type} {n : Nat} (t : Table α n) (i : Fin n) : t.read i = t[i.val] := rfl

/-- A record reads as the last one written to its number. -/
theorem Table.read_write {α : Type} {n : Nat} (t : Table α n) (i j : Fin n) (x : α) :
    (t.write i x).read j = if i = j then x else t.read j := by
  simp only [Table.write, Table.read_eq, Vector.getElem_set]
  simp [Fin.ext_iff]

/-- The written record reads as written. -/
@[simp] theorem Table.read_write_self {α : Type} {n : Nat} (t : Table α n) (i : Fin n) (x : α) :
    (t.write i x).read i = x := by
  simp [Table.read_write]

/-- A write leaves every other record alone. -/
theorem Table.read_write_of_ne {α : Type} {n : Nat} (t : Table α n) {i j : Fin n} (h : i ≠ j) (x : α) :
    (t.write i x).read j = t.read j := by
  simp [Table.read_write, h]

/-- A changed record reads as changed, every other as before. -/
theorem Table.read_change {α : Type} {n : Nat} (t : Table α n) (i j : Fin n) (f : α → α) :
    (t.change i f).read j = if i = j then f (t.read j) else t.read j := by
  unfold Table.change
  rw [Table.read_write]
  split
  · rename_i h
    rw [h]
  · rfl

/-- Every record of a table changed throughout reads as changed. -/
@[simp] theorem Table.read_each {α : Type} {n : Nat} (t : Table α n) (j : Fin n) (f : α → α) :
    (t.each f).read j = f (t.read j) := by
  simp [Table.each, Table.read_eq]

/-- Every record of a filled table reads as the filling. -/
@[simp] theorem Table.read_filled {α : Type} {n : Nat} (x : α) (j : Fin n) : (Table.filled n x).read j = x := by
  simp [Table.filled, Table.read_eq]

/-- The entries of a table are its records in ascending order of number. -/
theorem Table.entries_eq {α : Type} {n : Nat} (t : Table α n) :
    t.entries = (List.finRange n).map fun i => (i, t.read i) := by
  unfold Table.entries Table.read
  apply List.ext_getElem
  · simp
  · intro k h1 h2
    simp [Vector.get]

/-- The records of a table as a list. -/
theorem Table.toList_eq {α : Type} {n : Nat} (t : Table α n) : t.toList = (List.finRange n).map t.read := by
  unfold Table.read
  apply List.ext_getElem
  · simp
  · intro k h1 h2
    simp [Vector.get]

/-- A number is among those with a property exactly when its record has it. -/
@[simp] theorem Table.mem_numbersWith {α : Type} {n : Nat} (t : Table α n) (p : α → Bool) (i : Fin n) :
    i ∈ t.numbersWith p ↔ p (t.read i) = true := by
  unfold Table.numbersWith
  rw [Table.entries_eq]
  simp only [List.mem_filterMap, List.mem_map, List.mem_finRange, true_and]
  constructor
  · rintro ⟨_, ⟨j, rfl⟩, h⟩
    split at h
    · cases h
      assumption
    · cases h
  · intro h
    exact ⟨_, ⟨i, rfl⟩, by simp [h]⟩

/-- The lowest number with a property has it. -/
theorem Table.lowestWith_some {α : Type} {n : Nat} {t : Table α n} {p : α → Bool} {i : Fin n}
    (h : t.lowestWith p = some i) : p (t.read i) = true := by
  unfold Table.lowestWith at h
  rw [Table.entries_eq] at h
  cases e : ((List.finRange n).map fun i => (i, t.read i)).find? fun e => p e.2 with
  | none => simp [e] at h
  | some x =>
    simp only [e, Option.map_some, Option.some.injEq] at h
    have h1 := List.find?_some e
    have h2 := List.mem_of_find?_eq_some e
    simp only [List.mem_map, List.mem_finRange, true_and] at h2
    obtain ⟨j, rfl⟩ := h2
    simpa [← h] using h1

/-- There is no lowest number with a property exactly when no record has it. -/
theorem Table.lowestWith_none {α : Type} {n : Nat} (t : Table α n) (p : α → Bool) :
    t.lowestWith p = none ↔ ∀ i, p (t.read i) = false := by
  unfold Table.lowestWith
  rw [Table.entries_eq]
  simp

/-- The count of a property is the length of the list of numbers that have it. -/
theorem Table.countWith_eq {α : Type} {n : Nat} (t : Table α n) (p : α → Bool) :
    t.countWith p = (List.finRange n).countP fun i => p (t.read i) := by
  unfold Table.countWith
  rw [Table.toList_eq, List.countP_map]
  rfl

namespace Machine

/-! ## The parts that the basic updates set -/

/-- A replaced slot. -/
@[simp] theorem setSlot_slots (i : Fin 384) (x : Slot) (s : State) : (setSlot i x s).slots = s.slots.write i x := rfl

/-- A changed station record. -/
@[simp] theorem changeStation_stations (r : Fin 48) (f : Station → Station) (s : State) :
    (changeStation r f s).stations = s.stations.change r (Option.map f) := rfl

/-- A changed branch. -/
@[simp] theorem changeBranch_branches (b : Fin 4) (f : Branch → Branch) (s : State) :
    (changeBranch b f s).branches = s.branches.change b f := rfl

/-- A changed zone. -/
@[simp] theorem changeZone_zones (z : Fin 16) (f : ZoneState → ZoneState) (s : State) :
    (changeZone z f s).zones = s.zones.change z f := rfl

/-- A replaced station record. -/
@[simp] theorem setStation_stations (r : Fin 48) (x : Option Station) (s : State) :
    (setStation r x s).stations = s.stations.write r x := rfl

/-- A replaced activity. -/
@[simp] theorem setActivity_branches (b : Fin 4) (a : Activity) (s : State) :
    (setActivity b a s).branches = s.branches.change b fun br => { br with activity := a } := rfl

/-- An attention flag raised. -/
@[simp] theorem raise_flags (a : Attention) (s : State) :
    (raise a s).console.flags = s.console.flags ||| attentionBit a := rfl

/-- The epoch advanced. -/
@[simp] theorem advanceEpoch_epoch (s : State) : (advanceEpoch s).epoch = s.epoch + 1 := rfl

/-- The foreground's moved mark after an advance. -/
@[simp] theorem advanceEpoch_foreground (s : State) :
    (advanceEpoch s).engine.foreground = s.engine.foreground.map Foreground.marked := rfl

/-- The background's moved mark after an advance. -/
@[simp] theorem advanceEpoch_background (s : State) :
    (advanceEpoch s).engine.background = s.engine.background.map fun b => { b with context := b.context.marked } := rfl

/-- The barred set emptied. -/
@[simp] theorem emptyBarred_barred (s : State) : (emptyBarred s).engine.barred = Table.filled 16 false := rfl

/-- A zone barred. -/
@[simp] theorem barZone_barred (z : Fin 16) (s : State) :
    (barZone z s).engine.barred = s.engine.barred.write z true := rfl

/-- The foreground left. -/
@[simp] theorem leaveForeground_foreground (s : State) : (leaveForeground s).engine.foreground = none := rfl

/-- The background left. -/
@[simp] theorem leaveBackground_background (s : State) : (leaveBackground s).engine.background = none := rfl

/-- A response given. -/
@[simp] theorem respond_response (x : Status) (data : List Byte) (s : State) :
    (respond x data s).console.response = statusCode x :: data := rfl

/-- The bytes clocked out after a response is given. -/
@[simp] theorem respond_clockedOut (x : Status) (data : List Byte) (s : State) (k : Nat) :
    clockedOut (respond x data s) k = some ((statusCode x :: data).getD k 0) := rfl

/-- After the status of a refused request every byte reads 0. -/
theorem respond_clockedOut_refused (x : Status) (s : State) (k : Nat) :
    clockedOut (respond x [] s) (k + 1) = some 0 := by simp

/-- The bits of a character sent: its data bits, its mark bit, the stop bit at mark (R152). -/
theorem bits_getLsbD (c : TxChar) (k : Nat) :
    c.bits.getLsbD k = if k < 8 then c.data.getLsbD k else if k = 8 then c.mark else decide (k = 9) := by
  unfold TxChar.bits
  rw [BitVec.getLsbD_append, BitVec.getLsbD_append]
  by_cases h : k < 8
  · rw [if_pos h, if_pos h]
  · rw [if_neg h, if_neg h]
    by_cases h8 : k = 8
    · subst h8
      simp
    · rw [if_neg (by omega), if_neg h8, BitVec.getLsbD_one]
      exact Bool.eq_iff_iff.mpr (by simp; omega)

/-- The eleven levels of a character on the line (R152). -/
theorem charLevels_sent (c : TxChar) :
    charLevels c.bits =
      .space :: ((List.range 8).map fun k => levelOf (c.data.getLsbD k)) ++ [levelOf c.mark, .mark] := by
  simp only [charLevels, bits_getLsbD]
  rfl

/-- A character sent is received with its data and its mark bit, and not garbled. -/
theorem received_sent (c : TxChar) :
    RxChar.data ⟨c.bits⟩ = c.data ∧ RxChar.mark ⟨c.bits⟩ = c.mark ∧ RxChar.garbled ⟨c.bits⟩ = false := by
  refine ⟨?_, by simp only [RxChar.mark, bits_getLsbD]; rfl, by simp only [RxChar.garbled, bits_getLsbD]; rfl⟩
  apply BitVec.eq_of_getLsbD_eq
  intro k hk
  simp only [RxChar.data, BitVec.getLsbD_extractLsb', bits_getLsbD, Nat.zero_add, if_pos hk, decide_eq_true hk,
    Bool.true_and]

/-- The mark bits of a frame: the first character's alone is 1. -/
theorem frameChars_mark (bytes : List Byte) (k : Nat) (c : TxChar) (h : (frameChars bytes)[k]? = some c) :
    c.mark = decide (k = 0) := by
  cases bytes with
  | nil => simp [frameChars] at h
  | cons a rest =>
    cases k with
    | zero => simp [frameChars] at h; simp [← h]
    | succ k => simp [frameChars] at h; obtain ⟨_, _, rfl⟩ := h; rfl

/-- The data values of a frame's characters. -/
@[simp] theorem frameChars_data (bytes : List Byte) : (frameChars bytes).map TxChar.data = bytes := by
  cases bytes <;> simp [frameChars, Function.comp_def]

/-- The tune lines rest outside TUNING. -/
theorem tuneLines_rest (half : Nat) (s : State) (h : ∀ w, s.sweep.activity ≠ some (.tuning w)) :
    tuneLines half s = tuneRest := by
  unfold tuneLines
  split
  · exact absurd ‹_› (h _)
  all_goals rfl

/-- The foreign list replaced. -/
@[simp] theorem setForeign_foreign (l : List ForeignEntry) (s : State) : (setForeign l s).sweep.foreign = l := rfl

/-- The mode replaced. -/
@[simp] theorem setMode_mode (m : Mode) (s : State) : (setMode m s).console.mode = m := rfl

/-- The flags cleared. -/
@[simp] theorem clearFlags_flags (s : State) : (clearFlags s).console.flags = 0 := rfl

/-- A free value shown. -/
@[simp] theorem showFree_freeUsed (s : State) : (showFree s).freeUsed = s.freeUsed + 1 := rfl

/-- A loaded counter's count. -/
@[simp] theorem loaded_count (n : Nat) : (loaded n).count = n := rfl

/-- A loaded counter has no tick owed. -/
@[simp] theorem loaded_owed (n : Nat) : (loaded n).owed = 0 := rfl

/-- The queue replaced. -/
@[simp] theorem withPending_pending (s : State) (cs : List Instr) : (s.withPending cs).pending = cs := rfl

/-- Replacing the queue changes nothing else. -/
@[simp] theorem withPending_frame (s : State) (cs : List Instr) :
    (s.withPending cs).plan = s.plan ∧ (s.withPending cs).slots = s.slots ∧ (s.withPending cs).epoch = s.epoch ∧
      (s.withPending cs).engine = s.engine ∧ (s.withPending cs).timing = s.timing ∧
      (s.withPending cs).zones = s.zones ∧ (s.withPending cs).stations = s.stations ∧
      (s.withPending cs).branches = s.branches ∧ (s.withPending cs).sweep = s.sweep ∧
      (s.withPending cs).console = s.console ∧ (s.withPending cs).freeUsed = s.freeUsed :=
  ⟨rfl, rfl, rfl, rfl, rfl, rfl, rfl, rfl, rfl, rfl, rfl⟩

end Machine

end Sys2Proof
end

