-- ==== Sys2Proof/Laws/Compat.lean ====
section
/-! SUPPORT. What the evaluation of an index reads: the carriers of a state as a set and their order, the first item that a
test stops at, and the six tests as predicates. -/

namespace Sys2Proof.Machine

/-! ## The carriers (R29, R51, R53) -/

/-- The elements of one slot. -/
theorem mem_slotCarriers (i : Fin 384) (x : Slot) (c : Carrier) :
    c ∈ slotCarriers i x ↔
      c.slot = i ∧
        match x with
        | .free => False
        | .owned o =>
          c.zone = o.zone ∧ c.profile = o.profile ∧
            (if c.isPending then ∃ w, o.move = some w ∧ c.index = w.pending else c.index = o.frequency)
        | .pinned p => c.zone = p.zone ∧ c.profile = p.profile ∧ c.isPending = false ∧ c.index = p.frequency
        | .spare r => c.zone = r.zone ∧ c.profile = r.profile ∧ c.isPending = false ∧ c.index = r.frequency := by
  obtain ⟨n, j, b, z, p⟩ := c
  cases x with
  | free => simp [slotCarriers]
  | pinned q => simp [slotCarriers]; tauto
  | spare q => simp [slotCarriers]; tauto
  | owned o =>
    cases hm : o.move with
    | none => cases b <;> simp [slotCarriers, hm]; tauto
    | some w => cases b <;> simp [slotCarriers, hm] <;> tauto

/-- The carriers less a slot's are the elements that `isCarrier` describes. -/
theorem mem_carriersBut (s : State) (leftOut : Option (Fin 384)) (c : Carrier) :
    c ∈ carriersBut s leftOut ↔ isCarrier s leftOut c := by
  simp only [carriersBut, carriers, List.mem_filter, List.mem_flatMap, Table.entries_eq, List.mem_map,
    List.mem_finRange, true_and, isCarrier, decide_eq_true_eq]
  constructor
  · rintro ⟨⟨e, ⟨i, rfl⟩, h⟩, hn⟩
    rw [mem_slotCarriers] at h
    obtain ⟨rfl, h⟩ := h
    exact ⟨hn, h⟩
  · rintro ⟨hn, h⟩
    exact ⟨⟨_, ⟨c.slot, rfl⟩, (mem_slotCarriers _ _ _).2 ⟨rfl, h⟩⟩, hn⟩

/-- The carriers stand in carrier order. -/
theorem carriersBut_order (s : State) (leftOut : Option (Fin 384)) :
    (carriersBut s leftOut).Pairwise carrierBefore := by
  apply List.Pairwise.filter
  rw [carriers, Table.entries_eq, List.flatMap_map, List.pairwise_flatMap]
  constructor
  · intro i _
    cases s.slots.read i with
    | free => simp [slotCarriers]
    | pinned q => simp [slotCarriers]
    | spare q => simp [slotCarriers]
    | owned o => cases hm : o.move <;> simp [slotCarriers, hm, carrierBefore]
  · refine (List.pairwise_lt_finRange 384).imp ?_
    intro i j h a ha b hb
    rw [mem_slotCarriers] at ha hb
    exact Or.inl (by rw [ha.1, hb.1]; exact h)

/-- Carrier order has no two elements each before the other. -/
theorem carrierBefore_asymm {a b : Carrier} (h : carrierBefore a b) : ¬carrierBefore b a := by
  rintro (k | ⟨k, k1, k2⟩) <;> rcases h with h | ⟨h, h1, h2⟩
  · exact absurd h (lt_asymm k)
  · exact absurd (h ▸ k) (lt_irrefl _)
  · exact absurd (k ▸ h) (lt_irrefl _)
  · simp [h1] at k2

/-! ## The first item of an ordered list -/

/-- In an ordered list the found element is one that the test holds of, with no such element before it. -/
theorem find?_first {α : Type} {before : α → α → Prop} (irr : ∀ a b, before a b → ¬before b a) {p : α → Bool} {l : List α}
    (ho : l.Pairwise before) {a : α} (h : l.find? p = some a) :
    a ∈ l ∧ p a = true ∧ ∀ d ∈ l, p d = true → ¬before d a := by
  rw [List.find?_eq_some_iff_append] at h
  obtain ⟨hp, as, bs, rfl, hn⟩ := h
  refine ⟨by simp, hp, fun d hd hpd hb => ?_⟩
  rw [List.pairwise_append, List.pairwise_cons] at ho
  rcases List.mem_append.1 hd with hd | hd
  · have := hn d hd
    simp [hpd] at this
  · rcases List.mem_cons.1 hd with rfl | hd
    · exact irr _ _ hb hb
    · exact irr _ _ hb (ho.2.1.1 d hd)

/-- In an ordered list the first pair found is one that the test holds of, its first member with none before it, and its
second with none before it for that first member. -/
theorem findSome?_first {α : Type} {before : α → α → Prop} (irr : ∀ a b, before a b → ¬before b a) {p : α → α → Bool}
    {β : Type} (g : α → α → β) {l : List α} (ho : l.Pairwise before) {y : β}
    (h : (l.findSome? fun a => (l.find? fun b => p a b).map (g a)) = some y) :
    ∃ a b, a ∈ l ∧ b ∈ l ∧ p a b = true ∧ y = g a b ∧ (∀ c ∈ l, ∀ d ∈ l, p c d = true → ¬before c a) ∧
      ∀ d ∈ l, p a d = true → ¬before d b := by
  rw [List.findSome?_eq_some_iff] at h
  obtain ⟨as, a, bs, hl, ha, hn⟩ := h
  rw [Option.map_eq_some_iff] at ha
  obtain ⟨b, hb, rfl⟩ := ha
  obtain ⟨hm, hp, hf⟩ := find?_first irr ho hb
  refine ⟨a, b, by simp [hl], hm, hp, rfl, fun c hc d hd hcd hbef => ?_, hf⟩
  rw [hl] at hc
  rw [hl, List.pairwise_append, List.pairwise_cons] at ho
  rcases List.mem_append.1 hc with hc | hc
  · have := hn c hc
    rw [Option.map_eq_none_iff, List.find?_eq_none] at this
    exact this d hd hcd
  · rcases List.mem_cons.1 hc with rfl | hc
    · exact irr _ _ hbef hbef
    · exact irr _ _ hbef (ho.2.1.1 c hc)

/-- No pair is found where the test holds of none. -/
theorem findSome?_none_iff {α β : Type} (p : α → α → Bool) (g : α → α → β) (l : List α) :
    (l.findSome? fun a => (l.find? fun b => p a b).map (g a)) = none ↔ ∀ a ∈ l, ∀ b ∈ l, p a b = false := by
  simp [List.findSome?_eq_none_iff]

/-! ## The tests as predicates (R55 to R61) -/

/-- T1 as a predicate. -/
theorem testWindow_iff (s : State) (p z : Fin 16) (f : Nat) :
    testWindow s p z f = true ↔
      (s.plan.profiles.read p).low ≤ f ∧ (s.plan.zones.read z).zlo ≤ f ∧ f ≤ (s.plan.profiles.read p).high ∧
        f ≤ (s.plan.zones.read z).zhi ∧ (s.plan.profiles.read p).step ∣ f - (s.plan.profiles.read p).low := by
  simp only [testWindow, windowLow, windowHigh, Bool.and_eq_true, decide_eq_true_eq, beq_iff_eq, max_le_iff,
    le_min_iff, Nat.dvd_iff_mod_eq_zero]
  tauto

/-- A band with its guard, as a predicate. -/
theorem inGuardedBand_iff (g f : Nat) (b : Band) :
    inGuardedBand g f b = true ↔ (b.lo : Int) - g ≤ f ∧ (f : Int) ≤ b.hi + g := by
  simp [inGuardedBand]

/-- T4's comparison as a predicate. -/
theorem tooNear_iff (s : State) (p z : Fin 16) (f : Nat) (e : Carrier) :
    tooNear s p z f e = true ↔
      (s.plan.coupling.read e.zone).read z ≠ .isolated ∧
        ((f : Int) - e.index).natAbs < max (s.plan.profiles.read p).c (s.plan.profiles.read e.profile).c := by
  simp [tooNear, coupledForSpacing, couplingOf, distance]

/-- A pair of carriers counts for T5 and T6. -/
theorem pairCounts_iff (s : State) (z : Fin 16) (a b : Carrier) :
    pairCounts s z a b = true ↔
      a.slot ≠ b.slot ∧ (s.plan.coupling.read a.zone).read b.zone = .shared ∧
        (s.plan.coupling.read a.zone).read z = .shared ∧ (s.plan.coupling.read b.zone).read z = .shared := by
  simp [pairCounts, sharedTriangle, couplingOf, and_assoc]

/-- T5's comparisons as a predicate. -/
theorem productOnto_iff (s : State) (p : Fin 16) (f : Nat) (a b : Carrier) :
    productOnto s p f a b = true ↔
      ((f : Int) - (2 * (a.index : Int) - b.index)).natAbs < (s.plan.profiles.read p).p3 ∨
        ((f : Int) - (3 * (a.index : Int) - 2 * b.index)).natAbs < (s.plan.profiles.read p).p5 := by
  simp only [productOnto, Bool.or_eq_true, decide_eq_true_eq]
  exact Iff.rfl

/-- T6's comparisons as a predicate. -/
theorem harms_iff (s : State) (f : Nat) (e v : Carrier) :
    harms s f e v = true ↔
      ((v.index : Int) - (2 * (f : Int) - e.index)).natAbs < (s.plan.profiles.read v.profile).p3 ∨
        ((v.index : Int) - (2 * (e.index : Int) - f)).natAbs < (s.plan.profiles.read v.profile).p3 ∨
        ((v.index : Int) - (3 * (f : Int) - 2 * e.index)).natAbs < (s.plan.profiles.read v.profile).p5 ∨
        ((v.index : Int) - (3 * (e.index : Int) - 2 * f)).natAbs < (s.plan.profiles.read v.profile).p5 := by
  simp only [harms, Bool.or_eq_true, decide_eq_true_eq, or_assoc]
  exact Iff.rfl

end Sys2Proof.Machine
end

