-- ==== Sys2Proof/Laws/Frames.lean ====
section
/-! SUPPORT. For each operation, what it leaves unchanged, once: a conjunction of the parts of the state that it does not
touch. Tagged as simp lemmas, so that a later proof reads a part through any number of operations without unfolding
them. -/

namespace Sys2Proof.Machine

/-- What every event of a fold keeps, the fold keeps. -/
theorem foldl_ind {α : Type} (P : State → Prop) (f : State → α → State) (h : ∀ t a, P t → P (f t a)) (l : List α)
    (s : State) (h0 : P s) : P (l.foldl f s) := by
  induction l generalizing s with
  | nil => exact h0
  | cons a l ih => exact ih (f s a) (h s a h0)

/-- What `raise` leaves unchanged. -/
@[simp] theorem raise_frame (a : Attention) (s : State) :
    (raise a s).plan = s.plan ∧
      (raise a s).slots = s.slots ∧
      (raise a s).epoch = s.epoch ∧
      (raise a s).engine = s.engine ∧
      (raise a s).timing = s.timing ∧
      (raise a s).zones = s.zones ∧
      (raise a s).stations = s.stations ∧
      (raise a s).branches = s.branches ∧
      (raise a s).sweep = s.sweep ∧
      (raise a s).console.mode = s.console.mode ∧
      (raise a s).console.openRequest = s.console.openRequest ∧
      (raise a s).console.result = s.console.result ∧
      (raise a s).console.mask = s.console.mask ∧
      (raise a s).console.response = s.console.response ∧
      (raise a s).freeUsed = s.freeUsed ∧
      (raise a s).pending = s.pending := by
  unfold raise
  first | (refine ⟨rfl, rfl, rfl, rfl, rfl, rfl, rfl, rfl, rfl, rfl, rfl, rfl, rfl, rfl, rfl, rfl⟩; done) | (simp; done) | ((repeat' split) <;> (simp; done)) | (dsimp only; (repeat' split) <;> simp)

/-- What `deferSet` leaves unchanged. -/
@[simp] theorem deferSet_frame (s : State) :
    (deferSet s).plan = s.plan ∧
      (deferSet s).slots = s.slots ∧
      (deferSet s).epoch = s.epoch ∧
      (deferSet s).engine.queue = s.engine.queue ∧
      (deferSet s).engine.foreground = s.engine.foreground ∧
      (deferSet s).engine.background = s.engine.background ∧
      (deferSet s).engine.barred = s.engine.barred ∧
      (deferSet s).engine.upper = s.engine.upper ∧
      (deferSet s).engine.lower = s.engine.lower ∧
      (deferSet s).timing = s.timing ∧
      (deferSet s).zones = s.zones ∧
      (deferSet s).stations = s.stations ∧
      (deferSet s).branches = s.branches ∧
      (deferSet s).sweep = s.sweep ∧
      (deferSet s).console.mode = s.console.mode ∧
      (deferSet s).console.openRequest = s.console.openRequest ∧
      (deferSet s).console.result = s.console.result ∧
      (deferSet s).console.mask = s.console.mask ∧
      (deferSet s).console.response = s.console.response ∧
      (deferSet s).freeUsed = s.freeUsed ∧
      (deferSet s).pending = s.pending := by
  unfold deferSet
  first | (refine ⟨rfl, rfl, rfl, rfl, rfl, rfl, rfl, rfl, rfl, rfl, rfl, rfl, rfl, rfl, rfl, rfl, rfl, rfl, rfl, rfl, rfl⟩; done) | (simp; done) | ((repeat' split) <;> (simp; done)) | (dsimp only; (repeat' split) <;> simp)

/-- What `deferClear` leaves unchanged. -/
@[simp] theorem deferClear_frame (s : State) :
    (deferClear s).plan = s.plan ∧
      (deferClear s).slots = s.slots ∧
      (deferClear s).epoch = s.epoch ∧
      (deferClear s).engine.queue = s.engine.queue ∧
      (deferClear s).engine.foreground = s.engine.foreground ∧
      (deferClear s).engine.background = s.engine.background ∧
      (deferClear s).engine.barred = s.engine.barred ∧
      (deferClear s).engine.upper = s.engine.upper ∧
      (deferClear s).engine.lower = s.engine.lower ∧
      (deferClear s).timing = s.timing ∧
      (deferClear s).zones = s.zones ∧
      (deferClear s).stations = s.stations ∧
      (deferClear s).branches = s.branches ∧
      (deferClear s).sweep = s.sweep ∧
      (deferClear s).console = s.console ∧
      (deferClear s).freeUsed = s.freeUsed ∧
      (deferClear s).pending = s.pending := by
  unfold deferClear
  first | (refine ⟨rfl, rfl, rfl, rfl, rfl, rfl, rfl, rfl, rfl, rfl, rfl, rfl, rfl, rfl, rfl, rfl, rfl⟩; done) | (simp; done) | ((repeat' split) <;> (simp; done)) | (dsimp only; (repeat' split) <;> simp)

/-- What `setSlot` leaves unchanged. -/
@[simp] theorem setSlot_frame (i : Fin 384) (x : Slot) (s : State) :
    (setSlot i x s).plan = s.plan ∧
      (setSlot i x s).epoch = s.epoch ∧
      (setSlot i x s).engine = s.engine ∧
      (setSlot i x s).timing = s.timing ∧
      (setSlot i x s).zones = s.zones ∧
      (setSlot i x s).stations = s.stations ∧
      (setSlot i x s).branches = s.branches ∧
      (setSlot i x s).sweep = s.sweep ∧
      (setSlot i x s).console = s.console ∧
      (setSlot i x s).freeUsed = s.freeUsed ∧
      (setSlot i x s).pending = s.pending := by
  unfold setSlot
  first | (refine ⟨rfl, rfl, rfl, rfl, rfl, rfl, rfl, rfl, rfl, rfl, rfl⟩; done) | (simp; done) | ((repeat' split) <;> (simp; done)) | (dsimp only; (repeat' split) <;> simp)

/-- What `changeStation` leaves unchanged. -/
@[simp] theorem changeStation_frame (r : Fin 48) (f : Station → Station) (s : State) :
    (changeStation r f s).plan = s.plan ∧
      (changeStation r f s).slots = s.slots ∧
      (changeStation r f s).epoch = s.epoch ∧
      (changeStation r f s).engine = s.engine ∧
      (changeStation r f s).timing = s.timing ∧
      (changeStation r f s).zones = s.zones ∧
      (changeStation r f s).branches = s.branches ∧
      (changeStation r f s).sweep = s.sweep ∧
      (changeStation r f s).console = s.console ∧
      (changeStation r f s).freeUsed = s.freeUsed ∧
      (changeStation r f s).pending = s.pending := by
  unfold changeStation
  first | (refine ⟨rfl, rfl, rfl, rfl, rfl, rfl, rfl, rfl, rfl, rfl, rfl⟩; done) | (simp; done) | ((repeat' split) <;> (simp; done)) | (dsimp only; (repeat' split) <;> simp)

/-- What `changeBranch` leaves unchanged. -/
@[simp] theorem changeBranch_frame (b : Fin 4) (f : Branch → Branch) (s : State) :
    (changeBranch b f s).plan = s.plan ∧
      (changeBranch b f s).slots = s.slots ∧
      (changeBranch b f s).epoch = s.epoch ∧
      (changeBranch b f s).engine = s.engine ∧
      (changeBranch b f s).timing = s.timing ∧
      (changeBranch b f s).zones = s.zones ∧
      (changeBranch b f s).stations = s.stations ∧
      (changeBranch b f s).sweep = s.sweep ∧
      (changeBranch b f s).console = s.console ∧
      (changeBranch b f s).freeUsed = s.freeUsed ∧
      (changeBranch b f s).pending = s.pending := by
  unfold changeBranch
  first | (refine ⟨rfl, rfl, rfl, rfl, rfl, rfl, rfl, rfl, rfl, rfl, rfl⟩; done) | (simp; done) | ((repeat' split) <;> (simp; done)) | (dsimp only; (repeat' split) <;> simp)

/-- What `changeZone` leaves unchanged. -/
@[simp] theorem changeZone_frame (z : Fin 16) (f : ZoneState → ZoneState) (s : State) :
    (changeZone z f s).plan = s.plan ∧
      (changeZone z f s).slots = s.slots ∧
      (changeZone z f s).epoch = s.epoch ∧
      (changeZone z f s).engine = s.engine ∧
      (changeZone z f s).timing = s.timing ∧
      (changeZone z f s).stations = s.stations ∧
      (changeZone z f s).branches = s.branches ∧
      (changeZone z f s).sweep = s.sweep ∧
      (changeZone z f s).console = s.console ∧
      (changeZone z f s).freeUsed = s.freeUsed ∧
      (changeZone z f s).pending = s.pending := by
  unfold changeZone
  first | (refine ⟨rfl, rfl, rfl, rfl, rfl, rfl, rfl, rfl, rfl, rfl, rfl⟩; done) | (simp; done) | ((repeat' split) <;> (simp; done)) | (dsimp only; (repeat' split) <;> simp)

/-- What `advanceEpoch` leaves unchanged. -/
@[simp] theorem advanceEpoch_frame (s : State) :
    (advanceEpoch s).plan = s.plan ∧
      (advanceEpoch s).slots = s.slots ∧
      (advanceEpoch s).engine.queue = s.engine.queue ∧
      (advanceEpoch s).engine.barred = s.engine.barred ∧
      (advanceEpoch s).engine.upper = s.engine.upper ∧
      (advanceEpoch s).engine.lower = s.engine.lower ∧
      (advanceEpoch s).engine.defer = s.engine.defer ∧
      (advanceEpoch s).timing = s.timing ∧
      (advanceEpoch s).zones = s.zones ∧
      (advanceEpoch s).stations = s.stations ∧
      (advanceEpoch s).branches = s.branches ∧
      (advanceEpoch s).sweep = s.sweep ∧
      (advanceEpoch s).console = s.console ∧
      (advanceEpoch s).freeUsed = s.freeUsed ∧
      (advanceEpoch s).pending = s.pending := by
  unfold advanceEpoch
  first | (refine ⟨rfl, rfl, rfl, rfl, rfl, rfl, rfl, rfl, rfl, rfl, rfl, rfl, rfl, rfl, rfl⟩; done) | (simp; done) | ((repeat' split) <;> (simp; done)) | (dsimp only; (repeat' split) <;> simp)

/-- What `emptyBarred` leaves unchanged. -/
@[simp] theorem emptyBarred_frame (s : State) :
    (emptyBarred s).plan = s.plan ∧
      (emptyBarred s).slots = s.slots ∧
      (emptyBarred s).epoch = s.epoch ∧
      (emptyBarred s).engine.queue = s.engine.queue ∧
      (emptyBarred s).engine.foreground = s.engine.foreground ∧
      (emptyBarred s).engine.background = s.engine.background ∧
      (emptyBarred s).engine.upper = s.engine.upper ∧
      (emptyBarred s).engine.lower = s.engine.lower ∧
      (emptyBarred s).engine.defer = s.engine.defer ∧
      (emptyBarred s).timing = s.timing ∧
      (emptyBarred s).zones = s.zones ∧
      (emptyBarred s).stations = s.stations ∧
      (emptyBarred s).branches = s.branches ∧
      (emptyBarred s).sweep = s.sweep ∧
      (emptyBarred s).console = s.console ∧
      (emptyBarred s).freeUsed = s.freeUsed ∧
      (emptyBarred s).pending = s.pending := by
  unfold emptyBarred
  first | (refine ⟨rfl, rfl, rfl, rfl, rfl, rfl, rfl, rfl, rfl, rfl, rfl, rfl, rfl, rfl, rfl, rfl, rfl⟩; done) | (simp; done) | ((repeat' split) <;> (simp; done)) | (dsimp only; (repeat' split) <;> simp)

/-- What `giveAnswer` leaves unchanged. -/
@[simp] theorem giveAnswer_frame (r : Fin 48) (a : Answer) (s : State) :
    (giveAnswer r a s).plan = s.plan ∧
      (giveAnswer r a s).slots = s.slots ∧
      (giveAnswer r a s).epoch = s.epoch ∧
      (giveAnswer r a s).engine = s.engine ∧
      (giveAnswer r a s).timing = s.timing ∧
      (giveAnswer r a s).zones = s.zones ∧
      (giveAnswer r a s).branches = s.branches ∧
      (giveAnswer r a s).sweep = s.sweep ∧
      (giveAnswer r a s).console = s.console ∧
      (giveAnswer r a s).freeUsed = s.freeUsed ∧
      (giveAnswer r a s).pending = s.pending := by
  unfold giveAnswer
  first | (refine ⟨rfl, rfl, rfl, rfl, rfl, rfl, rfl, rfl, rfl, rfl, rfl⟩; done) | (simp; done) | ((repeat' split) <;> (simp; done)) | (dsimp only; (repeat' split) <;> simp)

/-- What `refuse` leaves unchanged. -/
@[simp] theorem refuse_frame (r : Fin 48) (ch : Fin 64) (why : RefuseReason) (s : State) :
    (refuse r ch why s).plan = s.plan ∧
      (refuse r ch why s).slots = s.slots ∧
      (refuse r ch why s).epoch = s.epoch ∧
      (refuse r ch why s).engine = s.engine ∧
      (refuse r ch why s).timing = s.timing ∧
      (refuse r ch why s).zones = s.zones ∧
      (refuse r ch why s).branches = s.branches ∧
      (refuse r ch why s).sweep = s.sweep ∧
      (refuse r ch why s).console = s.console ∧
      (refuse r ch why s).freeUsed = s.freeUsed ∧
      (refuse r ch why s).pending = s.pending := by
  unfold refuse
  first | (refine ⟨rfl, rfl, rfl, rfl, rfl, rfl, rfl, rfl, rfl, rfl, rfl⟩; done) | (simp; done) | ((repeat' split) <;> (simp; done)) | (dsimp only; (repeat' split) <;> simp)

/-- What `giveNotice` leaves unchanged. -/
@[simp] theorem giveNotice_frame (r : Fin 48) (n : Notice) (s : State) :
    (giveNotice r n s).plan = s.plan ∧
      (giveNotice r n s).slots = s.slots ∧
      (giveNotice r n s).epoch = s.epoch ∧
      (giveNotice r n s).engine = s.engine ∧
      (giveNotice r n s).timing = s.timing ∧
      (giveNotice r n s).zones = s.zones ∧
      (giveNotice r n s).branches = s.branches ∧
      (giveNotice r n s).sweep = s.sweep ∧
      (giveNotice r n s).console = s.console ∧
      (giveNotice r n s).freeUsed = s.freeUsed ∧
      (giveNotice r n s).pending = s.pending := by
  unfold giveNotice
  first | (refine ⟨rfl, rfl, rfl, rfl, rfl, rfl, rfl, rfl, rfl, rfl, rfl⟩; done) | (simp; done) | ((repeat' split) <;> (simp; done)) | (dsimp only; (repeat' split) <;> simp)

/-- What `withdrawAdvice` leaves unchanged. -/
@[simp] theorem withdrawAdvice_frame (r : Fin 48) (ch : Fin 64) (s : State) :
    (withdrawAdvice r ch s).plan = s.plan ∧
      (withdrawAdvice r ch s).slots = s.slots ∧
      (withdrawAdvice r ch s).epoch = s.epoch ∧
      (withdrawAdvice r ch s).engine = s.engine ∧
      (withdrawAdvice r ch s).timing = s.timing ∧
      (withdrawAdvice r ch s).zones = s.zones ∧
      (withdrawAdvice r ch s).branches = s.branches ∧
      (withdrawAdvice r ch s).sweep = s.sweep ∧
      (withdrawAdvice r ch s).console = s.console ∧
      (withdrawAdvice r ch s).freeUsed = s.freeUsed ∧
      (withdrawAdvice r ch s).pending = s.pending := by
  unfold withdrawAdvice
  first | (refine ⟨rfl, rfl, rfl, rfl, rfl, rfl, rfl, rfl, rfl, rfl, rfl⟩; done) | (simp; done) | ((repeat' split) <;> (simp; done)) | (dsimp only; (repeat' split) <;> simp)

/-- What `closeRequest` leaves unchanged. -/
@[simp] theorem closeRequest_frame (r : Fin 48) (s : State) :
    (closeRequest r s).plan = s.plan ∧
      (closeRequest r s).slots = s.slots ∧
      (closeRequest r s).epoch = s.epoch ∧
      (closeRequest r s).engine = s.engine ∧
      (closeRequest r s).timing = s.timing ∧
      (closeRequest r s).zones = s.zones ∧
      (closeRequest r s).branches = s.branches ∧
      (closeRequest r s).sweep = s.sweep ∧
      (closeRequest r s).console = s.console ∧
      (closeRequest r s).freeUsed = s.freeUsed ∧
      (closeRequest r s).pending = s.pending := by
  unfold closeRequest
  first | (refine ⟨rfl, rfl, rfl, rfl, rfl, rfl, rfl, rfl, rfl, rfl, rfl⟩; done) | (simp; done) | ((repeat' split) <;> (simp; done)) | (dsimp only; (repeat' split) <;> simp)

/-- What `freeSlot` leaves unchanged. -/
@[simp] theorem freeSlot_frame (i : Fin 384) (s : State) :
    (freeSlot i s).plan = s.plan ∧
      (freeSlot i s).epoch = s.epoch ∧
      (freeSlot i s).engine.queue = s.engine.queue ∧
      (freeSlot i s).engine.foreground = s.engine.foreground ∧
      (freeSlot i s).engine.background = s.engine.background ∧
      (freeSlot i s).engine.upper = s.engine.upper ∧
      (freeSlot i s).engine.lower = s.engine.lower ∧
      (freeSlot i s).engine.defer = s.engine.defer ∧
      (freeSlot i s).timing = s.timing ∧
      (freeSlot i s).zones = s.zones ∧
      (freeSlot i s).stations = s.stations ∧
      (freeSlot i s).branches = s.branches ∧
      (freeSlot i s).sweep = s.sweep ∧
      (freeSlot i s).console = s.console ∧
      (freeSlot i s).freeUsed = s.freeUsed ∧
      (freeSlot i s).pending = s.pending := by
  unfold freeSlot
  first | (refine ⟨rfl, rfl, rfl, rfl, rfl, rfl, rfl, rfl, rfl, rfl, rfl, rfl, rfl, rfl, rfl, rfl⟩; done) | (simp; done) | ((repeat' split) <;> (simp; done)) | (dsimp only; (repeat' split) <;> simp)

/-- What `lowerHeld` leaves unchanged. -/
@[simp] theorem lowerHeld_frame (r : Fin 48) (s : State) :
    (lowerHeld r s).plan = s.plan ∧
      (lowerHeld r s).slots = s.slots ∧
      (lowerHeld r s).epoch = s.epoch ∧
      (lowerHeld r s).engine = s.engine ∧
      (lowerHeld r s).timing = s.timing ∧
      (lowerHeld r s).zones = s.zones ∧
      (lowerHeld r s).branches = s.branches ∧
      (lowerHeld r s).sweep = s.sweep ∧
      (lowerHeld r s).console = s.console ∧
      (lowerHeld r s).freeUsed = s.freeUsed ∧
      (lowerHeld r s).pending = s.pending := by
  unfold lowerHeld
  first | (refine ⟨rfl, rfl, rfl, rfl, rfl, rfl, rfl, rfl, rfl, rfl, rfl⟩; done) | (simp; done) | ((repeat' split) <;> (simp; done)) | (dsimp only; (repeat' split) <;> simp)

/-- What `raiseHeld` leaves unchanged. -/
@[simp] theorem raiseHeld_frame (r : Fin 48) (s : State) :
    (raiseHeld r s).plan = s.plan ∧
      (raiseHeld r s).slots = s.slots ∧
      (raiseHeld r s).epoch = s.epoch ∧
      (raiseHeld r s).engine = s.engine ∧
      (raiseHeld r s).timing = s.timing ∧
      (raiseHeld r s).zones = s.zones ∧
      (raiseHeld r s).branches = s.branches ∧
      (raiseHeld r s).sweep = s.sweep ∧
      (raiseHeld r s).console = s.console ∧
      (raiseHeld r s).freeUsed = s.freeUsed ∧
      (raiseHeld r s).pending = s.pending := by
  unfold raiseHeld
  first | (refine ⟨rfl, rfl, rfl, rfl, rfl, rfl, rfl, rfl, rfl, rfl, rfl⟩; done) | (simp; done) | ((repeat' split) <;> (simp; done)) | (dsimp only; (repeat' split) <;> simp)

/-- What `giveRetired` leaves unchanged. -/
@[simp] theorem giveRetired_frame (o : Owned) (cause : Option RetireCause) (s : State) :
    (giveRetired o cause s).plan = s.plan ∧
      (giveRetired o cause s).slots = s.slots ∧
      (giveRetired o cause s).epoch = s.epoch ∧
      (giveRetired o cause s).engine = s.engine ∧
      (giveRetired o cause s).timing = s.timing ∧
      (giveRetired o cause s).zones = s.zones ∧
      (giveRetired o cause s).branches = s.branches ∧
      (giveRetired o cause s).sweep = s.sweep ∧
      (giveRetired o cause s).console = s.console ∧
      (giveRetired o cause s).freeUsed = s.freeUsed ∧
      (giveRetired o cause s).pending = s.pending := by
  unfold giveRetired
  first | (refine ⟨rfl, rfl, rfl, rfl, rfl, rfl, rfl, rfl, rfl, rfl, rfl⟩; done) | (simp; done) | ((repeat' split) <;> (simp; done)) | (dsimp only; (repeat' split) <;> simp)

/-- What `steadyIfDone` leaves unchanged. -/
@[simp] theorem steadyIfDone_frame (z : Fin 16) (s : State) :
    (steadyIfDone z s).plan = s.plan ∧
      (steadyIfDone z s).slots = s.slots ∧
      (steadyIfDone z s).epoch = s.epoch ∧
      (steadyIfDone z s).engine = s.engine ∧
      (steadyIfDone z s).timing = s.timing ∧
      (steadyIfDone z s).stations = s.stations ∧
      (steadyIfDone z s).branches = s.branches ∧
      (steadyIfDone z s).sweep = s.sweep ∧
      (steadyIfDone z s).console = s.console ∧
      (steadyIfDone z s).freeUsed = s.freeUsed ∧
      (steadyIfDone z s).pending = s.pending := by
  unfold steadyIfDone
  first | (refine ⟨rfl, rfl, rfl, rfl, rfl, rfl, rfl, rfl, rfl, rfl, rfl⟩; done) | (simp; done) | ((repeat' split) <;> (simp; done)) | (dsimp only; (repeat' split) <;> simp)

/-- What `retireSlot` leaves unchanged. -/
@[simp] theorem retireSlot_frame (cause : Option RetireCause) (i : Fin 384) (s : State) :
    (retireSlot cause i s).plan = s.plan ∧
      (retireSlot cause i s).epoch = s.epoch ∧
      (retireSlot cause i s).engine.queue = s.engine.queue ∧
      (retireSlot cause i s).engine.foreground = s.engine.foreground ∧
      (retireSlot cause i s).engine.background = s.engine.background ∧
      (retireSlot cause i s).engine.upper = s.engine.upper ∧
      (retireSlot cause i s).engine.lower = s.engine.lower ∧
      (retireSlot cause i s).engine.defer = s.engine.defer ∧
      (retireSlot cause i s).timing = s.timing ∧
      (retireSlot cause i s).branches = s.branches ∧
      (retireSlot cause i s).sweep = s.sweep ∧
      (retireSlot cause i s).console = s.console ∧
      (retireSlot cause i s).freeUsed = s.freeUsed ∧
      (retireSlot cause i s).pending = s.pending := by
  unfold retireSlot
  first | (refine ⟨rfl, rfl, rfl, rfl, rfl, rfl, rfl, rfl, rfl, rfl, rfl, rfl, rfl, rfl⟩; done) | (simp; done) | ((repeat' split) <;> (simp; done)) | (dsimp only; (repeat' split) <;> simp)

/-- What `retireSlots` leaves unchanged. -/
@[simp] theorem retireSlots_frame (cause : Option RetireCause) (is : List (Fin 384)) (s : State) :
    (retireSlots cause is s).plan = s.plan ∧
      (retireSlots cause is s).epoch = s.epoch ∧
      (retireSlots cause is s).engine.queue = s.engine.queue ∧
      (retireSlots cause is s).engine.foreground = s.engine.foreground ∧
      (retireSlots cause is s).engine.background = s.engine.background ∧
      (retireSlots cause is s).engine.upper = s.engine.upper ∧
      (retireSlots cause is s).engine.lower = s.engine.lower ∧
      (retireSlots cause is s).engine.defer = s.engine.defer ∧
      (retireSlots cause is s).timing = s.timing ∧
      (retireSlots cause is s).branches = s.branches ∧
      (retireSlots cause is s).sweep = s.sweep ∧
      (retireSlots cause is s).console = s.console ∧
      (retireSlots cause is s).freeUsed = s.freeUsed ∧
      (retireSlots cause is s).pending = s.pending := by
  unfold retireSlots
  exact foldl_ind (fun t => t.plan = s.plan ∧ t.epoch = s.epoch ∧ t.engine.queue = s.engine.queue ∧ t.engine.foreground = s.engine.foreground ∧ t.engine.background = s.engine.background ∧ t.engine.upper = s.engine.upper ∧ t.engine.lower = s.engine.lower ∧ t.engine.defer = s.engine.defer ∧ t.timing = s.timing ∧ t.branches = s.branches ∧ t.sweep = s.sweep ∧ t.console = s.console ∧ t.freeUsed = s.freeUsed ∧ t.pending = s.pending) _ (fun t a h => by simpa using h) _ s (by simp)

/-- What `recordPin` leaves unchanged. -/
@[simp] theorem recordPin_frame (i : Fin 384) (index : Nat) (profile zone : Fin 16) (label : List Byte) (s : State) :
    (recordPin i index profile zone label s).plan = s.plan ∧
      (recordPin i index profile zone label s).engine.queue = s.engine.queue ∧
      (recordPin i index profile zone label s).engine.barred = s.engine.barred ∧
      (recordPin i index profile zone label s).engine.upper = s.engine.upper ∧
      (recordPin i index profile zone label s).engine.lower = s.engine.lower ∧
      (recordPin i index profile zone label s).engine.defer = s.engine.defer ∧
      (recordPin i index profile zone label s).timing = s.timing ∧
      (recordPin i index profile zone label s).zones = s.zones ∧
      (recordPin i index profile zone label s).stations = s.stations ∧
      (recordPin i index profile zone label s).branches = s.branches ∧
      (recordPin i index profile zone label s).sweep = s.sweep ∧
      (recordPin i index profile zone label s).console = s.console ∧
      (recordPin i index profile zone label s).freeUsed = s.freeUsed ∧
      (recordPin i index profile zone label s).pending = s.pending := by
  unfold recordPin
  first | (refine ⟨rfl, rfl, rfl, rfl, rfl, rfl, rfl, rfl, rfl, rfl, rfl, rfl, rfl, rfl⟩; done) | (simp; done) | ((repeat' split) <;> (simp; done)) | (dsimp only; (repeat' split) <;> simp)

/-- What `showFree` leaves unchanged. -/
@[simp] theorem showFree_frame (s : State) :
    (showFree s).plan = s.plan ∧
      (showFree s).slots = s.slots ∧
      (showFree s).epoch = s.epoch ∧
      (showFree s).engine = s.engine ∧
      (showFree s).timing = s.timing ∧
      (showFree s).zones = s.zones ∧
      (showFree s).stations = s.stations ∧
      (showFree s).branches = s.branches ∧
      (showFree s).sweep = s.sweep ∧
      (showFree s).console = s.console ∧
      (showFree s).pending = s.pending := by
  unfold showFree
  first | (refine ⟨rfl, rfl, rfl, rfl, rfl, rfl, rfl, rfl, rfl, rfl, rfl⟩; done) | (simp; done) | ((repeat' split) <;> (simp; done)) | (dsimp only; (repeat' split) <;> simp)

/-- What `respond` leaves unchanged. -/
@[simp] theorem respond_frame (x : Status) (data : List Byte) (s : State) :
    (respond x data s).plan = s.plan ∧
      (respond x data s).slots = s.slots ∧
      (respond x data s).epoch = s.epoch ∧
      (respond x data s).engine = s.engine ∧
      (respond x data s).timing = s.timing ∧
      (respond x data s).zones = s.zones ∧
      (respond x data s).stations = s.stations ∧
      (respond x data s).branches = s.branches ∧
      (respond x data s).sweep = s.sweep ∧
      (respond x data s).console.mode = s.console.mode ∧
      (respond x data s).console.openRequest = s.console.openRequest ∧
      (respond x data s).console.result = s.console.result ∧
      (respond x data s).console.flags = s.console.flags ∧
      (respond x data s).console.mask = s.console.mask ∧
      (respond x data s).freeUsed = s.freeUsed ∧
      (respond x data s).pending = s.pending := by
  unfold respond
  first | (refine ⟨rfl, rfl, rfl, rfl, rfl, rfl, rfl, rfl, rfl, rfl, rfl, rfl, rfl, rfl, rfl, rfl⟩; done) | (simp; done) | ((repeat' split) <;> (simp; done)) | (dsimp only; (repeat' split) <;> simp)

/-- What `joinQueue` leaves unchanged. -/
@[simp] theorem joinQueue_frame (w : Work) (s : State) :
    (joinQueue w s).plan = s.plan ∧
      (joinQueue w s).slots = s.slots ∧
      (joinQueue w s).epoch = s.epoch ∧
      (joinQueue w s).engine.foreground = s.engine.foreground ∧
      (joinQueue w s).engine.background = s.engine.background ∧
      (joinQueue w s).engine.barred = s.engine.barred ∧
      (joinQueue w s).engine.upper = s.engine.upper ∧
      (joinQueue w s).engine.lower = s.engine.lower ∧
      (joinQueue w s).timing = s.timing ∧
      (joinQueue w s).zones = s.zones ∧
      (joinQueue w s).stations = s.stations ∧
      (joinQueue w s).branches = s.branches ∧
      (joinQueue w s).sweep = s.sweep ∧
      (joinQueue w s).console.mode = s.console.mode ∧
      (joinQueue w s).console.openRequest = s.console.openRequest ∧
      (joinQueue w s).console.result = s.console.result ∧
      (joinQueue w s).console.mask = s.console.mask ∧
      (joinQueue w s).console.response = s.console.response ∧
      (joinQueue w s).freeUsed = s.freeUsed ∧
      (joinQueue w s).pending = s.pending := by
  unfold joinQueue
  first | (refine ⟨rfl, rfl, rfl, rfl, rfl, rfl, rfl, rfl, rfl, rfl, rfl, rfl, rfl, rfl, rfl, rfl, rfl, rfl, rfl, rfl⟩; done) | (simp; done) | ((repeat' split) <;> (simp; done)) | (dsimp only; (repeat' split) <;> simp)

/-- What `openStationWork` leaves unchanged. -/
@[simp] theorem openStationWork_frame (r : Fin 48) (w : Work) (s : State) :
    (openStationWork r w s).plan = s.plan ∧
      (openStationWork r w s).slots = s.slots ∧
      (openStationWork r w s).epoch = s.epoch ∧
      (openStationWork r w s).engine.foreground = s.engine.foreground ∧
      (openStationWork r w s).engine.background = s.engine.background ∧
      (openStationWork r w s).engine.barred = s.engine.barred ∧
      (openStationWork r w s).engine.upper = s.engine.upper ∧
      (openStationWork r w s).engine.lower = s.engine.lower ∧
      (openStationWork r w s).timing = s.timing ∧
      (openStationWork r w s).zones = s.zones ∧
      (openStationWork r w s).branches = s.branches ∧
      (openStationWork r w s).sweep = s.sweep ∧
      (openStationWork r w s).console.mode = s.console.mode ∧
      (openStationWork r w s).console.openRequest = s.console.openRequest ∧
      (openStationWork r w s).console.result = s.console.result ∧
      (openStationWork r w s).console.mask = s.console.mask ∧
      (openStationWork r w s).console.response = s.console.response ∧
      (openStationWork r w s).freeUsed = s.freeUsed ∧
      (openStationWork r w s).pending = s.pending := by
  unfold openStationWork
  first | (refine ⟨rfl, rfl, rfl, rfl, rfl, rfl, rfl, rfl, rfl, rfl, rfl, rfl, rfl, rfl, rfl, rfl, rfl, rfl, rfl⟩; done) | (simp; done) | ((repeat' split) <;> (simp; done)) | (dsimp only; (repeat' split) <;> simp)

/-- What `openHostWork` leaves unchanged. -/
@[simp] theorem openHostWork_frame (w : Work) (s : State) :
    (openHostWork w s).plan = s.plan ∧
      (openHostWork w s).slots = s.slots ∧
      (openHostWork w s).epoch = s.epoch ∧
      (openHostWork w s).engine.foreground = s.engine.foreground ∧
      (openHostWork w s).engine.background = s.engine.background ∧
      (openHostWork w s).engine.barred = s.engine.barred ∧
      (openHostWork w s).engine.upper = s.engine.upper ∧
      (openHostWork w s).engine.lower = s.engine.lower ∧
      (openHostWork w s).timing = s.timing ∧
      (openHostWork w s).zones = s.zones ∧
      (openHostWork w s).stations = s.stations ∧
      (openHostWork w s).branches = s.branches ∧
      (openHostWork w s).sweep = s.sweep ∧
      (openHostWork w s).console.mode = s.console.mode ∧
      (openHostWork w s).console.result = s.console.result ∧
      (openHostWork w s).console.mask = s.console.mask ∧
      (openHostWork w s).console.response = s.console.response ∧
      (openHostWork w s).freeUsed = s.freeUsed ∧
      (openHostWork w s).pending = s.pending := by
  unfold openHostWork
  first | (refine ⟨rfl, rfl, rfl, rfl, rfl, rfl, rfl, rfl, rfl, rfl, rfl, rfl, rfl, rfl, rfl, rfl, rfl, rfl, rfl⟩; done) | (simp; done) | ((repeat' split) <;> (simp; done)) | (dsimp only; (repeat' split) <;> simp)

/-- What `placeResult` leaves unchanged. -/
@[simp] theorem placeResult_frame (kind : HostKind) (outcome : HostOutcome) (s : State) :
    (placeResult kind outcome s).plan = s.plan ∧
      (placeResult kind outcome s).slots = s.slots ∧
      (placeResult kind outcome s).epoch = s.epoch ∧
      (placeResult kind outcome s).engine = s.engine ∧
      (placeResult kind outcome s).timing = s.timing ∧
      (placeResult kind outcome s).zones = s.zones ∧
      (placeResult kind outcome s).stations = s.stations ∧
      (placeResult kind outcome s).branches = s.branches ∧
      (placeResult kind outcome s).sweep = s.sweep ∧
      (placeResult kind outcome s).console.mode = s.console.mode ∧
      (placeResult kind outcome s).console.mask = s.console.mask ∧
      (placeResult kind outcome s).console.response = s.console.response ∧
      (placeResult kind outcome s).freeUsed = s.freeUsed ∧
      (placeResult kind outcome s).pending = s.pending := by
  unfold placeResult
  first | (refine ⟨rfl, rfl, rfl, rfl, rfl, rfl, rfl, rfl, rfl, rfl, rfl, rfl, rfl, rfl⟩; done) | (simp; done) | ((repeat' split) <;> (simp; done)) | (dsimp only; (repeat' split) <;> simp)

/-- What `setContext` leaves unchanged. -/
@[simp] theorem setContext_frame (job : Job) (c : SearchContext) (s : State) :
    (setContext job c s).plan = s.plan ∧
      (setContext job c s).slots = s.slots ∧
      (setContext job c s).epoch = s.epoch ∧
      (setContext job c s).engine.queue = s.engine.queue ∧
      (setContext job c s).engine.barred = s.engine.barred ∧
      (setContext job c s).engine.upper = s.engine.upper ∧
      (setContext job c s).engine.lower = s.engine.lower ∧
      (setContext job c s).engine.defer = s.engine.defer ∧
      (setContext job c s).timing = s.timing ∧
      (setContext job c s).zones = s.zones ∧
      (setContext job c s).stations = s.stations ∧
      (setContext job c s).branches = s.branches ∧
      (setContext job c s).sweep = s.sweep ∧
      (setContext job c s).console = s.console ∧
      (setContext job c s).freeUsed = s.freeUsed ∧
      (setContext job c s).pending = s.pending := by
  unfold setContext
  first | (refine ⟨rfl, rfl, rfl, rfl, rfl, rfl, rfl, rfl, rfl, rfl, rfl, rfl, rfl, rfl, rfl, rfl⟩; done) | (simp; done) | ((repeat' split) <;> (simp; done)) | (dsimp only; (repeat' split) <;> simp)

/-- What `leaveForeground` leaves unchanged. -/
@[simp] theorem leaveForeground_frame (s : State) :
    (leaveForeground s).plan = s.plan ∧
      (leaveForeground s).slots = s.slots ∧
      (leaveForeground s).epoch = s.epoch ∧
      (leaveForeground s).engine.queue = s.engine.queue ∧
      (leaveForeground s).engine.background = s.engine.background ∧
      (leaveForeground s).engine.barred = s.engine.barred ∧
      (leaveForeground s).engine.upper = s.engine.upper ∧
      (leaveForeground s).engine.lower = s.engine.lower ∧
      (leaveForeground s).engine.defer = s.engine.defer ∧
      (leaveForeground s).timing = s.timing ∧
      (leaveForeground s).zones = s.zones ∧
      (leaveForeground s).stations = s.stations ∧
      (leaveForeground s).branches = s.branches ∧
      (leaveForeground s).sweep = s.sweep ∧
      (leaveForeground s).console = s.console ∧
      (leaveForeground s).freeUsed = s.freeUsed ∧
      (leaveForeground s).pending = s.pending := by
  unfold leaveForeground
  first | (refine ⟨rfl, rfl, rfl, rfl, rfl, rfl, rfl, rfl, rfl, rfl, rfl, rfl, rfl, rfl, rfl, rfl, rfl⟩; done) | (simp; done) | ((repeat' split) <;> (simp; done)) | (dsimp only; (repeat' split) <;> simp)

/-- What `leaveBackground` leaves unchanged. -/
@[simp] theorem leaveBackground_frame (s : State) :
    (leaveBackground s).plan = s.plan ∧
      (leaveBackground s).slots = s.slots ∧
      (leaveBackground s).epoch = s.epoch ∧
      (leaveBackground s).engine.queue = s.engine.queue ∧
      (leaveBackground s).engine.foreground = s.engine.foreground ∧
      (leaveBackground s).engine.barred = s.engine.barred ∧
      (leaveBackground s).engine.upper = s.engine.upper ∧
      (leaveBackground s).engine.lower = s.engine.lower ∧
      (leaveBackground s).engine.defer = s.engine.defer ∧
      (leaveBackground s).timing = s.timing ∧
      (leaveBackground s).zones = s.zones ∧
      (leaveBackground s).stations = s.stations ∧
      (leaveBackground s).branches = s.branches ∧
      (leaveBackground s).sweep = s.sweep ∧
      (leaveBackground s).console = s.console ∧
      (leaveBackground s).freeUsed = s.freeUsed ∧
      (leaveBackground s).pending = s.pending := by
  unfold leaveBackground
  first | (refine ⟨rfl, rfl, rfl, rfl, rfl, rfl, rfl, rfl, rfl, rfl, rfl, rfl, rfl, rfl, rfl, rfl, rfl⟩; done) | (simp; done) | ((repeat' split) <;> (simp; done)) | (dsimp only; (repeat' split) <;> simp)

/-- What `barZone` leaves unchanged. -/
@[simp] theorem barZone_frame (z : Fin 16) (s : State) :
    (barZone z s).plan = s.plan ∧
      (barZone z s).slots = s.slots ∧
      (barZone z s).epoch = s.epoch ∧
      (barZone z s).engine.queue = s.engine.queue ∧
      (barZone z s).engine.foreground = s.engine.foreground ∧
      (barZone z s).engine.background = s.engine.background ∧
      (barZone z s).engine.upper = s.engine.upper ∧
      (barZone z s).engine.lower = s.engine.lower ∧
      (barZone z s).engine.defer = s.engine.defer ∧
      (barZone z s).timing = s.timing ∧
      (barZone z s).zones = s.zones ∧
      (barZone z s).stations = s.stations ∧
      (barZone z s).branches = s.branches ∧
      (barZone z s).sweep = s.sweep ∧
      (barZone z s).console = s.console ∧
      (barZone z s).freeUsed = s.freeUsed ∧
      (barZone z s).pending = s.pending := by
  unfold barZone
  first | (refine ⟨rfl, rfl, rfl, rfl, rfl, rfl, rfl, rfl, rfl, rfl, rfl, rfl, rfl, rfl, rfl, rfl, rfl⟩; done) | (simp; done) | ((repeat' split) <;> (simp; done)) | (dsimp only; (repeat' split) <;> simp)

/-- What `answerWork` leaves unchanged. -/
@[simp] theorem answerWork_frame (r : Fin 48) (a : Answer) (s : State) :
    (answerWork r a s).plan = s.plan ∧
      (answerWork r a s).slots = s.slots ∧
      (answerWork r a s).epoch = s.epoch ∧
      (answerWork r a s).engine.queue = s.engine.queue ∧
      (answerWork r a s).engine.background = s.engine.background ∧
      (answerWork r a s).engine.barred = s.engine.barred ∧
      (answerWork r a s).engine.upper = s.engine.upper ∧
      (answerWork r a s).engine.lower = s.engine.lower ∧
      (answerWork r a s).engine.defer = s.engine.defer ∧
      (answerWork r a s).timing = s.timing ∧
      (answerWork r a s).zones = s.zones ∧
      (answerWork r a s).branches = s.branches ∧
      (answerWork r a s).sweep = s.sweep ∧
      (answerWork r a s).console = s.console ∧
      (answerWork r a s).freeUsed = s.freeUsed ∧
      (answerWork r a s).pending = s.pending := by
  unfold answerWork
  first | (refine ⟨rfl, rfl, rfl, rfl, rfl, rfl, rfl, rfl, rfl, rfl, rfl, rfl, rfl, rfl, rfl, rfl⟩; done) | (simp; done) | ((repeat' split) <;> (simp; done)) | (dsimp only; (repeat' split) <;> simp)

/-- What `closeSearch` leaves unchanged. -/
@[simp] theorem closeSearch_frame (job : Job) (why : RefuseReason) (s : State) :
    (closeSearch job why s).plan = s.plan ∧
      (closeSearch job why s).slots = s.slots ∧
      (closeSearch job why s).epoch = s.epoch ∧
      (closeSearch job why s).engine.queue = s.engine.queue ∧
      (closeSearch job why s).engine.upper = s.engine.upper ∧
      (closeSearch job why s).engine.lower = s.engine.lower ∧
      (closeSearch job why s).engine.defer = s.engine.defer ∧
      (closeSearch job why s).timing = s.timing ∧
      (closeSearch job why s).zones = s.zones ∧
      (closeSearch job why s).branches = s.branches ∧
      (closeSearch job why s).sweep = s.sweep ∧
      (closeSearch job why s).console = s.console ∧
      (closeSearch job why s).freeUsed = s.freeUsed ∧
      (closeSearch job why s).pending = s.pending := by
  unfold closeSearch
  first | (refine ⟨rfl, rfl, rfl, rfl, rfl, rfl, rfl, rfl, rfl, rfl, rfl, rfl, rfl, rfl⟩; done) | (simp; done) | ((repeat' split) <;> (simp; done)) | (dsimp only; (repeat' split) <;> simp)

/-- What `beginWalk` leaves unchanged. -/
@[simp] theorem beginWalk_frame (job : Job) (research : Nat) (s : State) :
    (beginWalk job research s).plan = s.plan ∧
      (beginWalk job research s).slots = s.slots ∧
      (beginWalk job research s).epoch = s.epoch ∧
      (beginWalk job research s).engine.queue = s.engine.queue ∧
      (beginWalk job research s).engine.upper = s.engine.upper ∧
      (beginWalk job research s).engine.lower = s.engine.lower ∧
      (beginWalk job research s).engine.defer = s.engine.defer ∧
      (beginWalk job research s).timing = s.timing ∧
      (beginWalk job research s).zones = s.zones ∧
      (beginWalk job research s).branches = s.branches ∧
      (beginWalk job research s).sweep = s.sweep ∧
      (beginWalk job research s).console = s.console ∧
      (beginWalk job research s).freeUsed = s.freeUsed ∧
      (beginWalk job research s).pending = s.pending := by
  unfold beginWalk
  first | (refine ⟨rfl, rfl, rfl, rfl, rfl, rfl, rfl, rfl, rfl, rfl, rfl, rfl, rfl, rfl⟩; done) | (simp; done) | ((repeat' split) <;> (simp; done)) | (dsimp only; (repeat' split) <;> simp)

/-- A refill's search leaves the foreground and the stations alone. -/
@[simp] theorem closeSearch_refill_frame (z : Fin 16) (why : RefuseReason) (s : State) :
    (closeSearch (.refill z) why s).engine.foreground = s.engine.foreground ∧
      (closeSearch (.refill z) why s).stations = s.stations := by
  unfold closeSearch
  simp

/-- The beginning of a refill's walk leaves the foreground and the stations alone. -/
@[simp] theorem beginWalk_refill_frame (z : Fin 16) (n : Nat) (s : State) :
    (beginWalk (.refill z) n s).engine.foreground = s.engine.foreground ∧
      (beginWalk (.refill z) n s).stations = s.stations := by
  unfold beginWalk
  dsimp only
  split
  · simp
  · simp [setContext]

/-- What `startRefillFrom` leaves unchanged. -/
@[simp] theorem startRefillFrom_frame (zs : List (Fin 16)) (s : State) :
    (startRefillFrom zs s).plan = s.plan ∧
      (startRefillFrom zs s).slots = s.slots ∧
      (startRefillFrom zs s).epoch = s.epoch ∧
      (startRefillFrom zs s).engine.queue = s.engine.queue ∧
      (startRefillFrom zs s).engine.foreground = s.engine.foreground ∧
      (startRefillFrom zs s).engine.upper = s.engine.upper ∧
      (startRefillFrom zs s).engine.lower = s.engine.lower ∧
      (startRefillFrom zs s).engine.defer = s.engine.defer ∧
      (startRefillFrom zs s).timing = s.timing ∧
      (startRefillFrom zs s).zones = s.zones ∧
      (startRefillFrom zs s).stations = s.stations ∧
      (startRefillFrom zs s).branches = s.branches ∧
      (startRefillFrom zs s).sweep = s.sweep ∧
      (startRefillFrom zs s).console = s.console ∧
      (startRefillFrom zs s).freeUsed = s.freeUsed ∧
      (startRefillFrom zs s).pending = s.pending := by
  induction zs generalizing s with
  | nil => simp [startRefillFrom]
  | cons z rest ih =>
    unfold startRefillFrom
    dsimp only
    (repeat' split) <;> simp [ih]

/-- What `startRefill` leaves unchanged. -/
@[simp] theorem startRefill_frame (s : State) :
    (startRefill s).plan = s.plan ∧
      (startRefill s).slots = s.slots ∧
      (startRefill s).epoch = s.epoch ∧
      (startRefill s).engine.queue = s.engine.queue ∧
      (startRefill s).engine.foreground = s.engine.foreground ∧
      (startRefill s).engine.upper = s.engine.upper ∧
      (startRefill s).engine.lower = s.engine.lower ∧
      (startRefill s).engine.defer = s.engine.defer ∧
      (startRefill s).timing = s.timing ∧
      (startRefill s).zones = s.zones ∧
      (startRefill s).stations = s.stations ∧
      (startRefill s).branches = s.branches ∧
      (startRefill s).sweep = s.sweep ∧
      (startRefill s).console = s.console ∧
      (startRefill s).freeUsed = s.freeUsed ∧
      (startRefill s).pending = s.pending := by
  unfold startRefill
  first | (refine ⟨rfl, rfl, rfl, rfl, rfl, rfl, rfl, rfl, rfl, rfl, rfl, rfl, rfl, rfl, rfl, rfl⟩; done) | (simp; done) | ((repeat' split) <;> (simp; done)) | (dsimp only; (repeat' split) <;> simp)

/-- What `discardRefill` leaves unchanged. -/
@[simp] theorem discardRefill_frame (z : Fin 16) (s : State) :
    (discardRefill z s).plan = s.plan ∧
      (discardRefill z s).slots = s.slots ∧
      (discardRefill z s).epoch = s.epoch ∧
      (discardRefill z s).engine.queue = s.engine.queue ∧
      (discardRefill z s).engine.foreground = s.engine.foreground ∧
      (discardRefill z s).engine.barred = s.engine.barred ∧
      (discardRefill z s).engine.upper = s.engine.upper ∧
      (discardRefill z s).engine.lower = s.engine.lower ∧
      (discardRefill z s).engine.defer = s.engine.defer ∧
      (discardRefill z s).timing = s.timing ∧
      (discardRefill z s).zones = s.zones ∧
      (discardRefill z s).stations = s.stations ∧
      (discardRefill z s).branches = s.branches ∧
      (discardRefill z s).sweep = s.sweep ∧
      (discardRefill z s).console = s.console ∧
      (discardRefill z s).freeUsed = s.freeUsed ∧
      (discardRefill z s).pending = s.pending := by
  unfold discardRefill
  first | (refine ⟨rfl, rfl, rfl, rfl, rfl, rfl, rfl, rfl, rfl, rfl, rfl, rfl, rfl, rfl, rfl, rfl, rfl⟩; done) | (simp; done) | ((repeat' split) <;> (simp; done)) | (dsimp only; (repeat' split) <;> simp)

/-- What `recordGrant` leaves unchanged. -/
@[simp] theorem recordGrant_frame (w : RequestWork) (f : Nat) (s : State) :
    (recordGrant w f s).plan = s.plan ∧
      (recordGrant w f s).engine.queue = s.engine.queue ∧
      (recordGrant w f s).engine.upper = s.engine.upper ∧
      (recordGrant w f s).engine.lower = s.engine.lower ∧
      (recordGrant w f s).engine.defer = s.engine.defer ∧
      (recordGrant w f s).timing = s.timing ∧
      (recordGrant w f s).zones = s.zones ∧
      (recordGrant w f s).branches = s.branches ∧
      (recordGrant w f s).sweep = s.sweep ∧
      (recordGrant w f s).console = s.console ∧
      (recordGrant w f s).freeUsed = s.freeUsed ∧
      (recordGrant w f s).pending = s.pending := by
  unfold recordGrant
  first | (refine ⟨rfl, rfl, rfl, rfl, rfl, rfl, rfl, rfl, rfl, rfl, rfl, rfl⟩; done) | (simp; done) | ((repeat' split) <;> (simp; done)) | (dsimp only; (repeat' split) <;> simp)

/-- What `recordMove` leaves unchanged. -/
@[simp] theorem recordMove_frame (w : MoveWork) (f : Nat) (s : State) :
    (recordMove w f s).plan = s.plan ∧
      (recordMove w f s).engine.queue = s.engine.queue ∧
      (recordMove w f s).engine.barred = s.engine.barred ∧
      (recordMove w f s).engine.upper = s.engine.upper ∧
      (recordMove w f s).engine.lower = s.engine.lower ∧
      (recordMove w f s).engine.defer = s.engine.defer ∧
      (recordMove w f s).timing = s.timing ∧
      (recordMove w f s).zones = s.zones ∧
      (recordMove w f s).branches = s.branches ∧
      (recordMove w f s).sweep = s.sweep ∧
      (recordMove w f s).console = s.console ∧
      (recordMove w f s).freeUsed = s.freeUsed ∧
      (recordMove w f s).pending = s.pending := by
  unfold recordMove
  first | (refine ⟨rfl, rfl, rfl, rfl, rfl, rfl, rfl, rfl, rfl, rfl, rfl, rfl, rfl⟩; done) | (simp; done) | ((repeat' split) <;> (simp; done)) | (dsimp only; (repeat' split) <;> simp)

/-- What `recordSpare` leaves unchanged. -/
@[simp] theorem recordSpare_frame (z : Fin 16) (f : Nat) (s : State) :
    (recordSpare z f s).plan = s.plan ∧
      (recordSpare z f s).engine.queue = s.engine.queue ∧
      (recordSpare z f s).engine.upper = s.engine.upper ∧
      (recordSpare z f s).engine.lower = s.engine.lower ∧
      (recordSpare z f s).engine.defer = s.engine.defer ∧
      (recordSpare z f s).timing = s.timing ∧
      (recordSpare z f s).stations = s.stations ∧
      (recordSpare z f s).branches = s.branches ∧
      (recordSpare z f s).sweep = s.sweep ∧
      (recordSpare z f s).console = s.console ∧
      (recordSpare z f s).freeUsed = s.freeUsed ∧
      (recordSpare z f s).pending = s.pending := by
  unfold recordSpare
  first | (refine ⟨rfl, rfl, rfl, rfl, rfl, rfl, rfl, rfl, rfl, rfl, rfl, rfl⟩; done) | (simp; done) | ((repeat' split) <;> (simp; done)) | (dsimp only; (repeat' split) <;> simp)

/-- What `recordFound` leaves unchanged. -/
@[simp] theorem recordFound_frame (job : Job) (f : Nat) (s : State) :
    (recordFound job f s).plan = s.plan ∧
      (recordFound job f s).engine.queue = s.engine.queue ∧
      (recordFound job f s).engine.upper = s.engine.upper ∧
      (recordFound job f s).engine.lower = s.engine.lower ∧
      (recordFound job f s).engine.defer = s.engine.defer ∧
      (recordFound job f s).timing = s.timing ∧
      (recordFound job f s).branches = s.branches ∧
      (recordFound job f s).sweep = s.sweep ∧
      (recordFound job f s).console = s.console ∧
      (recordFound job f s).freeUsed = s.freeUsed ∧
      (recordFound job f s).pending = s.pending := by
  unfold recordFound
  first | (refine ⟨rfl, rfl, rfl, rfl, rfl, rfl, rfl, rfl, rfl, rfl, rfl⟩; done) | (simp; done) | ((repeat' split) <;> (simp; done)) | (dsimp only; (repeat' split) <;> simp)

/-- What `fullResearch` leaves unchanged. -/
@[simp] theorem fullResearch_frame (job : Job) (c : SearchContext) (s : State) :
    (fullResearch job c s).plan = s.plan ∧
      (fullResearch job c s).slots = s.slots ∧
      (fullResearch job c s).epoch = s.epoch ∧
      (fullResearch job c s).engine.queue = s.engine.queue ∧
      (fullResearch job c s).engine.upper = s.engine.upper ∧
      (fullResearch job c s).engine.lower = s.engine.lower ∧
      (fullResearch job c s).engine.defer = s.engine.defer ∧
      (fullResearch job c s).timing = s.timing ∧
      (fullResearch job c s).zones = s.zones ∧
      (fullResearch job c s).branches = s.branches ∧
      (fullResearch job c s).sweep = s.sweep ∧
      (fullResearch job c s).console = s.console ∧
      (fullResearch job c s).freeUsed = s.freeUsed ∧
      (fullResearch job c s).pending = s.pending := by
  unfold fullResearch
  first | (refine ⟨rfl, rfl, rfl, rfl, rfl, rfl, rfl, rfl, rfl, rfl, rfl, rfl, rfl, rfl⟩; done) | (simp; done) | ((repeat' split) <;> (simp; done)) | (dsimp only; (repeat' split) <;> simp)

/-- What `evaluateNext` leaves unchanged. -/
@[simp] theorem evaluateNext_frame (job : Job) (c : SearchContext) (s : State) :
    (evaluateNext job c s).plan = s.plan ∧
      (evaluateNext job c s).slots = s.slots ∧
      (evaluateNext job c s).epoch = s.epoch ∧
      (evaluateNext job c s).engine.queue = s.engine.queue ∧
      (evaluateNext job c s).engine.upper = s.engine.upper ∧
      (evaluateNext job c s).engine.lower = s.engine.lower ∧
      (evaluateNext job c s).engine.defer = s.engine.defer ∧
      (evaluateNext job c s).timing = s.timing ∧
      (evaluateNext job c s).zones = s.zones ∧
      (evaluateNext job c s).branches = s.branches ∧
      (evaluateNext job c s).sweep = s.sweep ∧
      (evaluateNext job c s).console = s.console ∧
      (evaluateNext job c s).freeUsed = s.freeUsed ∧
      (evaluateNext job c s).pending = s.pending := by
  unfold evaluateNext
  first | (refine ⟨rfl, rfl, rfl, rfl, rfl, rfl, rfl, rfl, rfl, rfl, rfl, rfl, rfl, rfl⟩; done) | (simp; done) | ((repeat' split) <;> (simp; done)) | (dsimp only; (repeat' split) <;> simp)

/-- What `completeSearch` leaves unchanged. -/
@[simp] theorem completeSearch_frame (job : Job) (c : SearchContext) (f : Nat) (afterRetest : Bool) (s : State) :
    (completeSearch job c f afterRetest s).plan = s.plan ∧
      (completeSearch job c f afterRetest s).engine.queue = s.engine.queue ∧
      (completeSearch job c f afterRetest s).engine.upper = s.engine.upper ∧
      (completeSearch job c f afterRetest s).engine.lower = s.engine.lower ∧
      (completeSearch job c f afterRetest s).engine.defer = s.engine.defer ∧
      (completeSearch job c f afterRetest s).timing = s.timing ∧
      (completeSearch job c f afterRetest s).branches = s.branches ∧
      (completeSearch job c f afterRetest s).sweep = s.sweep ∧
      (completeSearch job c f afterRetest s).console = s.console ∧
      (completeSearch job c f afterRetest s).freeUsed = s.freeUsed ∧
      (completeSearch job c f afterRetest s).pending = s.pending := by
  unfold completeSearch
  first | (refine ⟨rfl, rfl, rfl, rfl, rfl, rfl, rfl, rfl, rfl, rfl, rfl⟩; done) | (simp; done) | ((repeat' split) <;> (simp; done)) | (dsimp only; (repeat' split) <;> simp)

/-- What `retestSearch` leaves unchanged. -/
@[simp] theorem retestSearch_frame (job : Job) (c : SearchContext) (f : Nat) (s : State) :
    (retestSearch job c f s).plan = s.plan ∧
      (retestSearch job c f s).slots = s.slots ∧
      (retestSearch job c f s).epoch = s.epoch ∧
      (retestSearch job c f s).engine.queue = s.engine.queue ∧
      (retestSearch job c f s).engine.upper = s.engine.upper ∧
      (retestSearch job c f s).engine.lower = s.engine.lower ∧
      (retestSearch job c f s).engine.defer = s.engine.defer ∧
      (retestSearch job c f s).timing = s.timing ∧
      (retestSearch job c f s).zones = s.zones ∧
      (retestSearch job c f s).branches = s.branches ∧
      (retestSearch job c f s).sweep = s.sweep ∧
      (retestSearch job c f s).console = s.console ∧
      (retestSearch job c f s).freeUsed = s.freeUsed ∧
      (retestSearch job c f s).pending = s.pending := by
  unfold retestSearch
  first | (refine ⟨rfl, rfl, rfl, rfl, rfl, rfl, rfl, rfl, rfl, rfl, rfl, rfl, rfl, rfl⟩; done) | (simp; done) | ((repeat' split) <;> (simp; done)) | (dsimp only; (repeat' split) <;> simp)

/-- What `closePin` leaves unchanged. -/
@[simp] theorem closePin_frame (outcome : HostOutcome) (s : State) :
    (closePin outcome s).plan = s.plan ∧
      (closePin outcome s).slots = s.slots ∧
      (closePin outcome s).epoch = s.epoch ∧
      (closePin outcome s).engine.queue = s.engine.queue ∧
      (closePin outcome s).engine.background = s.engine.background ∧
      (closePin outcome s).engine.barred = s.engine.barred ∧
      (closePin outcome s).engine.upper = s.engine.upper ∧
      (closePin outcome s).engine.lower = s.engine.lower ∧
      (closePin outcome s).engine.defer = s.engine.defer ∧
      (closePin outcome s).timing = s.timing ∧
      (closePin outcome s).zones = s.zones ∧
      (closePin outcome s).stations = s.stations ∧
      (closePin outcome s).branches = s.branches ∧
      (closePin outcome s).sweep = s.sweep ∧
      (closePin outcome s).console.mode = s.console.mode ∧
      (closePin outcome s).console.mask = s.console.mask ∧
      (closePin outcome s).console.response = s.console.response ∧
      (closePin outcome s).freeUsed = s.freeUsed ∧
      (closePin outcome s).pending = s.pending := by
  unfold closePin
  first | (refine ⟨rfl, rfl, rfl, rfl, rfl, rfl, rfl, rfl, rfl, rfl, rfl, rfl, rfl, rfl, rfl, rfl, rfl, rfl, rfl⟩; done) | (simp; done) | ((repeat' split) <;> (simp; done)) | (dsimp only; (repeat' split) <;> simp)

/-- What `beginPin` leaves unchanged. -/
@[simp] theorem beginPin_frame (w : PinWork) (research : Nat) (s : State) :
    (beginPin w research s).plan = s.plan ∧
      (beginPin w research s).slots = s.slots ∧
      (beginPin w research s).epoch = s.epoch ∧
      (beginPin w research s).engine.queue = s.engine.queue ∧
      (beginPin w research s).engine.background = s.engine.background ∧
      (beginPin w research s).engine.barred = s.engine.barred ∧
      (beginPin w research s).engine.upper = s.engine.upper ∧
      (beginPin w research s).engine.lower = s.engine.lower ∧
      (beginPin w research s).engine.defer = s.engine.defer ∧
      (beginPin w research s).timing = s.timing ∧
      (beginPin w research s).zones = s.zones ∧
      (beginPin w research s).stations = s.stations ∧
      (beginPin w research s).branches = s.branches ∧
      (beginPin w research s).sweep = s.sweep ∧
      (beginPin w research s).console.mode = s.console.mode ∧
      (beginPin w research s).console.mask = s.console.mask ∧
      (beginPin w research s).console.response = s.console.response ∧
      (beginPin w research s).freeUsed = s.freeUsed ∧
      (beginPin w research s).pending = s.pending := by
  unfold beginPin
  first | (refine ⟨rfl, rfl, rfl, rfl, rfl, rfl, rfl, rfl, rfl, rfl, rfl, rfl, rfl, rfl, rfl, rfl, rfl, rfl, rfl⟩; done) | (simp; done) | ((repeat' split) <;> (simp; done)) | (dsimp only; (repeat' split) <;> simp)

/-- What `retestPin` leaves unchanged. -/
@[simp] theorem retestPin_frame (w : PinWork) (c : SearchContext) (s : State) :
    (retestPin w c s).plan = s.plan ∧
      (retestPin w c s).slots = s.slots ∧
      (retestPin w c s).epoch = s.epoch ∧
      (retestPin w c s).engine.queue = s.engine.queue ∧
      (retestPin w c s).engine.background = s.engine.background ∧
      (retestPin w c s).engine.barred = s.engine.barred ∧
      (retestPin w c s).engine.upper = s.engine.upper ∧
      (retestPin w c s).engine.lower = s.engine.lower ∧
      (retestPin w c s).engine.defer = s.engine.defer ∧
      (retestPin w c s).timing = s.timing ∧
      (retestPin w c s).zones = s.zones ∧
      (retestPin w c s).stations = s.stations ∧
      (retestPin w c s).branches = s.branches ∧
      (retestPin w c s).sweep = s.sweep ∧
      (retestPin w c s).console.mode = s.console.mode ∧
      (retestPin w c s).console.mask = s.console.mask ∧
      (retestPin w c s).console.response = s.console.response ∧
      (retestPin w c s).freeUsed = s.freeUsed ∧
      (retestPin w c s).pending = s.pending := by
  unfold retestPin
  first | (refine ⟨rfl, rfl, rfl, rfl, rfl, rfl, rfl, rfl, rfl, rfl, rfl, rfl, rfl, rfl, rfl, rfl, rfl, rfl, rfl⟩; done) | (simp; done) | ((repeat' split) <;> (simp; done)) | (dsimp only; (repeat' split) <;> simp)

/-- What `recordCheckedPin` leaves unchanged. -/
@[simp] theorem recordCheckedPin_frame (w : PinWork) (s : State) :
    (recordCheckedPin w s).plan = s.plan ∧
      (recordCheckedPin w s).engine.queue = s.engine.queue ∧
      (recordCheckedPin w s).engine.barred = s.engine.barred ∧
      (recordCheckedPin w s).engine.upper = s.engine.upper ∧
      (recordCheckedPin w s).engine.lower = s.engine.lower ∧
      (recordCheckedPin w s).engine.defer = s.engine.defer ∧
      (recordCheckedPin w s).timing = s.timing ∧
      (recordCheckedPin w s).zones = s.zones ∧
      (recordCheckedPin w s).stations = s.stations ∧
      (recordCheckedPin w s).branches = s.branches ∧
      (recordCheckedPin w s).sweep = s.sweep ∧
      (recordCheckedPin w s).console.mode = s.console.mode ∧
      (recordCheckedPin w s).console.mask = s.console.mask ∧
      (recordCheckedPin w s).console.response = s.console.response ∧
      (recordCheckedPin w s).freeUsed = s.freeUsed ∧
      (recordCheckedPin w s).pending = s.pending := by
  unfold recordCheckedPin
  first | (refine ⟨rfl, rfl, rfl, rfl, rfl, rfl, rfl, rfl, rfl, rfl, rfl, rfl, rfl, rfl, rfl, rfl⟩; done) | (simp; done) | ((repeat' split) <;> (simp; done)) | (dsimp only; (repeat' split) <;> simp)

/-- What `completePin` leaves unchanged. -/
@[simp] theorem completePin_frame (w : PinWork) (c : SearchContext) (afterRetest : Bool) (s : State) :
    (completePin w c afterRetest s).plan = s.plan ∧
      (completePin w c afterRetest s).engine.queue = s.engine.queue ∧
      (completePin w c afterRetest s).engine.barred = s.engine.barred ∧
      (completePin w c afterRetest s).engine.upper = s.engine.upper ∧
      (completePin w c afterRetest s).engine.lower = s.engine.lower ∧
      (completePin w c afterRetest s).engine.defer = s.engine.defer ∧
      (completePin w c afterRetest s).timing = s.timing ∧
      (completePin w c afterRetest s).zones = s.zones ∧
      (completePin w c afterRetest s).stations = s.stations ∧
      (completePin w c afterRetest s).branches = s.branches ∧
      (completePin w c afterRetest s).sweep = s.sweep ∧
      (completePin w c afterRetest s).console.mode = s.console.mode ∧
      (completePin w c afterRetest s).console.mask = s.console.mask ∧
      (completePin w c afterRetest s).console.response = s.console.response ∧
      (completePin w c afterRetest s).freeUsed = s.freeUsed ∧
      (completePin w c afterRetest s).pending = s.pending := by
  unfold completePin
  first | (refine ⟨rfl, rfl, rfl, rfl, rfl, rfl, rfl, rfl, rfl, rfl, rfl, rfl, rfl, rfl, rfl, rfl⟩; done) | (simp; done) | ((repeat' split) <;> (simp; done)) | (dsimp only; (repeat' split) <;> simp)

/-- What `auditSlot` leaves unchanged. -/
@[simp] theorem auditSlot_frame (i : Fin 384) (s : State) :
    (auditSlot i s).plan = s.plan ∧
      (auditSlot i s).epoch = s.epoch ∧
      (auditSlot i s).engine = s.engine ∧
      (auditSlot i s).timing = s.timing ∧
      (auditSlot i s).zones = s.zones ∧
      (auditSlot i s).stations = s.stations ∧
      (auditSlot i s).branches = s.branches ∧
      (auditSlot i s).sweep = s.sweep ∧
      (auditSlot i s).console = s.console ∧
      (auditSlot i s).freeUsed = s.freeUsed ∧
      (auditSlot i s).pending = s.pending := by
  unfold auditSlot
  first | (refine ⟨rfl, rfl, rfl, rfl, rfl, rfl, rfl, rfl, rfl, rfl, rfl⟩; done) | (simp; done) | ((repeat' split) <;> (simp; done)) | (dsimp only; (repeat' split) <;> simp)

/-- What `closeAudit` leaves unchanged. -/
@[simp] theorem closeAudit_frame (flagged : Nat) (s : State) :
    (closeAudit flagged s).plan = s.plan ∧
      (closeAudit flagged s).slots = s.slots ∧
      (closeAudit flagged s).epoch = s.epoch ∧
      (closeAudit flagged s).engine.queue = s.engine.queue ∧
      (closeAudit flagged s).engine.background = s.engine.background ∧
      (closeAudit flagged s).engine.barred = s.engine.barred ∧
      (closeAudit flagged s).engine.upper = s.engine.upper ∧
      (closeAudit flagged s).engine.lower = s.engine.lower ∧
      (closeAudit flagged s).engine.defer = s.engine.defer ∧
      (closeAudit flagged s).timing = s.timing ∧
      (closeAudit flagged s).zones = s.zones ∧
      (closeAudit flagged s).stations = s.stations ∧
      (closeAudit flagged s).branches = s.branches ∧
      (closeAudit flagged s).sweep = s.sweep ∧
      (closeAudit flagged s).console.mode = s.console.mode ∧
      (closeAudit flagged s).console.mask = s.console.mask ∧
      (closeAudit flagged s).console.response = s.console.response ∧
      (closeAudit flagged s).freeUsed = s.freeUsed ∧
      (closeAudit flagged s).pending = s.pending := by
  unfold closeAudit
  first | (refine ⟨rfl, rfl, rfl, rfl, rfl, rfl, rfl, rfl, rfl, rfl, rfl, rfl, rfl, rfl, rfl, rfl, rfl, rfl, rfl⟩; done) | (simp; done) | ((repeat' split) <;> (simp; done)) | (dsimp only; (repeat' split) <;> simp)

/-- What `auditVisit` leaves unchanged. -/
@[simp] theorem auditVisit_frame (n flagged : Nat) (s : State) :
    (auditVisit n flagged s).plan = s.plan ∧
      (auditVisit n flagged s).epoch = s.epoch ∧
      (auditVisit n flagged s).engine.queue = s.engine.queue ∧
      (auditVisit n flagged s).engine.background = s.engine.background ∧
      (auditVisit n flagged s).engine.barred = s.engine.barred ∧
      (auditVisit n flagged s).engine.upper = s.engine.upper ∧
      (auditVisit n flagged s).engine.lower = s.engine.lower ∧
      (auditVisit n flagged s).engine.defer = s.engine.defer ∧
      (auditVisit n flagged s).timing = s.timing ∧
      (auditVisit n flagged s).zones = s.zones ∧
      (auditVisit n flagged s).stations = s.stations ∧
      (auditVisit n flagged s).branches = s.branches ∧
      (auditVisit n flagged s).sweep = s.sweep ∧
      (auditVisit n flagged s).console.mode = s.console.mode ∧
      (auditVisit n flagged s).console.mask = s.console.mask ∧
      (auditVisit n flagged s).console.response = s.console.response ∧
      (auditVisit n flagged s).freeUsed = s.freeUsed ∧
      (auditVisit n flagged s).pending = s.pending := by
  unfold auditVisit
  first | (refine ⟨rfl, rfl, rfl, rfl, rfl, rfl, rfl, rfl, rfl, rfl, rfl, rfl, rfl, rfl, rfl, rfl, rfl, rfl⟩; done) | (simp; done) | ((repeat' split) <;> (simp; done)) | (dsimp only; (repeat' split) <;> simp)

/-- What `dequeue` leaves unchanged. -/
@[simp] theorem dequeue_frame (rest : List Work) (s : State) :
    (dequeue rest s).plan = s.plan ∧
      (dequeue rest s).slots = s.slots ∧
      (dequeue rest s).epoch = s.epoch ∧
      (dequeue rest s).engine.foreground = s.engine.foreground ∧
      (dequeue rest s).engine.background = s.engine.background ∧
      (dequeue rest s).engine.barred = s.engine.barred ∧
      (dequeue rest s).engine.upper = s.engine.upper ∧
      (dequeue rest s).engine.lower = s.engine.lower ∧
      (dequeue rest s).timing = s.timing ∧
      (dequeue rest s).zones = s.zones ∧
      (dequeue rest s).stations = s.stations ∧
      (dequeue rest s).branches = s.branches ∧
      (dequeue rest s).sweep = s.sweep ∧
      (dequeue rest s).console = s.console ∧
      (dequeue rest s).freeUsed = s.freeUsed ∧
      (dequeue rest s).pending = s.pending := by
  unfold dequeue
  first | (refine ⟨rfl, rfl, rfl, rfl, rfl, rfl, rfl, rfl, rfl, rfl, rfl, rfl, rfl, rfl, rfl, rfl⟩; done) | (simp; done) | ((repeat' split) <;> (simp; done)) | (dsimp only; (repeat' split) <;> simp)

/-- What `beginWork` leaves unchanged. -/
@[simp] theorem beginWork_frame (w : Work) (s : State) :
    (beginWork w s).plan = s.plan ∧
      (beginWork w s).epoch = s.epoch ∧
      (beginWork w s).engine.queue = s.engine.queue ∧
      (beginWork w s).engine.upper = s.engine.upper ∧
      (beginWork w s).engine.lower = s.engine.lower ∧
      (beginWork w s).engine.defer = s.engine.defer ∧
      (beginWork w s).timing = s.timing ∧
      (beginWork w s).zones = s.zones ∧
      (beginWork w s).branches = s.branches ∧
      (beginWork w s).sweep = s.sweep ∧
      (beginWork w s).console.mode = s.console.mode ∧
      (beginWork w s).console.mask = s.console.mask ∧
      (beginWork w s).console.response = s.console.response ∧
      (beginWork w s).freeUsed = s.freeUsed ∧
      (beginWork w s).pending = s.pending := by
  unfold beginWork
  first | (refine ⟨rfl, rfl, rfl, rfl, rfl, rfl, rfl, rfl, rfl, rfl, rfl, rfl, rfl, rfl, rfl⟩; done) | (simp; done) | ((repeat' split) <;> (simp; done)) | (dsimp only; (repeat' split) <;> simp)

/-- What `takeWork` leaves unchanged. -/
@[simp] theorem takeWork_frame (s : State) :
    (takeWork s).plan = s.plan ∧
      (takeWork s).epoch = s.epoch ∧
      (takeWork s).engine.upper = s.engine.upper ∧
      (takeWork s).engine.lower = s.engine.lower ∧
      (takeWork s).timing = s.timing ∧
      (takeWork s).zones = s.zones ∧
      (takeWork s).branches = s.branches ∧
      (takeWork s).sweep = s.sweep ∧
      (takeWork s).console.mode = s.console.mode ∧
      (takeWork s).console.mask = s.console.mask ∧
      (takeWork s).console.response = s.console.response ∧
      (takeWork s).freeUsed = s.freeUsed ∧
      (takeWork s).pending = s.pending := by
  unfold takeWork
  first | (refine ⟨rfl, rfl, rfl, rfl, rfl, rfl, rfl, rfl, rfl, rfl, rfl, rfl, rfl⟩; done) | (simp; done) | ((repeat' split) <;> (simp; done)) | (dsimp only; (repeat' split) <;> simp)

/-- What `abandonWork` leaves unchanged. -/
@[simp] theorem abandonWork_frame (s : State) :
    (abandonWork s).plan = s.plan ∧
      (abandonWork s).slots = s.slots ∧
      (abandonWork s).epoch = s.epoch ∧
      (abandonWork s).engine.barred = s.engine.barred ∧
      (abandonWork s).engine.upper = s.engine.upper ∧
      (abandonWork s).engine.lower = s.engine.lower ∧
      (abandonWork s).timing = s.timing ∧
      (abandonWork s).zones = s.zones ∧
      (abandonWork s).branches = s.branches ∧
      (abandonWork s).sweep = s.sweep ∧
      (abandonWork s).console.mode = s.console.mode ∧
      (abandonWork s).console.mask = s.console.mask ∧
      (abandonWork s).console.response = s.console.response ∧
      (abandonWork s).freeUsed = s.freeUsed ∧
      (abandonWork s).pending = s.pending := by
  unfold abandonWork
  exact foldl_ind (fun t => t.plan = s.plan ∧ t.slots = s.slots ∧ t.epoch = s.epoch ∧ t.engine.barred = s.engine.barred ∧ t.engine.upper = s.engine.upper ∧ t.engine.lower = s.engine.lower ∧ t.timing = s.timing ∧ t.zones = s.zones ∧ t.branches = s.branches ∧ t.sweep = s.sweep ∧ t.console.mode = s.console.mode ∧ t.console.mask = s.console.mask ∧ t.console.response = s.console.response ∧ t.freeUsed = s.freeUsed ∧ t.pending = s.pending) _ (fun t a h => by simpa using h) _ _
    (foldl_ind (fun t => t.plan = s.plan ∧ t.slots = s.slots ∧ t.epoch = s.epoch ∧ t.engine.barred = s.engine.barred ∧ t.engine.upper = s.engine.upper ∧ t.engine.lower = s.engine.lower ∧ t.timing = s.timing ∧ t.zones = s.zones ∧ t.branches = s.branches ∧ t.sweep = s.sweep ∧ t.console.mode = s.console.mode ∧ t.console.mask = s.console.mask ∧ t.console.response = s.console.response ∧ t.freeUsed = s.freeUsed ∧ t.pending = s.pending) _ (fun t a h => by simpa using h) _ s (by simp))

/-- What `writePlan` leaves unchanged. -/
@[simp] theorem writePlan_frame (plan : Plan) (tightens : Bool) (s : State) :
    (writePlan plan tightens s).slots = s.slots ∧
      (writePlan plan tightens s).engine.queue = s.engine.queue ∧
      (writePlan plan tightens s).engine.upper = s.engine.upper ∧
      (writePlan plan tightens s).engine.lower = s.engine.lower ∧
      (writePlan plan tightens s).engine.defer = s.engine.defer ∧
      (writePlan plan tightens s).timing = s.timing ∧
      (writePlan plan tightens s).zones = s.zones ∧
      (writePlan plan tightens s).stations = s.stations ∧
      (writePlan plan tightens s).branches = s.branches ∧
      (writePlan plan tightens s).sweep = s.sweep ∧
      (writePlan plan tightens s).console = s.console ∧
      (writePlan plan tightens s).freeUsed = s.freeUsed ∧
      (writePlan plan tightens s).pending = s.pending := by
  unfold writePlan
  first | (refine ⟨rfl, rfl, rfl, rfl, rfl, rfl, rfl, rfl, rfl, rfl, rfl, rfl, rfl⟩; done) | (simp; done) | ((repeat' split) <;> (simp; done)) | (dsimp only; (repeat' split) <;> simp)

/-- What `applySpareSettings` leaves unchanged. -/
@[simp] theorem applySpareSettings_frame (z : Fin 16) (old new : ZonePlan) (s : State) :
    (applySpareSettings z old new s).plan = s.plan ∧
      (applySpareSettings z old new s).epoch = s.epoch ∧
      (applySpareSettings z old new s).engine.queue = s.engine.queue ∧
      (applySpareSettings z old new s).engine.foreground = s.engine.foreground ∧
      (applySpareSettings z old new s).engine.upper = s.engine.upper ∧
      (applySpareSettings z old new s).engine.lower = s.engine.lower ∧
      (applySpareSettings z old new s).engine.defer = s.engine.defer ∧
      (applySpareSettings z old new s).timing = s.timing ∧
      (applySpareSettings z old new s).branches = s.branches ∧
      (applySpareSettings z old new s).sweep = s.sweep ∧
      (applySpareSettings z old new s).console = s.console ∧
      (applySpareSettings z old new s).freeUsed = s.freeUsed ∧
      (applySpareSettings z old new s).pending = s.pending := by
  unfold applySpareSettings
  first | (refine ⟨rfl, rfl, rfl, rfl, rfl, rfl, rfl, rfl, rfl, rfl, rfl, rfl, rfl⟩; done) | (simp; done) | ((repeat' split) <;> (simp; done)) | (dsimp only; (repeat' split) <;> simp)

/-- What `handleQuery` leaves unchanged. -/
@[simp] theorem handleQuery_frame (r : Fin 48) (ch : Fin 64) (s : State) :
    (handleQuery r ch s).plan = s.plan ∧
      (handleQuery r ch s).slots = s.slots ∧
      (handleQuery r ch s).epoch = s.epoch ∧
      (handleQuery r ch s).engine = s.engine ∧
      (handleQuery r ch s).timing = s.timing ∧
      (handleQuery r ch s).zones = s.zones ∧
      (handleQuery r ch s).branches = s.branches ∧
      (handleQuery r ch s).sweep = s.sweep ∧
      (handleQuery r ch s).console = s.console ∧
      (handleQuery r ch s).freeUsed = s.freeUsed ∧
      (handleQuery r ch s).pending = s.pending := by
  unfold handleQuery
  first | (refine ⟨rfl, rfl, rfl, rfl, rfl, rfl, rfl, rfl, rfl, rfl, rfl⟩; done) | (simp; done) | ((repeat' split) <;> (simp; done)) | (dsimp only; (repeat' split) <;> simp)

/-- What `issueTick` leaves unchanged. -/
@[simp] theorem issueTick_frame (s : State) :
    (issueTick s).plan = s.plan ∧
      (issueTick s).epoch = s.epoch ∧
      (issueTick s).engine = s.engine ∧
      (issueTick s).timing = s.timing ∧
      (issueTick s).branches = s.branches ∧
      (issueTick s).sweep = s.sweep ∧
      (issueTick s).console = s.console ∧
      (issueTick s).freeUsed = s.freeUsed ∧
      (issueTick s).pending = s.pending := by
  unfold issueTick
  first | (refine ⟨rfl, rfl, rfl, rfl, rfl, rfl, rfl, rfl, rfl⟩; done) | (simp; done) | ((repeat' split) <;> (simp; done)) | (dsimp only; (repeat' split) <;> simp)

/-- What `stopTick` leaves unchanged. -/
@[simp] theorem stopTick_frame (s : State) :
    (stopTick s).plan = s.plan ∧
      (stopTick s).epoch = s.epoch ∧
      (stopTick s).engine = s.engine ∧
      (stopTick s).timing = s.timing ∧
      (stopTick s).branches = s.branches ∧
      (stopTick s).sweep = s.sweep ∧
      (stopTick s).console = s.console ∧
      (stopTick s).freeUsed = s.freeUsed ∧
      (stopTick s).pending = s.pending := by
  unfold stopTick
  first | (refine ⟨rfl, rfl, rfl, rfl, rfl, rfl, rfl, rfl, rfl⟩; done) | (simp; done) | ((repeat' split) <;> (simp; done)) | (dsimp only; (repeat' split) <;> simp)

/-- What `lapseStation` leaves unchanged. -/
@[simp] theorem lapseStation_frame (r : Fin 48) (s : State) :
    (lapseStation r s).plan = s.plan ∧
      (lapseStation r s).epoch = s.epoch ∧
      (lapseStation r s).engine = s.engine ∧
      (lapseStation r s).timing = s.timing ∧
      (lapseStation r s).zones = s.zones ∧
      (lapseStation r s).branches = s.branches ∧
      (lapseStation r s).sweep = s.sweep ∧
      (lapseStation r s).console.mode = s.console.mode ∧
      (lapseStation r s).console.openRequest = s.console.openRequest ∧
      (lapseStation r s).console.result = s.console.result ∧
      (lapseStation r s).console.mask = s.console.mask ∧
      (lapseStation r s).console.response = s.console.response ∧
      (lapseStation r s).freeUsed = s.freeUsed ∧
      (lapseStation r s).pending = s.pending := by
  unfold lapseStation
  first | (refine ⟨rfl, rfl, rfl, rfl, rfl, rfl, rfl, rfl, rfl, rfl, rfl, rfl, rfl, rfl⟩; done) | (simp; done) | ((repeat' split) <;> (simp; done)) | (dsimp only; (repeat' split) <;> simp)

/-- What `tickLease` leaves unchanged. -/
@[simp] theorem tickLease_frame (r : Fin 48) (s : State) :
    (tickLease r s).plan = s.plan ∧
      (tickLease r s).epoch = s.epoch ∧
      (tickLease r s).engine = s.engine ∧
      (tickLease r s).timing = s.timing ∧
      (tickLease r s).zones = s.zones ∧
      (tickLease r s).branches = s.branches ∧
      (tickLease r s).sweep = s.sweep ∧
      (tickLease r s).console.mode = s.console.mode ∧
      (tickLease r s).console.openRequest = s.console.openRequest ∧
      (tickLease r s).console.result = s.console.result ∧
      (tickLease r s).console.mask = s.console.mask ∧
      (tickLease r s).console.response = s.console.response ∧
      (tickLease r s).freeUsed = s.freeUsed ∧
      (tickLease r s).pending = s.pending := by
  unfold tickLease
  first | (refine ⟨rfl, rfl, rfl, rfl, rfl, rfl, rfl, rfl, rfl, rfl, rfl, rfl, rfl, rfl⟩; done) | (simp; done) | ((repeat' split) <;> (simp; done)) | (dsimp only; (repeat' split) <;> simp)

/-- What `takeReplyNotice` leaves unchanged. -/
@[simp] theorem takeReplyNotice_frame (r : Fin 48) (s : State) :
    (takeReplyNotice r s).plan = s.plan ∧
      (takeReplyNotice r s).epoch = s.epoch ∧
      (takeReplyNotice r s).engine = s.engine ∧
      (takeReplyNotice r s).timing = s.timing ∧
      (takeReplyNotice r s).zones = s.zones ∧
      (takeReplyNotice r s).branches = s.branches ∧
      (takeReplyNotice r s).sweep = s.sweep ∧
      (takeReplyNotice r s).console = s.console ∧
      (takeReplyNotice r s).freeUsed = s.freeUsed ∧
      (takeReplyNotice r s).pending = s.pending := by
  unfold takeReplyNotice
  first | (refine ⟨rfl, rfl, rfl, rfl, rfl, rfl, rfl, rfl, rfl, rfl⟩; done) | (simp; done) | ((repeat' split) <;> (simp; done)) | (dsimp only; (repeat' split) <;> simp)

/-- What `dropPending` leaves unchanged. -/
@[simp] theorem dropPending_frame (i : Fin 384) (s : State) :
    (dropPending i s).plan = s.plan ∧
      (dropPending i s).epoch = s.epoch ∧
      (dropPending i s).engine.queue = s.engine.queue ∧
      (dropPending i s).engine.foreground = s.engine.foreground ∧
      (dropPending i s).engine.background = s.engine.background ∧
      (dropPending i s).engine.upper = s.engine.upper ∧
      (dropPending i s).engine.lower = s.engine.lower ∧
      (dropPending i s).engine.defer = s.engine.defer ∧
      (dropPending i s).timing = s.timing ∧
      (dropPending i s).zones = s.zones ∧
      (dropPending i s).stations = s.stations ∧
      (dropPending i s).branches = s.branches ∧
      (dropPending i s).sweep = s.sweep ∧
      (dropPending i s).console = s.console ∧
      (dropPending i s).freeUsed = s.freeUsed ∧
      (dropPending i s).pending = s.pending := by
  unfold dropPending
  first | (refine ⟨rfl, rfl, rfl, rfl, rfl, rfl, rfl, rfl, rfl, rfl, rfl, rfl, rfl, rfl, rfl, rfl⟩; done) | (simp; done) | ((repeat' split) <;> (simp; done)) | (dsimp only; (repeat' split) <;> simp)

/-- What `tickHold` leaves unchanged. -/
@[simp] theorem tickHold_frame (i : Fin 384) (s : State) :
    (tickHold i s).plan = s.plan ∧
      (tickHold i s).epoch = s.epoch ∧
      (tickHold i s).engine.queue = s.engine.queue ∧
      (tickHold i s).engine.foreground = s.engine.foreground ∧
      (tickHold i s).engine.upper = s.engine.upper ∧
      (tickHold i s).engine.lower = s.engine.lower ∧
      (tickHold i s).engine.defer = s.engine.defer ∧
      (tickHold i s).timing = s.timing ∧
      (tickHold i s).branches = s.branches ∧
      (tickHold i s).sweep = s.sweep ∧
      (tickHold i s).console = s.console ∧
      (tickHold i s).freeUsed = s.freeUsed ∧
      (tickHold i s).pending = s.pending := by
  unfold tickHold
  first | (refine ⟨rfl, rfl, rfl, rfl, rfl, rfl, rfl, rfl, rfl, rfl, rfl, rfl, rfl⟩; done) | (simp; done) | ((repeat' split) <;> (simp; done)) | (dsimp only; (repeat' split) <;> simp)

/-- What `lapseMove` leaves unchanged. -/
@[simp] theorem lapseMove_frame (i : Fin 384) (s : State) :
    (lapseMove i s).plan = s.plan ∧
      (lapseMove i s).epoch = s.epoch ∧
      (lapseMove i s).engine.queue = s.engine.queue ∧
      (lapseMove i s).engine.foreground = s.engine.foreground ∧
      (lapseMove i s).engine.background = s.engine.background ∧
      (lapseMove i s).engine.upper = s.engine.upper ∧
      (lapseMove i s).engine.lower = s.engine.lower ∧
      (lapseMove i s).engine.defer = s.engine.defer ∧
      (lapseMove i s).timing = s.timing ∧
      (lapseMove i s).zones = s.zones ∧
      (lapseMove i s).branches = s.branches ∧
      (lapseMove i s).sweep = s.sweep ∧
      (lapseMove i s).console = s.console ∧
      (lapseMove i s).freeUsed = s.freeUsed ∧
      (lapseMove i s).pending = s.pending := by
  unfold lapseMove
  first | (refine ⟨rfl, rfl, rfl, rfl, rfl, rfl, rfl, rfl, rfl, rfl, rfl, rfl, rfl, rfl, rfl⟩; done) | (simp; done) | ((repeat' split) <;> (simp; done)) | (dsimp only; (repeat' split) <;> simp)

/-- What `tickMove` leaves unchanged. -/
@[simp] theorem tickMove_frame (i : Fin 384) (s : State) :
    (tickMove i s).plan = s.plan ∧
      (tickMove i s).epoch = s.epoch ∧
      (tickMove i s).engine.queue = s.engine.queue ∧
      (tickMove i s).engine.foreground = s.engine.foreground ∧
      (tickMove i s).engine.upper = s.engine.upper ∧
      (tickMove i s).engine.lower = s.engine.lower ∧
      (tickMove i s).engine.defer = s.engine.defer ∧
      (tickMove i s).timing = s.timing ∧
      (tickMove i s).zones = s.zones ∧
      (tickMove i s).branches = s.branches ∧
      (tickMove i s).sweep = s.sweep ∧
      (tickMove i s).console = s.console ∧
      (tickMove i s).freeUsed = s.freeUsed ∧
      (tickMove i s).pending = s.pending := by
  unfold tickMove
  first | (refine ⟨rfl, rfl, rfl, rfl, rfl, rfl, rfl, rfl, rfl, rfl, rfl, rfl, rfl, rfl⟩; done) | (simp; done) | ((repeat' split) <;> (simp; done)) | (dsimp only; (repeat' split) <;> simp)

/-- What `handleRelease` leaves unchanged. -/
@[simp] theorem handleRelease_frame (r : Fin 48) (ch : Fin 64) (s : State) :
    (handleRelease r ch s).plan = s.plan ∧
      (handleRelease r ch s).epoch = s.epoch ∧
      (handleRelease r ch s).engine.queue = s.engine.queue ∧
      (handleRelease r ch s).engine.foreground = s.engine.foreground ∧
      (handleRelease r ch s).engine.background = s.engine.background ∧
      (handleRelease r ch s).engine.upper = s.engine.upper ∧
      (handleRelease r ch s).engine.lower = s.engine.lower ∧
      (handleRelease r ch s).engine.defer = s.engine.defer ∧
      (handleRelease r ch s).timing = s.timing ∧
      (handleRelease r ch s).branches = s.branches ∧
      (handleRelease r ch s).sweep = s.sweep ∧
      (handleRelease r ch s).console = s.console ∧
      (handleRelease r ch s).freeUsed = s.freeUsed ∧
      (handleRelease r ch s).pending = s.pending := by
  unfold handleRelease
  first | (refine ⟨rfl, rfl, rfl, rfl, rfl, rfl, rfl, rfl, rfl, rfl, rfl, rfl, rfl, rfl⟩; done) | (simp; done) | ((repeat' split) <;> (simp; done)) | (dsimp only; (repeat' split) <;> simp)

/-- What `moveOnward` leaves unchanged. -/
@[simp] theorem moveOnward_frame (r : Fin 48) (ch : Fin 64) (i : Fin 384) (o : Owned) (s : State) :
    (moveOnward r ch i o s).plan = s.plan ∧
      (moveOnward r ch i o s).epoch = s.epoch ∧
      (moveOnward r ch i o s).engine.foreground = s.engine.foreground ∧
      (moveOnward r ch i o s).engine.background = s.engine.background ∧
      (moveOnward r ch i o s).engine.upper = s.engine.upper ∧
      (moveOnward r ch i o s).engine.lower = s.engine.lower ∧
      (moveOnward r ch i o s).timing = s.timing ∧
      (moveOnward r ch i o s).branches = s.branches ∧
      (moveOnward r ch i o s).sweep = s.sweep ∧
      (moveOnward r ch i o s).console.mode = s.console.mode ∧
      (moveOnward r ch i o s).console.openRequest = s.console.openRequest ∧
      (moveOnward r ch i o s).console.result = s.console.result ∧
      (moveOnward r ch i o s).console.mask = s.console.mask ∧
      (moveOnward r ch i o s).console.response = s.console.response ∧
      (moveOnward r ch i o s).freeUsed = s.freeUsed ∧
      (moveOnward r ch i o s).pending = s.pending := by
  unfold moveOnward
  first | (refine ⟨rfl, rfl, rfl, rfl, rfl, rfl, rfl, rfl, rfl, rfl, rfl, rfl, rfl, rfl, rfl, rfl⟩; done) | (simp; done) | ((repeat' split) <;> (simp; done)) | (dsimp only; (repeat' split) <;> simp)

/-- What `handleMove` leaves unchanged. -/
@[simp] theorem handleMove_frame (r : Fin 48) (ch : Fin 64) (s : State) :
    (handleMove r ch s).plan = s.plan ∧
      (handleMove r ch s).epoch = s.epoch ∧
      (handleMove r ch s).engine.foreground = s.engine.foreground ∧
      (handleMove r ch s).engine.background = s.engine.background ∧
      (handleMove r ch s).engine.upper = s.engine.upper ∧
      (handleMove r ch s).engine.lower = s.engine.lower ∧
      (handleMove r ch s).timing = s.timing ∧
      (handleMove r ch s).branches = s.branches ∧
      (handleMove r ch s).sweep = s.sweep ∧
      (handleMove r ch s).console.mode = s.console.mode ∧
      (handleMove r ch s).console.openRequest = s.console.openRequest ∧
      (handleMove r ch s).console.result = s.console.result ∧
      (handleMove r ch s).console.mask = s.console.mask ∧
      (handleMove r ch s).console.response = s.console.response ∧
      (handleMove r ch s).freeUsed = s.freeUsed ∧
      (handleMove r ch s).pending = s.pending := by
  unfold handleMove
  first | (refine ⟨rfl, rfl, rfl, rfl, rfl, rfl, rfl, rfl, rfl, rfl, rfl, rfl, rfl, rfl, rfl, rfl⟩; done) | (simp; done) | ((repeat' split) <;> (simp; done)) | (dsimp only; (repeat' split) <;> simp)

/-- What `handleConfirm` leaves unchanged. -/
@[simp] theorem handleConfirm_frame (r : Fin 48) (ch : Fin 64) (s : State) :
    (handleConfirm r ch s).plan = s.plan ∧
      (handleConfirm r ch s).epoch = s.epoch ∧
      (handleConfirm r ch s).engine.queue = s.engine.queue ∧
      (handleConfirm r ch s).engine.foreground = s.engine.foreground ∧
      (handleConfirm r ch s).engine.background = s.engine.background ∧
      (handleConfirm r ch s).engine.upper = s.engine.upper ∧
      (handleConfirm r ch s).engine.lower = s.engine.lower ∧
      (handleConfirm r ch s).engine.defer = s.engine.defer ∧
      (handleConfirm r ch s).timing = s.timing ∧
      (handleConfirm r ch s).zones = s.zones ∧
      (handleConfirm r ch s).branches = s.branches ∧
      (handleConfirm r ch s).sweep = s.sweep ∧
      (handleConfirm r ch s).console = s.console ∧
      (handleConfirm r ch s).freeUsed = s.freeUsed ∧
      (handleConfirm r ch s).pending = s.pending := by
  unfold handleConfirm
  first | (refine ⟨rfl, rfl, rfl, rfl, rfl, rfl, rfl, rfl, rfl, rfl, rfl, rfl, rfl, rfl, rfl⟩; done) | (simp; done) | ((repeat' split) <;> (simp; done)) | (dsimp only; (repeat' split) <;> simp)

/-- What `announcePhases` leaves unchanged. -/
@[simp] theorem announcePhases_frame (z : Fin 16) (s : State) :
    (announcePhases z s).plan = s.plan ∧
      (announcePhases z s).slots = s.slots ∧
      (announcePhases z s).epoch = s.epoch ∧
      (announcePhases z s).engine = s.engine ∧
      (announcePhases z s).timing = s.timing ∧
      (announcePhases z s).zones = s.zones ∧
      (announcePhases z s).branches = s.branches ∧
      (announcePhases z s).sweep = s.sweep ∧
      (announcePhases z s).console = s.console ∧
      (announcePhases z s).freeUsed = s.freeUsed ∧
      (announcePhases z s).pending = s.pending := by
  unfold announcePhases
  exact foldl_ind (fun t => t.plan = s.plan ∧ t.slots = s.slots ∧ t.epoch = s.epoch ∧ t.engine = s.engine ∧ t.timing = s.timing ∧ t.zones = s.zones ∧ t.branches = s.branches ∧ t.sweep = s.sweep ∧ t.console = s.console ∧ t.freeUsed = s.freeUsed ∧ t.pending = s.pending) _ (fun t a h => by simpa using h) _ s (by simp)

/-- What `retireForced` leaves unchanged. -/
@[simp] theorem retireForced_frame (z : Fin 16) (s : State) :
    (retireForced z s).plan = s.plan ∧
      (retireForced z s).epoch = s.epoch ∧
      (retireForced z s).engine.queue = s.engine.queue ∧
      (retireForced z s).engine.foreground = s.engine.foreground ∧
      (retireForced z s).engine.background = s.engine.background ∧
      (retireForced z s).engine.upper = s.engine.upper ∧
      (retireForced z s).engine.lower = s.engine.lower ∧
      (retireForced z s).engine.defer = s.engine.defer ∧
      (retireForced z s).timing = s.timing ∧
      (retireForced z s).branches = s.branches ∧
      (retireForced z s).sweep = s.sweep ∧
      (retireForced z s).console = s.console ∧
      (retireForced z s).freeUsed = s.freeUsed ∧
      (retireForced z s).pending = s.pending := by
  unfold retireForced
  first | (refine ⟨rfl, rfl, rfl, rfl, rfl, rfl, rfl, rfl, rfl, rfl, rfl, rfl, rfl, rfl⟩; done) | (simp; done) | ((repeat' split) <;> (simp; done)) | (dsimp only; (repeat' split) <;> simp)

/-- A changeover of a STEADY zone changes slots, notices, the clear timer and the barred set at most. -/
@[simp] theorem changeoverSteady_frame (z : Fin 16) (forced : Nat) (s : State) :
    (changeoverSteady z forced s).1.plan = s.plan ∧ (changeoverSteady z forced s).1.epoch = s.epoch ∧ (changeoverSteady z forced s).1.engine.queue = s.engine.queue ∧ (changeoverSteady z forced s).1.engine.foreground = s.engine.foreground ∧ (changeoverSteady z forced s).1.engine.background = s.engine.background ∧ (changeoverSteady z forced s).1.engine.upper = s.engine.upper ∧ (changeoverSteady z forced s).1.engine.lower = s.engine.lower ∧ (changeoverSteady z forced s).1.engine.defer = s.engine.defer ∧ (changeoverSteady z forced s).1.timing = s.timing ∧ (changeoverSteady z forced s).1.branches = s.branches ∧ (changeoverSteady z forced s).1.sweep = s.sweep ∧ (changeoverSteady z forced s).1.console = s.console ∧ (changeoverSteady z forced s).1.freeUsed = s.freeUsed ∧ (changeoverSteady z forced s).1.pending = s.pending := by
  unfold changeoverSteady
  dsimp only
  (repeat' split) <;> simp

/-- So does a changeover that is carried out. -/
theorem changeoverZone_frame (z : Fin 16) (force : Bool) (s t : State) (c : ChangeoverCounts)
    (h : changeoverZone z force s = some (t, c)) :
    t.plan = s.plan ∧ t.epoch = s.epoch ∧ t.engine.queue = s.engine.queue ∧ t.engine.foreground = s.engine.foreground ∧ t.engine.background = s.engine.background ∧ t.engine.upper = s.engine.upper ∧ t.engine.lower = s.engine.lower ∧ t.engine.defer = s.engine.defer ∧ t.timing = s.timing ∧ t.branches = s.branches ∧ t.sweep = s.sweep ∧ t.console = s.console ∧ t.freeUsed = s.freeUsed ∧ t.pending = s.pending := by
  unfold changeoverZone at h
  (repeat' split at h) <;> simp only [Option.some.injEq, reduceCtorEq] at h
  · have e : t = (changeoverSteady z (endingSlots z s).length (retireForced z s)).1 := by rw [h]
    rw [e]
    simp
  · have e : t = (changeoverSteady z 0 s).1 := by rw [h]
    rw [e]
    simp

/-- What `handleChangeover` leaves unchanged. -/
@[simp] theorem handleChangeover_frame (r : Fin 48) (force : Bool) (s : State) :
    (handleChangeover r force s).plan = s.plan ∧
      (handleChangeover r force s).epoch = s.epoch ∧
      (handleChangeover r force s).engine.queue = s.engine.queue ∧
      (handleChangeover r force s).engine.foreground = s.engine.foreground ∧
      (handleChangeover r force s).engine.background = s.engine.background ∧
      (handleChangeover r force s).engine.upper = s.engine.upper ∧
      (handleChangeover r force s).engine.lower = s.engine.lower ∧
      (handleChangeover r force s).engine.defer = s.engine.defer ∧
      (handleChangeover r force s).timing = s.timing ∧
      (handleChangeover r force s).branches = s.branches ∧
      (handleChangeover r force s).sweep = s.sweep ∧
      (handleChangeover r force s).console = s.console ∧
      (handleChangeover r force s).freeUsed = s.freeUsed ∧
      (handleChangeover r force s).pending = s.pending := by
  unfold handleChangeover
  split
  · simp
  · split
    · split
      · simp
      · rename_i h
        have k := changeoverZone_frame _ _ _ _ _ h
        simpa using k
    · simp

/-- What `tickClear` leaves unchanged. -/
@[simp] theorem tickClear_frame (z : Fin 16) (s : State) :
    (tickClear z s).plan = s.plan ∧
      (tickClear z s).epoch = s.epoch ∧
      (tickClear z s).engine.queue = s.engine.queue ∧
      (tickClear z s).engine.foreground = s.engine.foreground ∧
      (tickClear z s).engine.upper = s.engine.upper ∧
      (tickClear z s).engine.lower = s.engine.lower ∧
      (tickClear z s).engine.defer = s.engine.defer ∧
      (tickClear z s).timing = s.timing ∧
      (tickClear z s).branches = s.branches ∧
      (tickClear z s).sweep = s.sweep ∧
      (tickClear z s).console = s.console ∧
      (tickClear z s).freeUsed = s.freeUsed ∧
      (tickClear z s).pending = s.pending := by
  unfold tickClear
  first | (refine ⟨rfl, rfl, rfl, rfl, rfl, rfl, rfl, rfl, rfl, rfl, rfl, rfl, rfl⟩; done) | (simp; done) | ((repeat' split) <;> (simp; done)) | (dsimp only; (repeat' split) <;> simp)

/-- What `beginPoint` leaves unchanged. -/
@[simp] theorem beginPoint_frame (index : Nat) (s : State) :
    (beginPoint index s).plan = s.plan ∧
      (beginPoint index s).slots = s.slots ∧
      (beginPoint index s).epoch = s.epoch ∧
      (beginPoint index s).engine = s.engine ∧
      (beginPoint index s).timing = s.timing ∧
      (beginPoint index s).zones = s.zones ∧
      (beginPoint index s).stations = s.stations ∧
      (beginPoint index s).branches = s.branches ∧
      (beginPoint index s).sweep.last = s.sweep.last ∧
      (beginPoint index s).sweep.config = s.sweep.config ∧
      (beginPoint index s).sweep.foreign = s.sweep.foreign ∧
      (beginPoint index s).sweep.latched = s.sweep.latched ∧
      (beginPoint index s).console = s.console ∧
      (beginPoint index s).freeUsed = s.freeUsed ∧
      (beginPoint index s).pending = s.pending := by
  unfold beginPoint
  first | (refine ⟨rfl, rfl, rfl, rfl, rfl, rfl, rfl, rfl, rfl, rfl, rfl, rfl, rfl, rfl, rfl⟩; done) | (simp; done) | ((repeat' split) <;> (simp; done)) | (dsimp only; (repeat' split) <;> simp)

/-- What `nextPoint` leaves unchanged. -/
@[simp] theorem nextPoint_frame (s : State) :
    (nextPoint s).plan = s.plan ∧
      (nextPoint s).slots = s.slots ∧
      (nextPoint s).epoch = s.epoch ∧
      (nextPoint s).engine = s.engine ∧
      (nextPoint s).timing = s.timing ∧
      (nextPoint s).zones = s.zones ∧
      (nextPoint s).stations = s.stations ∧
      (nextPoint s).branches = s.branches ∧
      (nextPoint s).sweep.last = s.sweep.last ∧
      (nextPoint s).sweep.config = s.sweep.config ∧
      (nextPoint s).sweep.foreign = s.sweep.foreign ∧
      (nextPoint s).sweep.latched = s.sweep.latched ∧
      (nextPoint s).console = s.console ∧
      (nextPoint s).freeUsed = s.freeUsed ∧
      (nextPoint s).pending = s.pending := by
  unfold nextPoint
  first | (refine ⟨rfl, rfl, rfl, rfl, rfl, rfl, rfl, rfl, rfl, rfl, rfl, rfl, rfl, rfl, rfl⟩; done) | (simp; done) | ((repeat' split) <;> (simp; done)) | (dsimp only; (repeat' split) <;> simp)

/-- What `setForeign` leaves unchanged. -/
@[simp] theorem setForeign_frame (l : List ForeignEntry) (s : State) :
    (setForeign l s).plan = s.plan ∧
      (setForeign l s).slots = s.slots ∧
      (setForeign l s).epoch = s.epoch ∧
      (setForeign l s).engine = s.engine ∧
      (setForeign l s).timing = s.timing ∧
      (setForeign l s).zones = s.zones ∧
      (setForeign l s).stations = s.stations ∧
      (setForeign l s).branches = s.branches ∧
      (setForeign l s).sweep.activity = s.sweep.activity ∧
      (setForeign l s).sweep.cursor = s.sweep.cursor ∧
      (setForeign l s).sweep.last = s.sweep.last ∧
      (setForeign l s).sweep.config = s.sweep.config ∧
      (setForeign l s).sweep.latched = s.sweep.latched ∧
      (setForeign l s).console = s.console ∧
      (setForeign l s).freeUsed = s.freeUsed ∧
      (setForeign l s).pending = s.pending := by
  unfold setForeign
  first | (refine ⟨rfl, rfl, rfl, rfl, rfl, rfl, rfl, rfl, rfl, rfl, rfl, rfl, rfl, rfl, rfl, rfl⟩; done) | (simp; done) | ((repeat' split) <;> (simp; done)) | (dsimp only; (repeat' split) <;> simp)

/-- What `reachSlot` leaves unchanged. -/
@[simp] theorem reachSlot_frame (index : Nat) (i : Fin 384) (s : State) :
    (reachSlot index i s).plan = s.plan ∧
      (reachSlot index i s).epoch = s.epoch ∧
      (reachSlot index i s).engine.queue = s.engine.queue ∧
      (reachSlot index i s).engine.foreground = s.engine.foreground ∧
      (reachSlot index i s).engine.background = s.engine.background ∧
      (reachSlot index i s).engine.upper = s.engine.upper ∧
      (reachSlot index i s).engine.lower = s.engine.lower ∧
      (reachSlot index i s).engine.defer = s.engine.defer ∧
      (reachSlot index i s).timing = s.timing ∧
      (reachSlot index i s).branches = s.branches ∧
      (reachSlot index i s).sweep = s.sweep ∧
      (reachSlot index i s).console = s.console ∧
      (reachSlot index i s).freeUsed = s.freeUsed ∧
      (reachSlot index i s).pending = s.pending := by
  unfold reachSlot
  first | (refine ⟨rfl, rfl, rfl, rfl, rfl, rfl, rfl, rfl, rfl, rfl, rfl, rfl, rfl, rfl⟩; done) | (simp; done) | ((repeat' split) <;> (simp; done)) | (dsimp only; (repeat' split) <;> simp)

/-- What `confirmForeign` leaves unchanged. -/
@[simp] theorem confirmForeign_frame (index : Nat) (s : State) :
    (confirmForeign index s).plan = s.plan ∧
      (confirmForeign index s).engine.queue = s.engine.queue ∧
      (confirmForeign index s).engine.upper = s.engine.upper ∧
      (confirmForeign index s).engine.lower = s.engine.lower ∧
      (confirmForeign index s).engine.defer = s.engine.defer ∧
      (confirmForeign index s).timing = s.timing ∧
      (confirmForeign index s).branches = s.branches ∧
      (confirmForeign index s).sweep = s.sweep ∧
      (confirmForeign index s).console.mode = s.console.mode ∧
      (confirmForeign index s).console.openRequest = s.console.openRequest ∧
      (confirmForeign index s).console.result = s.console.result ∧
      (confirmForeign index s).console.mask = s.console.mask ∧
      (confirmForeign index s).console.response = s.console.response ∧
      (confirmForeign index s).freeUsed = s.freeUsed ∧
      (confirmForeign index s).pending = s.pending := by
  unfold confirmForeign
  dsimp only
  have k : ∀ (l : List (Fin 384)) (s0 : State), (s0.plan = s.plan ∧ s0.engine.queue = s.engine.queue ∧ s0.engine.upper = s.engine.upper ∧ s0.engine.lower = s.engine.lower ∧ s0.engine.defer = s.engine.defer ∧ s0.timing = s.timing ∧ s0.branches = s.branches ∧ s0.sweep = s.sweep ∧ s0.console.mode = s.console.mode ∧ s0.console.openRequest = s.console.openRequest ∧ s0.console.result = s.console.result ∧ s0.console.mask = s.console.mask ∧ s0.console.response = s.console.response ∧ s0.freeUsed = s.freeUsed ∧ s0.pending = s.pending) →
      (fun t : State => t.plan = s.plan ∧ t.engine.queue = s.engine.queue ∧ t.engine.upper = s.engine.upper ∧ t.engine.lower = s.engine.lower ∧ t.engine.defer = s.engine.defer ∧ t.timing = s.timing ∧ t.branches = s.branches ∧ t.sweep = s.sweep ∧ t.console.mode = s.console.mode ∧ t.console.openRequest = s.console.openRequest ∧ t.console.result = s.console.result ∧ t.console.mask = s.console.mask ∧ t.console.response = s.console.response ∧ t.freeUsed = s.freeUsed ∧ t.pending = s.pending) (l.foldl (fun t i => reachSlot index i t) s0) :=
    fun l s0 h0 => foldl_ind (fun t => t.plan = s.plan ∧ t.engine.queue = s.engine.queue ∧ t.engine.upper = s.engine.upper ∧ t.engine.lower = s.engine.lower ∧ t.engine.defer = s.engine.defer ∧ t.timing = s.timing ∧ t.branches = s.branches ∧ t.sweep = s.sweep ∧ t.console.mode = s.console.mode ∧ t.console.openRequest = s.console.openRequest ∧ t.console.result = s.console.result ∧ t.console.mask = s.console.mask ∧ t.console.response = s.console.response ∧ t.freeUsed = s.freeUsed ∧ t.pending = s.pending) _ (fun t a h => by simpa using h) l s0 h0
  have k' := k ((raise .foreignNew (advanceEpoch s)).slots.numbersWith
    (Slot.reachedBy (raise .foreignNew (advanceEpoch s)).plan.fg index)) (raise .foreignNew (advanceEpoch s)) (by simp)
  split <;> simpa using k'

/-- What `reevaluate` leaves unchanged. -/
@[simp] theorem reevaluate_frame (index : Nat) (s : State) :
    (reevaluate index s).plan = s.plan ∧
      (reevaluate index s).epoch = s.epoch ∧
      (reevaluate index s).engine = s.engine ∧
      (reevaluate index s).timing = s.timing ∧
      (reevaluate index s).zones = s.zones ∧
      (reevaluate index s).stations = s.stations ∧
      (reevaluate index s).branches = s.branches ∧
      (reevaluate index s).sweep = s.sweep ∧
      (reevaluate index s).console = s.console ∧
      (reevaluate index s).freeUsed = s.freeUsed ∧
      (reevaluate index s).pending = s.pending := by
  unfold reevaluate
  first | (refine ⟨rfl, rfl, rfl, rfl, rfl, rfl, rfl, rfl, rfl, rfl, rfl⟩; done) | (simp; done) | ((repeat' split) <;> (simp; done)) | (dsimp only; (repeat' split) <;> simp)

/-- What `dropEntry` leaves unchanged. -/
@[simp] theorem dropEntry_frame (e : ForeignEntry) (s : State) :
    (dropEntry e s).plan = s.plan ∧
      (dropEntry e s).epoch = s.epoch ∧
      (dropEntry e s).engine.queue = s.engine.queue ∧
      (dropEntry e s).engine.foreground = s.engine.foreground ∧
      (dropEntry e s).engine.background = s.engine.background ∧
      (dropEntry e s).engine.upper = s.engine.upper ∧
      (dropEntry e s).engine.lower = s.engine.lower ∧
      (dropEntry e s).engine.defer = s.engine.defer ∧
      (dropEntry e s).timing = s.timing ∧
      (dropEntry e s).zones = s.zones ∧
      (dropEntry e s).stations = s.stations ∧
      (dropEntry e s).branches = s.branches ∧
      (dropEntry e s).sweep.activity = s.sweep.activity ∧
      (dropEntry e s).sweep.cursor = s.sweep.cursor ∧
      (dropEntry e s).sweep.last = s.sweep.last ∧
      (dropEntry e s).sweep.config = s.sweep.config ∧
      (dropEntry e s).sweep.latched = s.sweep.latched ∧
      (dropEntry e s).console = s.console ∧
      (dropEntry e s).freeUsed = s.freeUsed ∧
      (dropEntry e s).pending = s.pending := by
  unfold dropEntry
  first | (refine ⟨rfl, rfl, rfl, rfl, rfl, rfl, rfl, rfl, rfl, rfl, rfl, rfl, rfl, rfl, rfl, rfl, rfl, rfl, rfl, rfl⟩; done) | (simp; done) | ((repeat' split) <;> (simp; done)) | (dsimp only; (repeat' split) <;> simp)

/-- What `hitEntry` leaves unchanged. -/
@[simp] theorem hitEntry_frame (e : ForeignEntry) (level : Nat) (s : State) :
    (hitEntry e level s).plan = s.plan ∧
      (hitEntry e level s).engine.queue = s.engine.queue ∧
      (hitEntry e level s).engine.upper = s.engine.upper ∧
      (hitEntry e level s).engine.lower = s.engine.lower ∧
      (hitEntry e level s).engine.defer = s.engine.defer ∧
      (hitEntry e level s).timing = s.timing ∧
      (hitEntry e level s).branches = s.branches ∧
      (hitEntry e level s).sweep.activity = s.sweep.activity ∧
      (hitEntry e level s).sweep.cursor = s.sweep.cursor ∧
      (hitEntry e level s).sweep.last = s.sweep.last ∧
      (hitEntry e level s).sweep.config = s.sweep.config ∧
      (hitEntry e level s).sweep.latched = s.sweep.latched ∧
      (hitEntry e level s).console.mode = s.console.mode ∧
      (hitEntry e level s).console.openRequest = s.console.openRequest ∧
      (hitEntry e level s).console.result = s.console.result ∧
      (hitEntry e level s).console.mask = s.console.mask ∧
      (hitEntry e level s).console.response = s.console.response ∧
      (hitEntry e level s).freeUsed = s.freeUsed ∧
      (hitEntry e level s).pending = s.pending := by
  unfold hitEntry
  first | (refine ⟨rfl, rfl, rfl, rfl, rfl, rfl, rfl, rfl, rfl, rfl, rfl, rfl, rfl, rfl, rfl, rfl, rfl, rfl, rfl⟩; done) | (simp; done) | ((repeat' split) <;> (simp; done)) | (dsimp only; (repeat' split) <;> simp)

/-- What `hitNew` leaves unchanged. -/
@[simp] theorem hitNew_frame (index level : Nat) (s : State) :
    (hitNew index level s).plan = s.plan ∧
      (hitNew index level s).engine.queue = s.engine.queue ∧
      (hitNew index level s).engine.upper = s.engine.upper ∧
      (hitNew index level s).engine.lower = s.engine.lower ∧
      (hitNew index level s).engine.defer = s.engine.defer ∧
      (hitNew index level s).timing = s.timing ∧
      (hitNew index level s).branches = s.branches ∧
      (hitNew index level s).sweep.activity = s.sweep.activity ∧
      (hitNew index level s).sweep.cursor = s.sweep.cursor ∧
      (hitNew index level s).sweep.last = s.sweep.last ∧
      (hitNew index level s).sweep.config = s.sweep.config ∧
      (hitNew index level s).sweep.latched = s.sweep.latched ∧
      (hitNew index level s).console.mode = s.console.mode ∧
      (hitNew index level s).console.openRequest = s.console.openRequest ∧
      (hitNew index level s).console.result = s.console.result ∧
      (hitNew index level s).console.mask = s.console.mask ∧
      (hitNew index level s).console.response = s.console.response ∧
      (hitNew index level s).freeUsed = s.freeUsed ∧
      (hitNew index level s).pending = s.pending := by
  unfold hitNew
  first | (refine ⟨rfl, rfl, rfl, rfl, rfl, rfl, rfl, rfl, rfl, rfl, rfl, rfl, rfl, rfl, rfl, rfl, rfl, rfl, rfl⟩; done) | (simp; done) | ((repeat' split) <;> (simp; done)) | (dsimp only; (repeat' split) <;> simp)

/-- What `missEntry` leaves unchanged. -/
@[simp] theorem missEntry_frame (e : ForeignEntry) (s : State) :
    (missEntry e s).plan = s.plan ∧
      (missEntry e s).epoch = s.epoch ∧
      (missEntry e s).engine.queue = s.engine.queue ∧
      (missEntry e s).engine.foreground = s.engine.foreground ∧
      (missEntry e s).engine.background = s.engine.background ∧
      (missEntry e s).engine.upper = s.engine.upper ∧
      (missEntry e s).engine.lower = s.engine.lower ∧
      (missEntry e s).engine.defer = s.engine.defer ∧
      (missEntry e s).timing = s.timing ∧
      (missEntry e s).zones = s.zones ∧
      (missEntry e s).stations = s.stations ∧
      (missEntry e s).branches = s.branches ∧
      (missEntry e s).sweep.activity = s.sweep.activity ∧
      (missEntry e s).sweep.cursor = s.sweep.cursor ∧
      (missEntry e s).sweep.last = s.sweep.last ∧
      (missEntry e s).sweep.config = s.sweep.config ∧
      (missEntry e s).sweep.latched = s.sweep.latched ∧
      (missEntry e s).console = s.console ∧
      (missEntry e s).freeUsed = s.freeUsed ∧
      (missEntry e s).pending = s.pending := by
  unfold missEntry
  first | (refine ⟨rfl, rfl, rfl, rfl, rfl, rfl, rfl, rfl, rfl, rfl, rfl, rfl, rfl, rfl, rfl, rfl, rfl, rfl, rfl, rfl⟩; done) | (simp; done) | ((repeat' split) <;> (simp; done)) | (dsimp only; (repeat' split) <;> simp)

/-- What `decidePoint` leaves unchanged. -/
@[simp] theorem decidePoint_frame (index level : Nat) (s : State) :
    (decidePoint index level s).plan = s.plan ∧
      (decidePoint index level s).engine.queue = s.engine.queue ∧
      (decidePoint index level s).engine.upper = s.engine.upper ∧
      (decidePoint index level s).engine.lower = s.engine.lower ∧
      (decidePoint index level s).engine.defer = s.engine.defer ∧
      (decidePoint index level s).timing = s.timing ∧
      (decidePoint index level s).branches = s.branches ∧
      (decidePoint index level s).sweep.activity = s.sweep.activity ∧
      (decidePoint index level s).sweep.cursor = s.sweep.cursor ∧
      (decidePoint index level s).sweep.last = s.sweep.last ∧
      (decidePoint index level s).sweep.config = s.sweep.config ∧
      (decidePoint index level s).sweep.latched = s.sweep.latched ∧
      (decidePoint index level s).console.mode = s.console.mode ∧
      (decidePoint index level s).console.openRequest = s.console.openRequest ∧
      (decidePoint index level s).console.result = s.console.result ∧
      (decidePoint index level s).console.mask = s.console.mask ∧
      (decidePoint index level s).console.response = s.console.response ∧
      (decidePoint index level s).freeUsed = s.freeUsed ∧
      (decidePoint index level s).pending = s.pending := by
  unfold decidePoint
  first | (refine ⟨rfl, rfl, rfl, rfl, rfl, rfl, rfl, rfl, rfl, rfl, rfl, rfl, rfl, rfl, rfl, rfl, rfl, rfl, rfl⟩; done) | (simp; done) | ((repeat' split) <;> (simp; done)) | (dsimp only; (repeat' split) <;> simp)

/-- What `completePoint` leaves unchanged. -/
@[simp] theorem completePoint_frame (level : Nat) (s : State) :
    (completePoint level s).plan = s.plan ∧
      (completePoint level s).engine.queue = s.engine.queue ∧
      (completePoint level s).engine.upper = s.engine.upper ∧
      (completePoint level s).engine.lower = s.engine.lower ∧
      (completePoint level s).engine.defer = s.engine.defer ∧
      (completePoint level s).timing = s.timing ∧
      (completePoint level s).branches = s.branches ∧
      (completePoint level s).sweep.config = s.sweep.config ∧
      (completePoint level s).sweep.latched = s.sweep.latched ∧
      (completePoint level s).console.mode = s.console.mode ∧
      (completePoint level s).console.openRequest = s.console.openRequest ∧
      (completePoint level s).console.result = s.console.result ∧
      (completePoint level s).console.mask = s.console.mask ∧
      (completePoint level s).console.response = s.console.response ∧
      (completePoint level s).freeUsed = s.freeUsed ∧
      (completePoint level s).pending = s.pending := by
  unfold completePoint
  first | (refine ⟨rfl, rfl, rfl, rfl, rfl, rfl, rfl, rfl, rfl, rfl, rfl, rfl, rfl, rfl, rfl, rfl⟩; done) | (simp; done) | ((repeat' split) <;> (simp; done)) | (dsimp only; (repeat' split) <;> simp)

/-- What `setActivity` leaves unchanged. -/
@[simp] theorem setActivity_frame (b : Fin 4) (a : Activity) (s : State) :
    (setActivity b a s).plan = s.plan ∧
      (setActivity b a s).slots = s.slots ∧
      (setActivity b a s).epoch = s.epoch ∧
      (setActivity b a s).engine = s.engine ∧
      (setActivity b a s).timing = s.timing ∧
      (setActivity b a s).zones = s.zones ∧
      (setActivity b a s).stations = s.stations ∧
      (setActivity b a s).sweep = s.sweep ∧
      (setActivity b a s).console = s.console ∧
      (setActivity b a s).freeUsed = s.freeUsed ∧
      (setActivity b a s).pending = s.pending := by
  unfold setActivity
  first | (refine ⟨rfl, rfl, rfl, rfl, rfl, rfl, rfl, rfl, rfl, rfl, rfl⟩; done) | (simp; done) | ((repeat' split) <;> (simp; done)) | (dsimp only; (repeat' split) <;> simp)

/-- What `continueRound` leaves unchanged. -/
@[simp] theorem continueRound_frame (b : Fin 4) (last : Nat) (s : State) :
    (continueRound b last s).plan = s.plan ∧
      (continueRound b last s).slots = s.slots ∧
      (continueRound b last s).epoch = s.epoch ∧
      (continueRound b last s).engine = s.engine ∧
      (continueRound b last s).timing = s.timing ∧
      (continueRound b last s).zones = s.zones ∧
      (continueRound b last s).stations = s.stations ∧
      (continueRound b last s).sweep = s.sweep ∧
      (continueRound b last s).console = s.console ∧
      (continueRound b last s).freeUsed = s.freeUsed ∧
      (continueRound b last s).pending = s.pending := by
  unfold continueRound
  first | (refine ⟨rfl, rfl, rfl, rfl, rfl, rfl, rfl, rfl, rfl, rfl, rfl⟩; done) | (simp; done) | ((repeat' split) <;> (simp; done)) | (dsimp only; (repeat' split) <;> simp)

/-- What `beginRound` leaves unchanged. -/
@[simp] theorem beginRound_frame (b : Fin 4) (s : State) :
    (beginRound b s).plan = s.plan ∧
      (beginRound b s).slots = s.slots ∧
      (beginRound b s).epoch = s.epoch ∧
      (beginRound b s).engine = s.engine ∧
      (beginRound b s).timing = s.timing ∧
      (beginRound b s).zones = s.zones ∧
      (beginRound b s).stations = s.stations ∧
      (beginRound b s).sweep = s.sweep ∧
      (beginRound b s).console = s.console ∧
      (beginRound b s).freeUsed = s.freeUsed ∧
      (beginRound b s).pending = s.pending := by
  unfold beginRound
  first | (refine ⟨rfl, rfl, rfl, rfl, rfl, rfl, rfl, rfl, rfl, rfl, rfl⟩; done) | (simp; done) | ((repeat' split) <;> (simp; done)) | (dsimp only; (repeat' split) <;> simp)

/-- What `formPoll` leaves unchanged. -/
@[simp] theorem formPoll_frame (b : Fin 4) (r : Fin 48) (st : Station) (s : State) :
    (formPoll b r st s).plan = s.plan ∧
      (formPoll b r st s).slots = s.slots ∧
      (formPoll b r st s).epoch = s.epoch ∧
      (formPoll b r st s).engine = s.engine ∧
      (formPoll b r st s).timing = s.timing ∧
      (formPoll b r st s).zones = s.zones ∧
      (formPoll b r st s).sweep = s.sweep ∧
      (formPoll b r st s).console = s.console ∧
      (formPoll b r st s).freeUsed = s.freeUsed ∧
      (formPoll b r st s).pending = s.pending := by
  unfold formPoll
  first | (refine ⟨rfl, rfl, rfl, rfl, rfl, rfl, rfl, rfl, rfl, rfl⟩; done) | (simp; done) | ((repeat' split) <;> (simp; done)) | (dsimp only; (repeat' split) <;> simp)

/-- What `orphanPolls` leaves unchanged. -/
@[simp] theorem orphanPolls_frame (r : Fin 48) (s : State) :
    (orphanPolls r s).plan = s.plan ∧
      (orphanPolls r s).slots = s.slots ∧
      (orphanPolls r s).epoch = s.epoch ∧
      (orphanPolls r s).engine = s.engine ∧
      (orphanPolls r s).timing = s.timing ∧
      (orphanPolls r s).zones = s.zones ∧
      (orphanPolls r s).stations = s.stations ∧
      (orphanPolls r s).sweep = s.sweep ∧
      (orphanPolls r s).console = s.console ∧
      (orphanPolls r s).freeUsed = s.freeUsed ∧
      (orphanPolls r s).pending = s.pending := by
  unfold orphanPolls
  first | (refine ⟨rfl, rfl, rfl, rfl, rfl, rfl, rfl, rfl, rfl, rfl, rfl⟩; done) | (simp; done) | ((repeat' split) <;> (simp; done)) | (dsimp only; (repeat' split) <;> simp)

/-- What `stopPolling` leaves unchanged. -/
@[simp] theorem stopPolling_frame (b : Fin 4) (s : State) :
    (stopPolling b s).plan = s.plan ∧
      (stopPolling b s).slots = s.slots ∧
      (stopPolling b s).epoch = s.epoch ∧
      (stopPolling b s).engine = s.engine ∧
      (stopPolling b s).timing = s.timing ∧
      (stopPolling b s).zones = s.zones ∧
      (stopPolling b s).stations = s.stations ∧
      (stopPolling b s).sweep = s.sweep ∧
      (stopPolling b s).console = s.console ∧
      (stopPolling b s).freeUsed = s.freeUsed ∧
      (stopPolling b s).pending = s.pending := by
  unfold stopPolling
  first | (refine ⟨rfl, rfl, rfl, rfl, rfl, rfl, rfl, rfl, rfl, rfl, rfl⟩; done) | (simp; done) | ((repeat' split) <;> (simp; done)) | (dsimp only; (repeat' split) <;> simp)

/-- What `countFailure` leaves unchanged. -/
@[simp] theorem countFailure_frame (p : Poll) (s : State) :
    (countFailure p s).plan = s.plan ∧
      (countFailure p s).slots = s.slots ∧
      (countFailure p s).epoch = s.epoch ∧
      (countFailure p s).engine = s.engine ∧
      (countFailure p s).timing = s.timing ∧
      (countFailure p s).zones = s.zones ∧
      (countFailure p s).branches = s.branches ∧
      (countFailure p s).sweep = s.sweep ∧
      (countFailure p s).console = s.console ∧
      (countFailure p s).freeUsed = s.freeUsed ∧
      (countFailure p s).pending = s.pending := by
  unfold countFailure
  first | (refine ⟨rfl, rfl, rfl, rfl, rfl, rfl, rfl, rfl, rfl, rfl, rfl⟩; done) | (simp; done) | ((repeat' split) <;> (simp; done)) | (dsimp only; (repeat' split) <;> simp)

/-- What `failPoll` leaves unchanged. -/
@[simp] theorem failPoll_frame (b : Fin 4) (p : Poll) (s : State) :
    (failPoll b p s).plan = s.plan ∧
      (failPoll b p s).slots = s.slots ∧
      (failPoll b p s).epoch = s.epoch ∧
      (failPoll b p s).engine = s.engine ∧
      (failPoll b p s).timing = s.timing ∧
      (failPoll b p s).zones = s.zones ∧
      (failPoll b p s).sweep = s.sweep ∧
      (failPoll b p s).console = s.console ∧
      (failPoll b p s).freeUsed = s.freeUsed ∧
      (failPoll b p s).pending = s.pending := by
  unfold failPoll
  first | (refine ⟨rfl, rfl, rfl, rfl, rfl, rfl, rfl, rfl, rfl, rfl⟩; done) | (simp; done) | ((repeat' split) <;> (simp; done)) | (dsimp only; (repeat' split) <;> simp)

/-- What `intakeQueue` leaves unchanged. -/
@[simp] theorem intakeQueue_frame (r : Fin 48) (st : Station) (ch : Fin 64) (p : Fin 16) (phase : Option Phase) (hint : Option Nat) (label : List Byte) (s : State) :
    (intakeQueue r st ch p phase hint label s).plan = s.plan ∧
      (intakeQueue r st ch p phase hint label s).slots = s.slots ∧
      (intakeQueue r st ch p phase hint label s).epoch = s.epoch ∧
      (intakeQueue r st ch p phase hint label s).engine.foreground = s.engine.foreground ∧
      (intakeQueue r st ch p phase hint label s).engine.background = s.engine.background ∧
      (intakeQueue r st ch p phase hint label s).engine.barred = s.engine.barred ∧
      (intakeQueue r st ch p phase hint label s).engine.upper = s.engine.upper ∧
      (intakeQueue r st ch p phase hint label s).engine.lower = s.engine.lower ∧
      (intakeQueue r st ch p phase hint label s).timing = s.timing ∧
      (intakeQueue r st ch p phase hint label s).zones = s.zones ∧
      (intakeQueue r st ch p phase hint label s).branches = s.branches ∧
      (intakeQueue r st ch p phase hint label s).sweep = s.sweep ∧
      (intakeQueue r st ch p phase hint label s).console.mode = s.console.mode ∧
      (intakeQueue r st ch p phase hint label s).console.openRequest = s.console.openRequest ∧
      (intakeQueue r st ch p phase hint label s).console.result = s.console.result ∧
      (intakeQueue r st ch p phase hint label s).console.mask = s.console.mask ∧
      (intakeQueue r st ch p phase hint label s).console.response = s.console.response ∧
      (intakeQueue r st ch p phase hint label s).freeUsed = s.freeUsed ∧
      (intakeQueue r st ch p phase hint label s).pending = s.pending := by
  unfold intakeQueue
  first | (refine ⟨rfl, rfl, rfl, rfl, rfl, rfl, rfl, rfl, rfl, rfl, rfl, rfl, rfl, rfl, rfl, rfl, rfl, rfl, rfl⟩; done) | (simp; done) | ((repeat' split) <;> (simp; done)) | (dsimp only; (repeat' split) <;> simp)

/-- What `handleRequest` leaves unchanged. -/
@[simp] theorem handleRequest_frame (r : Fin 48) (profile phase : Byte) (hint : Option Nat) (label : List Byte) (ch : Fin 64) (s : State) :
    (handleRequest r profile phase hint label ch s).plan = s.plan ∧
      (handleRequest r profile phase hint label ch s).slots = s.slots ∧
      (handleRequest r profile phase hint label ch s).epoch = s.epoch ∧
      (handleRequest r profile phase hint label ch s).engine.foreground = s.engine.foreground ∧
      (handleRequest r profile phase hint label ch s).engine.background = s.engine.background ∧
      (handleRequest r profile phase hint label ch s).engine.barred = s.engine.barred ∧
      (handleRequest r profile phase hint label ch s).engine.upper = s.engine.upper ∧
      (handleRequest r profile phase hint label ch s).engine.lower = s.engine.lower ∧
      (handleRequest r profile phase hint label ch s).timing = s.timing ∧
      (handleRequest r profile phase hint label ch s).zones = s.zones ∧
      (handleRequest r profile phase hint label ch s).branches = s.branches ∧
      (handleRequest r profile phase hint label ch s).sweep = s.sweep ∧
      (handleRequest r profile phase hint label ch s).console.mode = s.console.mode ∧
      (handleRequest r profile phase hint label ch s).console.openRequest = s.console.openRequest ∧
      (handleRequest r profile phase hint label ch s).console.result = s.console.result ∧
      (handleRequest r profile phase hint label ch s).console.mask = s.console.mask ∧
      (handleRequest r profile phase hint label ch s).console.response = s.console.response ∧
      (handleRequest r profile phase hint label ch s).freeUsed = s.freeUsed ∧
      (handleRequest r profile phase hint label ch s).pending = s.pending := by
  unfold handleRequest
  first | (refine ⟨rfl, rfl, rfl, rfl, rfl, rfl, rfl, rfl, rfl, rfl, rfl, rfl, rfl, rfl, rfl, rfl, rfl, rfl, rfl⟩; done) | (simp; done) | ((repeat' split) <;> (simp; done)) | (dsimp only; (repeat' split) <;> simp)

/-- What `routeFrame` leaves unchanged. -/
@[simp] theorem routeFrame_frame (r : Fin 48) (f : Frame) (s : State) :
    (routeFrame r f s).plan = s.plan ∧
      (routeFrame r f s).epoch = s.epoch ∧
      (routeFrame r f s).engine.foreground = s.engine.foreground ∧
      (routeFrame r f s).engine.background = s.engine.background ∧
      (routeFrame r f s).engine.upper = s.engine.upper ∧
      (routeFrame r f s).engine.lower = s.engine.lower ∧
      (routeFrame r f s).timing = s.timing ∧
      (routeFrame r f s).branches = s.branches ∧
      (routeFrame r f s).sweep = s.sweep ∧
      (routeFrame r f s).console.mode = s.console.mode ∧
      (routeFrame r f s).console.openRequest = s.console.openRequest ∧
      (routeFrame r f s).console.result = s.console.result ∧
      (routeFrame r f s).console.mask = s.console.mask ∧
      (routeFrame r f s).console.response = s.console.response ∧
      (routeFrame r f s).freeUsed = s.freeUsed ∧
      (routeFrame r f s).pending = s.pending := by
  unfold routeFrame withChannel
  split <;> (try split) <;> simp

/-- What `acceptPoll` leaves unchanged. -/
@[simp] theorem acceptPoll_frame (b : Fin 4) (p : Poll) (f : Frame) (s : State) :
    (acceptPoll b p f s).plan = s.plan ∧
      (acceptPoll b p f s).epoch = s.epoch ∧
      (acceptPoll b p f s).engine.foreground = s.engine.foreground ∧
      (acceptPoll b p f s).engine.upper = s.engine.upper ∧
      (acceptPoll b p f s).engine.lower = s.engine.lower ∧
      (acceptPoll b p f s).timing = s.timing ∧
      (acceptPoll b p f s).sweep = s.sweep ∧
      (acceptPoll b p f s).console.mode = s.console.mode ∧
      (acceptPoll b p f s).console.openRequest = s.console.openRequest ∧
      (acceptPoll b p f s).console.result = s.console.result ∧
      (acceptPoll b p f s).console.mask = s.console.mask ∧
      (acceptPoll b p f s).console.response = s.console.response ∧
      (acceptPoll b p f s).freeUsed = s.freeUsed ∧
      (acceptPoll b p f s).pending = s.pending := by
  unfold acceptPoll
  first | (refine ⟨rfl, rfl, rfl, rfl, rfl, rfl, rfl, rfl, rfl, rfl, rfl, rfl, rfl, rfl⟩; done) | (simp; done) | ((repeat' split) <;> (simp; done)) | (dsimp only; (repeat' split) <;> simp)

/-- What `receiveChar` leaves unchanged. -/
@[simp] theorem receiveChar_frame (b : Fin 4) (c : RxChar) (s : State) :
    (receiveChar b c s).plan = s.plan ∧
      (receiveChar b c s).epoch = s.epoch ∧
      (receiveChar b c s).engine.foreground = s.engine.foreground ∧
      (receiveChar b c s).engine.upper = s.engine.upper ∧
      (receiveChar b c s).engine.lower = s.engine.lower ∧
      (receiveChar b c s).timing = s.timing ∧
      (receiveChar b c s).sweep = s.sweep ∧
      (receiveChar b c s).console.mode = s.console.mode ∧
      (receiveChar b c s).console.openRequest = s.console.openRequest ∧
      (receiveChar b c s).console.result = s.console.result ∧
      (receiveChar b c s).console.mask = s.console.mask ∧
      (receiveChar b c s).console.response = s.console.response ∧
      (receiveChar b c s).freeUsed = s.freeUsed ∧
      (receiveChar b c s).pending = s.pending := by
  unfold receiveChar
  first | (refine ⟨rfl, rfl, rfl, rfl, rfl, rfl, rfl, rfl, rfl, rfl, rfl, rfl, rfl, rfl⟩; done) | (simp; done) | ((repeat' split) <;> (simp; done)) | (dsimp only; (repeat' split) <;> simp)

/-- What `failOpenPoll` leaves unchanged. -/
@[simp] theorem failOpenPoll_frame (b : Fin 4) (s : State) :
    (failOpenPoll b s).plan = s.plan ∧
      (failOpenPoll b s).slots = s.slots ∧
      (failOpenPoll b s).epoch = s.epoch ∧
      (failOpenPoll b s).engine = s.engine ∧
      (failOpenPoll b s).timing = s.timing ∧
      (failOpenPoll b s).zones = s.zones ∧
      (failOpenPoll b s).branches = s.branches ∧
      (failOpenPoll b s).sweep = s.sweep ∧
      (failOpenPoll b s).console = s.console ∧
      (failOpenPoll b s).freeUsed = s.freeUsed ∧
      (failOpenPoll b s).pending = s.pending := by
  unfold failOpenPoll
  first | (refine ⟨rfl, rfl, rfl, rfl, rfl, rfl, rfl, rfl, rfl, rfl, rfl⟩; done) | (simp; done) | ((repeat' split) <;> (simp; done)) | (dsimp only; (repeat' split) <;> simp)

/-- What `faultBranch` leaves unchanged. -/
@[simp] theorem faultBranch_frame (b : Fin 4) (s : State) :
    (faultBranch b s).plan = s.plan ∧
      (faultBranch b s).slots = s.slots ∧
      (faultBranch b s).epoch = s.epoch ∧
      (faultBranch b s).engine = s.engine ∧
      (faultBranch b s).timing = s.timing ∧
      (faultBranch b s).zones = s.zones ∧
      (faultBranch b s).sweep = s.sweep ∧
      (faultBranch b s).console.mode = s.console.mode ∧
      (faultBranch b s).console.openRequest = s.console.openRequest ∧
      (faultBranch b s).console.result = s.console.result ∧
      (faultBranch b s).console.mask = s.console.mask ∧
      (faultBranch b s).console.response = s.console.response ∧
      (faultBranch b s).freeUsed = s.freeUsed ∧
      (faultBranch b s).pending = s.pending := by
  unfold faultBranch
  first | (refine ⟨rfl, rfl, rfl, rfl, rfl, rfl, rfl, rfl, rfl, rfl, rfl, rfl, rfl, rfl⟩; done) | (simp; done) | ((repeat' split) <;> (simp; done)) | (dsimp only; (repeat' split) <;> simp)

/-- What `recoverBranch` leaves unchanged. -/
@[simp] theorem recoverBranch_frame (b : Fin 4) (s : State) :
    (recoverBranch b s).plan = s.plan ∧
      (recoverBranch b s).slots = s.slots ∧
      (recoverBranch b s).epoch = s.epoch ∧
      (recoverBranch b s).engine = s.engine ∧
      (recoverBranch b s).timing = s.timing ∧
      (recoverBranch b s).zones = s.zones ∧
      (recoverBranch b s).stations = s.stations ∧
      (recoverBranch b s).sweep = s.sweep ∧
      (recoverBranch b s).console = s.console ∧
      (recoverBranch b s).freeUsed = s.freeUsed ∧
      (recoverBranch b s).pending = s.pending := by
  unfold recoverBranch
  first | (refine ⟨rfl, rfl, rfl, rfl, rfl, rfl, rfl, rfl, rfl, rfl, rfl⟩; done) | (simp; done) | ((repeat' split) <;> (simp; done)) | (dsimp only; (repeat' split) <;> simp)

/-- What `enableBranch` leaves unchanged. -/
@[simp] theorem enableBranch_frame (b : Fin 4) (s : State) :
    (enableBranch b s).plan = s.plan ∧
      (enableBranch b s).slots = s.slots ∧
      (enableBranch b s).epoch = s.epoch ∧
      (enableBranch b s).engine = s.engine ∧
      (enableBranch b s).timing = s.timing ∧
      (enableBranch b s).zones = s.zones ∧
      (enableBranch b s).stations = s.stations ∧
      (enableBranch b s).sweep = s.sweep ∧
      (enableBranch b s).console = s.console ∧
      (enableBranch b s).freeUsed = s.freeUsed ∧
      (enableBranch b s).pending = s.pending := by
  unfold enableBranch
  first | (refine ⟨rfl, rfl, rfl, rfl, rfl, rfl, rfl, rfl, rfl, rfl, rfl⟩; done) | (simp; done) | ((repeat' split) <;> (simp; done)) | (dsimp only; (repeat' split) <;> simp)

/-- What `disableBranch` leaves unchanged. -/
@[simp] theorem disableBranch_frame (b : Fin 4) (s : State) :
    (disableBranch b s).plan = s.plan ∧
      (disableBranch b s).slots = s.slots ∧
      (disableBranch b s).epoch = s.epoch ∧
      (disableBranch b s).engine = s.engine ∧
      (disableBranch b s).timing = s.timing ∧
      (disableBranch b s).zones = s.zones ∧
      (disableBranch b s).sweep = s.sweep ∧
      (disableBranch b s).console = s.console ∧
      (disableBranch b s).freeUsed = s.freeUsed ∧
      (disableBranch b s).pending = s.pending := by
  unfold disableBranch
  first | (refine ⟨rfl, rfl, rfl, rfl, rfl, rfl, rfl, rfl, rfl, rfl⟩; done) | (simp; done) | ((repeat' split) <;> (simp; done)) | (dsimp only; (repeat' split) <;> simp)

/-- What `setStation` leaves unchanged. -/
@[simp] theorem setStation_frame (r : Fin 48) (x : Option Station) (s : State) :
    (setStation r x s).plan = s.plan ∧
      (setStation r x s).slots = s.slots ∧
      (setStation r x s).epoch = s.epoch ∧
      (setStation r x s).engine = s.engine ∧
      (setStation r x s).timing = s.timing ∧
      (setStation r x s).zones = s.zones ∧
      (setStation r x s).branches = s.branches ∧
      (setStation r x s).sweep = s.sweep ∧
      (setStation r x s).console = s.console ∧
      (setStation r x s).freeUsed = s.freeUsed ∧
      (setStation r x s).pending = s.pending := by
  unfold setStation
  first | (refine ⟨rfl, rfl, rfl, rfl, rfl, rfl, rfl, rfl, rfl, rfl, rfl⟩; done) | (simp; done) | ((repeat' split) <;> (simp; done)) | (dsimp only; (repeat' split) <;> simp)

/-- What `storeStation` leaves unchanged. -/
@[simp] theorem storeStation_frame (r : Fin 48) (new : StationSettings) (s : State) :
    (storeStation r new s).plan = s.plan ∧
      (storeStation r new s).slots = s.slots ∧
      (storeStation r new s).epoch = s.epoch ∧
      (storeStation r new s).engine = s.engine ∧
      (storeStation r new s).timing = s.timing ∧
      (storeStation r new s).zones = s.zones ∧
      (storeStation r new s).sweep = s.sweep ∧
      (storeStation r new s).console = s.console ∧
      (storeStation r new s).freeUsed = s.freeUsed ∧
      (storeStation r new s).pending = s.pending := by
  unfold storeStation
  first | (refine ⟨rfl, rfl, rfl, rfl, rfl, rfl, rfl, rfl, rfl, rfl⟩; done) | (simp; done) | ((repeat' split) <;> (simp; done)) | (dsimp only; (repeat' split) <;> simp)

/-- What `resetPart` leaves unchanged. -/
@[simp] theorem resetPart_frame (s : State) :
    (resetPart s).sweep.latched = s.sweep.latched ∧
      (resetPart s).freeUsed = s.freeUsed ∧
      (resetPart s).pending = s.pending := by
  unfold resetPart
  first | (refine ⟨rfl, rfl, rfl⟩; done) | (simp; done) | ((repeat' split) <;> (simp; done)) | (dsimp only; (repeat' split) <;> simp)

/-- What `setMode` leaves unchanged. -/
@[simp] theorem setMode_frame (m : Mode) (s : State) :
    (setMode m s).plan = s.plan ∧
      (setMode m s).slots = s.slots ∧
      (setMode m s).epoch = s.epoch ∧
      (setMode m s).engine = s.engine ∧
      (setMode m s).timing = s.timing ∧
      (setMode m s).zones = s.zones ∧
      (setMode m s).stations = s.stations ∧
      (setMode m s).branches = s.branches ∧
      (setMode m s).sweep = s.sweep ∧
      (setMode m s).console.openRequest = s.console.openRequest ∧
      (setMode m s).console.result = s.console.result ∧
      (setMode m s).console.flags = s.console.flags ∧
      (setMode m s).console.mask = s.console.mask ∧
      (setMode m s).console.response = s.console.response ∧
      (setMode m s).freeUsed = s.freeUsed ∧
      (setMode m s).pending = s.pending := by
  unfold setMode
  first | (refine ⟨rfl, rfl, rfl, rfl, rfl, rfl, rfl, rfl, rfl, rfl, rfl, rfl, rfl, rfl, rfl, rfl⟩; done) | (simp; done) | ((repeat' split) <;> (simp; done)) | (dsimp only; (repeat' split) <;> simp)

/-- What `startBranch` leaves unchanged. -/
@[simp] theorem startBranch_frame (b : Fin 4) (s : State) :
    (startBranch b s).plan = s.plan ∧
      (startBranch b s).slots = s.slots ∧
      (startBranch b s).epoch = s.epoch ∧
      (startBranch b s).engine = s.engine ∧
      (startBranch b s).timing = s.timing ∧
      (startBranch b s).zones = s.zones ∧
      (startBranch b s).stations = s.stations ∧
      (startBranch b s).sweep = s.sweep ∧
      (startBranch b s).console = s.console ∧
      (startBranch b s).freeUsed = s.freeUsed ∧
      (startBranch b s).pending = s.pending := by
  unfold startBranch
  first | (refine ⟨rfl, rfl, rfl, rfl, rfl, rfl, rfl, rfl, rfl, rfl, rfl⟩; done) | (simp; done) | ((repeat' split) <;> (simp; done)) | (dsimp only; (repeat' split) <;> simp)

/-- What `startPart` leaves unchanged. -/
@[simp] theorem startPart_frame (s : State) :
    (startPart s).plan = s.plan ∧
      (startPart s).epoch = s.epoch ∧
      (startPart s).engine.upper = s.engine.upper ∧
      (startPart s).engine.lower = s.engine.lower ∧
      (startPart s).timing = s.timing ∧
      (startPart s).zones = s.zones ∧
      (startPart s).sweep = s.sweep ∧
      (startPart s).console.mask = s.console.mask ∧
      (startPart s).console.response = s.console.response ∧
      (startPart s).freeUsed = s.freeUsed ∧
      (startPart s).pending = s.pending := by
  unfold startPart
  have k := foldl_ind (fun t => t.plan = s.plan ∧ t.epoch = s.epoch ∧ t.engine.upper = s.engine.upper ∧ t.engine.lower = s.engine.lower ∧ t.timing = s.timing ∧ t.zones = s.zones ∧ t.sweep = s.sweep ∧ t.console.mask = s.console.mask ∧ t.console.response = s.console.response ∧ t.freeUsed = s.freeUsed ∧ t.pending = s.pending) (fun t b => startBranch b t) (fun t a h => by simpa using h)
    (List.finRange 4) (setMode .run s) (by simp)
  simpa using k

/-- What `stopPart` leaves unchanged. -/
@[simp] theorem stopPart_frame (s : State) :
    (stopPart s).plan = s.plan ∧
      (stopPart s).epoch = s.epoch ∧
      (stopPart s).engine.barred = s.engine.barred ∧
      (stopPart s).engine.upper = s.engine.upper ∧
      (stopPart s).engine.lower = s.engine.lower ∧
      (stopPart s).timing = s.timing ∧
      (stopPart s).sweep = s.sweep ∧
      (stopPart s).console.mask = s.console.mask ∧
      (stopPart s).console.response = s.console.response ∧
      (stopPart s).freeUsed = s.freeUsed ∧
      (stopPart s).pending = s.pending := by
  unfold stopPart
  have k := foldl_ind (fun t => t.plan = s.plan ∧ t.epoch = s.epoch ∧ t.engine.barred = s.engine.barred ∧ t.engine.upper = s.engine.upper ∧ t.engine.lower = s.engine.lower ∧ t.timing = s.timing ∧ t.sweep = s.sweep ∧ t.console.mask = s.console.mask ∧ t.console.response = s.console.response ∧ t.freeUsed = s.freeUsed ∧ t.pending = s.pending) (fun t b => stopPolling b t) (fun t a h => by simpa using h)
    (List.finRange 4) (stopTick (abandonWork s)) (by simp)
  simpa using k

/-- What `emptyTables` leaves unchanged. -/
@[simp] theorem emptyTables_frame (s : State) :
    (emptyTables s).plan = s.plan ∧
      (emptyTables s).epoch = s.epoch ∧
      (emptyTables s).engine.queue = s.engine.queue ∧
      (emptyTables s).engine.foreground = s.engine.foreground ∧
      (emptyTables s).engine.background = s.engine.background ∧
      (emptyTables s).engine.upper = s.engine.upper ∧
      (emptyTables s).engine.lower = s.engine.lower ∧
      (emptyTables s).engine.defer = s.engine.defer ∧
      (emptyTables s).timing = s.timing ∧
      (emptyTables s).branches = s.branches ∧
      (emptyTables s).sweep.activity = s.sweep.activity ∧
      (emptyTables s).sweep.cursor = s.sweep.cursor ∧
      (emptyTables s).sweep.last = s.sweep.last ∧
      (emptyTables s).sweep.config = s.sweep.config ∧
      (emptyTables s).sweep.latched = s.sweep.latched ∧
      (emptyTables s).console = s.console ∧
      (emptyTables s).freeUsed = s.freeUsed ∧
      (emptyTables s).pending = s.pending := by
  unfold emptyTables
  first | (refine ⟨rfl, rfl, rfl, rfl, rfl, rfl, rfl, rfl, rfl, rfl, rfl, rfl, rfl, rfl, rfl, rfl, rfl, rfl⟩; done) | (simp; done) | ((repeat' split) <;> (simp; done)) | (dsimp only; (repeat' split) <;> simp)

/-- What `clearPart` leaves unchanged. -/
@[simp] theorem clearPart_frame (s : State) :
    (clearPart s).plan = s.plan ∧
      (clearPart s).epoch = s.epoch ∧
      (clearPart s).engine.upper = s.engine.upper ∧
      (clearPart s).engine.lower = s.engine.lower ∧
      (clearPart s).timing = s.timing ∧
      (clearPart s).sweep.activity = s.sweep.activity ∧
      (clearPart s).sweep.cursor = s.sweep.cursor ∧
      (clearPart s).sweep.last = s.sweep.last ∧
      (clearPart s).sweep.config = s.sweep.config ∧
      (clearPart s).sweep.latched = s.sweep.latched ∧
      (clearPart s).console.mask = s.console.mask ∧
      (clearPart s).console.response = s.console.response ∧
      (clearPart s).freeUsed = s.freeUsed ∧
      (clearPart s).pending = s.pending := by
  unfold clearPart
  first | (refine ⟨rfl, rfl, rfl, rfl, rfl, rfl, rfl, rfl, rfl, rfl, rfl, rfl, rfl, rfl⟩; done) | (simp; done) | ((repeat' split) <;> (simp; done)) | (dsimp only; (repeat' split) <;> simp)

/-- What `writeThresholds` leaves unchanged. -/
@[simp] theorem writeThresholds_frame (upper lower : Nat) (s : State) :
    (writeThresholds upper lower s).plan = s.plan ∧
      (writeThresholds upper lower s).slots = s.slots ∧
      (writeThresholds upper lower s).epoch = s.epoch ∧
      (writeThresholds upper lower s).engine.queue = s.engine.queue ∧
      (writeThresholds upper lower s).engine.foreground = s.engine.foreground ∧
      (writeThresholds upper lower s).engine.background = s.engine.background ∧
      (writeThresholds upper lower s).engine.barred = s.engine.barred ∧
      (writeThresholds upper lower s).timing = s.timing ∧
      (writeThresholds upper lower s).zones = s.zones ∧
      (writeThresholds upper lower s).stations = s.stations ∧
      (writeThresholds upper lower s).branches = s.branches ∧
      (writeThresholds upper lower s).sweep = s.sweep ∧
      (writeThresholds upper lower s).console.mode = s.console.mode ∧
      (writeThresholds upper lower s).console.openRequest = s.console.openRequest ∧
      (writeThresholds upper lower s).console.result = s.console.result ∧
      (writeThresholds upper lower s).console.mask = s.console.mask ∧
      (writeThresholds upper lower s).console.response = s.console.response ∧
      (writeThresholds upper lower s).freeUsed = s.freeUsed ∧
      (writeThresholds upper lower s).pending = s.pending := by
  unfold writeThresholds
  first | (refine ⟨rfl, rfl, rfl, rfl, rfl, rfl, rfl, rfl, rfl, rfl, rfl, rfl, rfl, rfl, rfl, rfl, rfl, rfl, rfl⟩; done) | (simp; done) | ((repeat' split) <;> (simp; done)) | (dsimp only; (repeat' split) <;> simp)

/-- What `clearFlags` leaves unchanged. -/
@[simp] theorem clearFlags_frame (s : State) :
    (clearFlags s).plan = s.plan ∧
      (clearFlags s).slots = s.slots ∧
      (clearFlags s).epoch = s.epoch ∧
      (clearFlags s).engine = s.engine ∧
      (clearFlags s).timing = s.timing ∧
      (clearFlags s).zones = s.zones ∧
      (clearFlags s).stations = s.stations ∧
      (clearFlags s).branches = s.branches ∧
      (clearFlags s).sweep = s.sweep ∧
      (clearFlags s).console.mode = s.console.mode ∧
      (clearFlags s).console.openRequest = s.console.openRequest ∧
      (clearFlags s).console.result = s.console.result ∧
      (clearFlags s).console.mask = s.console.mask ∧
      (clearFlags s).console.response = s.console.response ∧
      (clearFlags s).freeUsed = s.freeUsed ∧
      (clearFlags s).pending = s.pending := by
  unfold clearFlags
  first | (refine ⟨rfl, rfl, rfl, rfl, rfl, rfl, rfl, rfl, rfl, rfl, rfl, rfl, rfl, rfl, rfl, rfl⟩; done) | (simp; done) | ((repeat' split) <;> (simp; done)) | (dsimp only; (repeat' split) <;> simp)

end Sys2Proof.Machine
end

