-- ==== Sys2Proof/Laws/Ops.lean ====
section
/-! SUPPORT. What the shared operations do, each said once: the checks of request parameters, the lowest FREE slot, joining and
leaving the request queue, the ends of a search, and when a refill can start. -/

namespace Sys2Proof

/-! ## Tables -/

/-- Two changes of one record are one change. -/
theorem Table.change_change {α : Type} {n : Nat} (t : Table α n) (i : Fin n) (f g : α → α) :
    (t.change i f).change i g = t.change i (g ∘ f) := by
  unfold Table.change
  simp [Table.write, Table.read_eq]

/-- The lowest number with a property: it has it, and no lower number does. -/
theorem Table.lowestWith_eq_some {α : Type} {n : Nat} (t : Table α n) (p : α → Bool) (i : Fin n) :
    t.lowestWith p = some i ↔ p (t.read i) = true ∧ ∀ j < i, p (t.read j) = false := by
  have lowest : ∀ i, t.lowestWith p = some i → ∀ j < i, p (t.read j) = false := by
    intro i h j hj
    unfold Table.lowestWith at h
    rw [Table.entries_eq, List.find?_map, Option.map_map, Option.map_eq_some_iff] at h
    obtain ⟨k, hk, rfl⟩ := h
    rw [List.find?_eq_some_iff_append] at hk
    obtain ⟨_, as, bs, hl, hn⟩ := hk
    have hp := List.pairwise_lt_finRange n
    rw [hl, List.pairwise_append, List.pairwise_cons] at hp
    have hm : j ∈ as ++ k :: bs := hl ▸ List.mem_finRange j
    rcases List.mem_append.1 hm with hm | hm
    · simpa using hn j hm
    · rcases List.mem_cons.1 hm with rfl | hm
      · exact absurd hj (lt_irrefl _)
      · exact absurd (hp.2.1.1 j hm) (lt_asymm hj)
  constructor
  · exact fun h => ⟨Table.lowestWith_some h, lowest i h⟩
  · rintro ⟨h1, h2⟩
    cases h : t.lowestWith p with
    | none => simp [(Table.lowestWith_none t p).1 h i] at h1
    | some j =>
      rcases lt_trichotomy i j with q | q | q
      · simp [lowest j h i q] at h1
      · rw [q]
      · exact absurd (Table.lowestWith_some h) (by simp [h2 j q])

end Sys2Proof

namespace Sys2Proof.Machine

/-! ## Parameters (R1, R5, R6, R23) -/

/-- A number in range is the number carried. -/
theorem numberBelow_of_lt {limit n : Nat} (h : n < limit) : numberBelow limit n = some ⟨n, h⟩ := by
  simp [numberBelow, h]

/-- A number out of range names nothing. -/
theorem numberBelow_of_not_lt {limit n : Nat} (h : ¬n < limit) : numberBelow limit n = none := by
  simp [numberBelow, h]

/-- A pair of edges that the checks pass. -/
theorem edgesValid_iff (lo hi : Nat) : edgesValid lo hi = true ↔ lo ≤ hi ∧ hi < 9120 := by
  simp only [edgesValid, onGrid, Bool.and_eq_true, decide_eq_true_eq]
  show (lo < 9120 ∧ hi < 9120) ∧ lo ≤ hi ↔ _
  omega

/-- A step that the checks pass. -/
theorem stepValid_iff (n : Nat) : stepValid n = true ↔ n ∈ [1, 2, 4, 8] := by
  simp [stepValid, or_assoc]

/-- A level that the converter gives fits its eight bits (R194). -/
theorem converterLevel_le (free : Byte) (rssi refLow refHigh : Nat) : converterLevel free rssi refLow refHigh ≤ 255 := by
  unfold converterLevel
  split_ifs
  · exact Nat.le_of_lt_succ free.isLt
  · omega
  · omega
  · exact Nat.div_le_of_le_mul (by rw [Nat.mul_comm]; exact Nat.mul_le_mul_right _ (by omega))

/-- A label that the checks pass. -/
theorem labelValid_iff (l : List Byte) :
    labelValid l = true ↔ l.length ≤ 12 ∧ ∀ c ∈ l, 32 ≤ c.toNat ∧ c.toNat ≤ 126 := by
  simp only [labelValid, printable, Bool.and_eq_true, decide_eq_true_eq, List.all_eq_true]
  exact Iff.rfl

/-! ## The lowest FREE slot (R28) -/

/-- A FREE slot is FREE. -/
theorem isFree_iff (x : Slot) : x.isFree = true ↔ x = .free := by cases x <;> simp [Slot.isFree]

/-- The lowest FREE slot is a FREE slot with none below it. -/
theorem lowestFree_eq_some (s : State) (i : Fin 384) :
    lowestFree s = some i ↔ s.slots.read i = .free ∧ ∀ j < i, s.slots.read j ≠ .free := by
  unfold lowestFree
  rw [Table.lowestWith_eq_some]
  simp only [isFree_iff, Bool.eq_false_iff, ne_eq]

/-- There is no lowest FREE slot when no slot is FREE. -/
theorem lowestFree_eq_none (s : State) : lowestFree s = none ↔ ∀ i, s.slots.read i ≠ .free := by
  unfold lowestFree
  rw [Table.lowestWith_none]
  simp only [isFree_iff, Bool.eq_false_iff, ne_eq]

/-- There is a lowest FREE slot where some slot is FREE. -/
theorem lowestFree_isSome (s : State) : (lowestFree s).isSome = true ↔ ∃ i, s.slots.read i = .free := by
  rw [Option.isSome_iff_ne_none, ne_eq, lowestFree_eq_none]
  simp

/-! ## Refills (R82) -/

/-- No refill starts while the foreground holds work. -/
theorem startRefill_of_foreground {s : State} (h : s.engine.foreground.isSome = true) : startRefill s = s := by
  unfold startRefill refillAllowed engineFree
  cases hf : s.engine.foreground <;> simp_all

/-- No refill starts while one is held. -/
theorem startRefill_of_background {s : State} (h : s.engine.background.isSome = true) : startRefill s = s := by
  unfold startRefill refillAllowed
  cases hf : s.engine.background <;> simp_all

/-- When a refill may start. -/
theorem refillAllowed_iff (s : State) :
    refillAllowed s = true ↔ s.console.mode = .run ∧ s.engine.foreground = none ∧ s.engine.background = none ∧
      s.engine.queue = [] ∧ ∃ i, s.slots.read i = .free := by
  simp only [refillAllowed, inRun, engineFree, Bool.and_eq_true, beq_iff_eq, Option.isNone_iff_eq_none,
    List.isEmpty_iff, lowestFree_isSome]
  tauto

/-! ## The request queue (R65, R66, R68) -/

/-- The queue grows by one. -/
theorem enqueue_length (w : Work) (q : List Work) : (enqueue w q).length = q.length + 1 := by
  have h := congrArg List.length (List.takeWhile_append_dropWhile (p := fun x : Work => decide (x.rank ≤ w.rank)) (l := q))
  simp only [List.length_append] at h
  simp only [enqueue, List.length_append, List.length_cons]
  omega

/-- An entry that joins the queue, and DEFER. -/
theorem joinQueue_eq (w : Work) (s : State) :
    joinQueue w s =
      { s with
        engine :=
          { s.engine with
            queue := enqueue w s.engine.queue
            defer := s.engine.defer || decide (s.engine.upper ≤ s.engine.queue.length + 1) }
        console :=
          { s.console with
            flags :=
              if s.engine.defer = false ∧ s.engine.upper ≤ s.engine.queue.length + 1 then s.console.flags ||| 0x80
              else s.console.flags } } := by
  unfold joinQueue deferSet
  simp only [enqueue_length]
  split_ifs with h
  · simp only [raise, attentionBit, h, decide_true, Bool.or_true]
  · by_cases hd : s.engine.defer = true
    · simp [hd]
    · have hd' : s.engine.defer = false := by simpa using hd
      have hu : ¬s.engine.upper ≤ s.engine.queue.length + 1 := fun q => h ⟨hd', q⟩
      simp [hd', hu]

/-- The front entry leaves, and DEFER. -/
theorem dequeue_eq (rest : List Work) (s : State) :
    dequeue rest s =
      { s with
        engine := { s.engine with queue := rest, defer := s.engine.defer && decide (s.engine.lower < rest.length) } } := by
  unfold dequeue deferClear
  dsimp only
  split_ifs with h
  · have hl : ¬s.engine.lower < rest.length := by omega
    simp [hl]
  · have hl : s.engine.lower < rest.length := by omega
    simp [hl]

/-! ## The ends of a search (R67, R79, R80) -/

/-- The answer of a station's search. -/
theorem answerWork_eq (r : Fin 48) (a : Answer) (s : State) :
    answerWork r a s =
      { s with
        engine := { s.engine with foreground := none }
        stations := s.stations.change r (Option.map fun st =>
          { st with answers := st.answers ++ [a], openRequest := false }) } := by
  unfold answerWork leaveForeground closeRequest giveAnswer changeStation
  simp only [Table.change_change]
  congr 2
  funext x
  cases x <;> rfl

/-- The moving slot is still the station's. -/
theorem stillMoving_iff (s : State) (w : MoveWork) :
    stillMoving s w = true ↔ ∃ o, s.slots.read w.slot = .owned o ∧ o.station = w.station ∧ o.channel = w.channel := by
  unfold stillMoving
  cases h : s.slots.read w.slot <;> simp [Slot.ownedBy]

/-! ## Exclusion bands (R14, R15) -/

/-- An inserted band joins the others. -/
theorem insertBand_perm (b : Band) (l : List Band) : (insertBand b l).Perm (b :: l) := by
  unfold insertBand
  refine List.perm_middle.trans ?_
  rw [List.takeWhile_append_dropWhile]

end Sys2Proof.Machine
end

