-- ==== Sys2Proof/Tests/Slice0.lean ====
section
/-! SUPPORT. Tests: the ill-formed terms, frames written out by hand, single events of the manual's worked examples, and for
every statement with hypotheses a state that meets them. Each expected value comes from the manual's own tables, named
beside the test. -/

namespace Sys2Proof.Tests

set_option Elab.async false

open Sys2Proof Sys2Proof.Machine

/-! ## Ill-formed terms, one for each check of WellFormed -/

theorem test_wellFormed_profile_state : (Instr.writeProfile 0 0 0 9119 1 1 0 0).wellFormed = false := by decide
theorem test_wellFormed_pin_check : (Instr.pin 0 0 0 1 []).wellFormed = false := by decide
theorem test_wellFormed_pin_label : (Instr.pin 0 0 0 0 (List.replicate 256 65)).wellFormed = false := by decide +kernel
theorem test_wellFormed_checkedPin_label : (Instr.checkedPin 0 0 0 (List.replicate 256 65)).wellFormed = false := by
  decide +kernel
theorem test_wellFormed_unknown_code : (Instr.unknownRequestCode 9).wellFormed = false := by decide
theorem test_wellFormed_early_whole : (Instr.chipSelectReleasedEarly [9]).wellFormed = false := by decide
theorem test_wellFormed_references : (Instr.conversionComplete 10 7 7).wellFormed = false := by decide
theorem test_wellFormed_accepts :
    (Instr.writeProfile 0 1 0 9119 1 1 0 0).wellFormed = true ∧ (Instr.pin 0 0 0 0 [65]).wellFormed = true ∧
      (Instr.unknownRequestCode 12).wellFormed = true ∧ (Instr.chipSelectReleasedEarly [5, 3]).wellFormed = true ∧
      (Instr.conversionComplete 10 0 255).wellFormed = true := by decide

/-! ## Frames written out byte by byte from R187 and R191 -/

theorem test_decode_write_profile :
    decodeFrame [1, 5, 1, 0x00, 0x64, 0x07, 0xD0, 4, 50, 25, 3] = .writeProfile 5 1 100 2000 4 50 25 3 := by decide
theorem test_decode_write_profile_undefined :
    decodeFrame [1, 5, 0, 0x00, 0x64, 0x07, 0xD0, 4, 50, 25, 3] = .writeProfileUndefined 5 100 2000 4 50 25 3 := by decide
theorem test_decode_write_zone :
    decodeFrame [3, 3, 0x01, 0x90, 0x09, 0x60, 2, 2, 0x00, 0x5A] = .writeZone 3 400 2400 2 2 90 := by decide
theorem test_decode_write_coupling : decodeFrame [5, 3, 4, 1] = .writeCoupling 3 4 1 := by decide
theorem test_decode_add_exclusion : decodeFrame [7, 0x03, 0x20, 0x03, 0x84] = .addExclusion 800 900 := by decide
theorem test_decode_write_defer : decodeFrame [20, 4, 2] = .writeDefer 4 2 := by decide
theorem test_decode_write_station : decodeFrame [24, 9, 0, 7, 2, 16, 1] = .writeStation 9 0 7 2 16 1 := by decide
theorem test_decode_write_branch : decodeFrame [28, 1, 3, 2, 4, 10, 20] = .writeBranch 1 3 2 4 10 20 := by decide
theorem test_decode_pin :
    decodeFrame [32, 0x03, 0xE8, 2, 3, 0, 7, 80, 82, 69, 83, 83, 45, 49] =
      .pin 1000 2 3 0 [80, 82, 69, 83, 83, 45, 49] := by decide
theorem test_decode_checked_pin : decodeFrame [32, 0x03, 0xE8, 2, 3, 1, 1, 65] = .checkedPin 1000 2 3 [65] := by decide
theorem test_decode_read_entries : decodeFrame [35, 0x01, 0x7C, 16] = .readEntries 380 16 := by decide
theorem test_decode_changeover : decodeFrame [40, 2, 1] = .changeover 2 1 := by decide
theorem test_decode_check : decodeFrame [44, 0x01, 0xB6, 2, 3] = .check 438 2 3 := by decide
theorem test_decode_write_sweep :
    decodeFrame [48, 0x05, 0xDC, 0x06, 0x18, 4, 20, 64, 6, 2, 3, 2, 50, 0x00, 0x92, 0xE0, 2] =
      .writeSweep 1500 1560 4 20 64 6 2 3 2 50 37600 2 := by decide
theorem test_decode_start : decodeFrame [56] = .start := by decide
theorem test_decode_write_mask : decodeFrame [61, 0x8C] = .writeMask 0x8C := by decide
theorem test_decode_unknown_code : decodeFrame [12, 0] = .unknownRequestCode 12 := by decide
theorem test_decode_early : decodeFrame [5, 3] = .chipSelectReleasedEarly [5, 3] := by decide
theorem test_decode_extra_bytes : decodeFrame [10, 6, 8, 0, 0] = .writeGuards 6 8 := by decide

/-! ## Small states -/

/-- The state after a command. -/
def after (c : Instr) (s : State) : State :=
  match exec c s with
  | .next t => t
  | .fault _ => s
  | .refused _ => s

/-- Profile 2 of chapters 2 to 4: window 0..9119, step 1, c 12, p3 8, p5 0. -/
def profile2 : Profile := { defined := true, low := 0, high := 9119, step := 1, c := 12, p3 := 8, p5 := 0 }

/-- The state with profiles written. -/
def withProfiles (l : List (Fin 16 × Profile)) (s : State) : State :=
  { s with plan := { s.plan with profiles := l.foldl (fun t e => t.write e.1 e.2) s.plan.profiles } }

/-- The state with zone settings written. -/
def withZones (l : List (Fin 16 × ZonePlan)) (s : State) : State :=
  { s with plan := { s.plan with zones := l.foldl (fun t e => t.write e.1 e.2) s.plan.zones } }

/-- The state with slots written. -/
def withSlots (l : List (Fin 384 × Slot)) (s : State) : State :=
  { s with slots := l.foldl (fun t e => t.write e.1 e.2) s.slots }

/-- The state with station records written. -/
def withStations (l : List (Fin 48 × Station)) (s : State) : State :=
  { s with stations := l.foldl (fun t e => t.write e.1 (some e.2)) s.stations }

/-- The state in RUN. -/
def running (s : State) : State := { s with console := { s.console with mode := .run } }

/-- An ACTIVE record without a move, a label or a mark. -/
def owned (station : Fin 48) (channel : Fin 64) (frequency : Nat) (profile zone : Fin 16) (phase : Phase) : Owned :=
  { state := .active, frequency := frequency, move := none, profile := profile, zone := zone, station := station,
    channel := channel, phase := phase, label := [], suspect := none, conflict := false }

/-- A CURRENT station with empty queues. -/
def rack (branch : Fin 4) (address : Nat) (zone : Fin 16) (held : Nat) : Station :=
  { branch := branch, address := address, zone := zone, ceiling := 16, authority := false, link := .present,
    failures := 0, leaseState := .current, lease := { count := 5, owed := 0 }, held := held, openRequest := false,
    answers := [], notices := [], resync := false, resyncCarried := false, validReplies := 0 }

/-- A search that walks from e0, or has found a candidate. -/
def search (e0 : Word) (moved : Bool) (research : Nat) (walk : Walk) (stage : Stage) : SearchContext :=
  { e0 := e0, moved := moved, research := research, walk := walk, stage := stage }

/-- A walk over one index. -/
def oneIndex (f : Nat) : Walk := { lowest := f, step := 1, count := 1, start := none, cursor := 0 }

/-! ## Section 1.9: building and tightening a plan -/

/-- The list after step 4 of section 1.9. -/
def twoBands : State :=
  { State.reset with
    epoch := 2
    plan := { State.reset.plan with exclusions := [{ lo := 800, hi := 900 }, { lo := 1200, hi := 1260 }] } }

theorem test_profile_clamped :
    (after (.writeProfile 5 1 100 2000 4 50 25 3) State.reset).plan.profiles.read 5 =
      { defined := true, low := 100, high := 2000, step := 4, c := 40, p3 := 20, p5 := 3 } := by decide +kernel
theorem test_band_place :
    (after (.addExclusion 800 850) twoBands).plan.exclusions =
        [{ lo := 800, hi := 850 }, { lo := 800, hi := 900 }, { lo := 1200, hi := 1260 }] ∧
      (after (.addExclusion 800 850) twoBands).epoch = 3 := by decide +kernel
theorem test_band_duplicate :
    (after (.addExclusion 800 900) twoBands).console.response = [6] ∧
      (after (.addExclusion 800 900) twoBands).epoch = 2 := by decide +kernel
theorem test_band_removed :
    (after (.removeExclusion 800 900) twoBands).plan.exclusions = [{ lo := 1200, hi := 1260 }] ∧
      (after (.removeExclusion 800 900) twoBands).epoch = 2 := by decide +kernel
theorem test_coupling_both_halves :
    ((after (.writeCoupling 3 4 1) State.reset).plan.coupling.read 4).read 3 = .near ∧
      (after (.writeCoupling 4 3 0) (after (.writeCoupling 3 4 1) State.reset)).epoch = 1 := by decide +kernel
theorem test_zone_advances_once :
    (after (.writeZone 3 400 2400 2 2 90) (withProfiles [(2, profile2)] State.reset)).epoch = 1 ∧
      (after (.writeZone 3 400 2400 2 7 90) (withProfiles [(2, profile2)] State.reset)).console.response = [3] := by
  decide +kernel
theorem test_profile_in_use :
    (after (.writeProfileUndefined 2 0 0 0 0 0 0)
      (after (.writeZone 3 400 2400 2 2 90) (withProfiles [(2, profile2)] State.reset))).console.response = [2] := by
  decide +kernel
theorem test_guard_raised : (after (.writeGuards 6 8) twoBands).epoch = 3 ∧ (after (.writeGuards 4 8) twoBands).epoch = 2 := by
  decide +kernel

/-! ## Sections 3.3 to 3.8: walks, evaluations and tune words -/

/-- The zone of section 3.7: slots 0, 1 and 2 of profile 2 in zone 3 at 400, 424 and 460. -/
def crowded : State :=
  withSlots [(0, .owned (owned 0 0 400 2 3 .live)), (1, .owned (owned 0 1 424 2 3 .live)),
    (2, .owned (owned 0 2 460 2 3 .live))] (withProfiles [(2, profile2)] State.reset)

theorem test_crowded_zone :
    [442, 441, 443, 440, 444, 439, 445, 438].map (evaluate crowded 2 3 none) =
      [some (.t5 1 0), some (.t5 1 0), some (.t5 1 0), some (.t6 1 2), some (.t5 1 0), some (.t6 1 2), some (.t5 1 0),
        none] := by decide +kernel

/-- Two slots at 3 and 15 (the example of products off the grid). -/
def lowPair : State :=
  withSlots [(0, .owned (owned 0 0 3 2 3 .live)), (1, .owned (owned 0 1 15 2 3 .live))]
    (withProfiles [(2, profile2)] State.reset)

theorem test_products_off_the_grid :
    evaluate lowPair 2 3 none 0 = some (.t4 0) ∧ evaluate lowPair 2 3 none 27 = some (.t5 1 0) := by decide +kernel

/-- Profile 101..9119 with step 4 in a zone with window 200..300 (the example of clamping and snapping). -/
def snapping : State :=
  withProfiles [(0, { profile2 with low := 101, step := 4 })]
    (withZones [(0, { ZonePlan.reset with zlo := 200, zhi := 300 })] State.reset)

/-- The first candidates of a walk. -/
def firstOf (n : Nat) (w : Walk) : List Nat := (List.range n).map w.candidate

theorem test_hint_orders :
    firstOf 7 (formWalk snapping 0 0 (some 243)) = [241, 237, 245, 233, 249, 229, 253] ∧
      firstOf 5 (formWalk snapping 0 0 (some 150)) = [201, 205, 209, 213, 217] ∧
      firstOf 5 (formWalk snapping 0 0 (some 40000)) = [297, 293, 289, 285, 281] ∧
      (formWalk snapping 0 0 (some 243)).count = 25 := by decide +kernel
theorem test_hint_tail :
    ((List.range 25).map (formWalk snapping 0 0 (some 243)).candidate).drop 19 = [201, 281, 285, 289, 293, 297] := by
  decide +kernel
theorem test_tune_words :
    (after .sweepStart (after (.writeSweep 438 438 1 20 64 6 2 3 2 50 37600 2) State.reset)).sweep.activity =
        some (.tuning 38476) ∧
      (after .sweepStart (after (.writeSweep 29 29 1 20 64 6 2 3 2 50 16770000 255) State.reset)).sweep.activity =
        some (.tuning 16777215) := by decide +kernel
/-- The word 38476 (0x00964C) is clocked out with its most significant bit first: the nine bits from the ninth are 100101100,
and the lines rest once the latch pulse is over and after a stop. -/
theorem test_tune_lines :
    let s := after .sweepStart (after (.writeSweep 438 438 1 20 64 6 2 3 2 50 37600 2) State.reset)
    (List.range 9).map (fun k => (tuneLines (2 * (8 + k) + 1) s).data) =
        [true, false, false, true, false, true, true, false, false] ∧
      (tuneLines 49 s).latch = true ∧ tuneLines 50 s = tuneRest ∧ tuneLines 17 (after .sweepStop s) = tuneRest := by
  decide +kernel
/-- Both ends of R194 with references out of order: above both is 255, below both is 0. -/
theorem test_converter_ends (free : Byte) : converterLevel free 9 7 5 = 255 ∧ converterLevel free 3 7 5 = 0 := by
  constructor <;> rfl

/-! ## Sections 2.12 and 5.11: records and moves -/

/-- Zone 3 before event 6 of section 2.12: station 4's slot 1 at 438 and the spare of slot 2 at 300. -/
def beforeMove : State :=
  running (withStations [(4, rack 0 1 3 1)]
    (withSlots [(1, .owned (owned 4 2 438 2 3 .live)),
        (2, .spare { frequency := 300, profile := 2, zone := 3, conflict := false })]
      { withProfiles [(2, profile2)] (withZones [(3, { ZonePlan.reset with zlo := 300, zhi := 2400 })] State.reset) with
        epoch := 10
        zones := State.reset.zones.write 3 { clearing := none, spares := [2] } }))

theorem test_pin_lowest_free :
    (after (.pin 1000 2 3 0 [80]) beforeMove).slots.read 0 =
        .pinned { frequency := 1000, profile := 2, zone := 3, label := [80], suspect := none, conflict := false } ∧
      (after (.pin 1000 2 3 0 [80]) beforeMove).epoch = 11 := by decide +kernel
theorem test_move_takes_the_spare :
    (routeFrame 4 (.move 2) beforeMove).slots.read 1 =
        .owned { owned 4 2 438 2 3 .live with move := some { pending := 300, counter := { count := 60, owed := 0 } } } ∧
      (routeFrame 4 (.move 2) beforeMove).slots.read 2 = .free ∧
      (routeFrame 4 (.move 2) beforeMove).epoch = 10 := by decide +kernel
theorem test_confirm_moves :
    (routeFrame 4 (.confirm 2) (routeFrame 4 (.move 2) beforeMove)).slots.read 1 = .owned (owned 4 2 300 2 3 .live) := by
  decide +kernel
theorem test_retire_answers :
    (after (.retire 1) beforeMove).console.response = [0, 1, 0x01, 0xB6, 4, 2] ∧
      (after (.retire 0) beforeMove).console.response = [7] := by decide +kernel
theorem test_read_entries_stop :
    (after (.readEntries 380 16) beforeMove).console.response = [0, 4, 0, 0, 0, 0] := by decide +kernel

/-! ## Section 4.10: a search interrupted by a PIN -/

/-- Event 11 taken: 438 found, the mark set, the pin of slot 3 at 480. -/
def interrupted : State :=
  let s := running (withSlots [(3, .pinned { frequency := 480, profile := 2, zone := 3, label := [], suspect := none, conflict := false })]
    (withStations [(6, { rack 0 1 3 0 with openRequest := true })] crowded))
  { s with
    epoch := 21
    engine :=
      { s.engine with
        foreground := some (.request
          { station := 6, channel := 5, profile := 2, phase := .live, hint := some 442, label := [] }
          (search 20 true 0 { formWalk s 2 3 (some 442) with cursor := 8 } (.found 438))) } }

/-- Event 147 before its completion: 508 found at epoch 21 with the count at 1. -/
def refound : State :=
  { interrupted with
    engine :=
      { interrupted.engine with
        foreground := some (.request
          { station := 6, channel := 5, profile := 2, phase := .live, hint := some 442, label := [] }
          (search 21 false 1 { formWalk interrupted 2 3 (some 442) with cursor := 133 } (.found 508))) } }

/-- The stage and the re-search count of the foreground search. -/
def foregroundPoint (s : State) : Option (Stage × Nat × Nat) :=
  s.engine.foreground.bind fun f =>
    match f with
    | .request _ c => some (c.stage, c.research, c.walk.cursor)
    | .move _ c => some (c.stage, c.research, c.walk.cursor)
    | .pin _ c => some (c.stage, c.research, c.walk.cursor)
    | .audit _ _ => none

theorem test_completion_orders_retest :
    foregroundPoint (after .searchCompletion interrupted) = some (.retestDue 438, 0, 8) := by decide +kernel
theorem test_retest_begins_research :
    foregroundPoint (after .reTest (after .searchCompletion interrupted)) = some (.walking, 1, 0) := by decide +kernel
theorem test_research_places_508 :
    (formWalk interrupted 2 3 (some 442)).candidate 132 = 508 ∧ evaluate interrupted 2 3 none 508 = none := by
  decide +kernel
theorem test_completion_records :
    (after .searchCompletion refound).slots.read 4 = .owned (owned 6 5 508 2 3 .live) ∧
      (after .searchCompletion refound).epoch = 22 := by decide +kernel

/-! ## Section 4.9: arbitration and DEFER -/

/-- After event 3 of section 4.9, thresholds 4 and 2, the engine busy. -/
def beforeAudit : State :=
  let request := fun r : Fin 48 =>
    Work.request { station := r, channel := 0, profile := 2, phase := .live, hint := none, label := [] }
  { running crowded with
    engine :=
      { Engine.reset with
        upper := 4, lower := 2
        queue := [.move { station := 4, channel := 0, slot := 0, profile := 2, zone := 3 }, request 2, request 3]
        foreground := some (.request
          { station := 1, channel := 0, profile := 2, phase := .live, hint := none, label := [] }
          (search 0 false 0 (oneIndex 0) .walking)) } }

theorem test_audit_joins_first :
    (after .audit beforeAudit).engine.queue = .audit :: beforeAudit.engine.queue ∧
      (after .audit beforeAudit).engine.defer = true ∧ (after .audit beforeAudit).console.flags = 0x80 := by
  decide +kernel
theorem test_check_busy : (after (.check 0 2 3) (after .audit beforeAudit)).console.response = [1] := by decide +kernel

/-! ## Section 5.10: a lapse and a return -/

/-- Before tick 5 is taken: the lease counter of station 6 at 1, H at 8. -/
def lastTick : State :=
  let s := withSlots [(4, .owned (owned 6 5 508 2 3 .live)), (7, .owned (owned 6 9 612 2 3 .next))] State.reset
  running (withStations
    [(6, { rack 1 4 3 2 with
      lease := { count := 1, owed := 1 }
      notices := [{ notice := .retired 11 .operator, carried := false }] })]
    { s with
      timing := { s.timing with lease := 5, hold := 8 }
      branches := s.branches.change 1 fun b => { b with state := .running } })

theorem test_lapse :
    (after (.leaseCounterDecrement 6) lastTick).slots.read 4 =
        .owned { owned 6 5 508 2 3 .live with state := .stale (some { count := 8, owed := 0 }) } ∧
      (after (.leaseCounterDecrement 6) lastTick).console.flags = 0x40 ∧
      ((after (.leaseCounterDecrement 6) lastTick).stations.read 6).any (fun st =>
        decide (st.leaseState = .lapsed ∧ st.lease.count = 0 ∧ st.notices = [] ∧ st.resync = true)) = true := by
  decide +kernel

/-- A LAPSED station whose reply has just been accepted. -/
def returning : State :=
  let s := after (.leaseCounterDecrement 6) lastTick
  { s with stations := s.stations.change 6 (Option.map fun st => { st with validReplies := 1 }) }

theorem test_return :
    (after (.validReplyNotice 6) returning).slots.read 7 = .owned (owned 6 9 612 2 3 .next) ∧
      ((after (.validReplyNotice 6) returning).stations.read 6).map Station.lease = some { count := 5, owed := 0 } := by
  decide +kernel
theorem test_status_before_the_return :
    ((routeFrame 6 (.query 5) returning).stations.read 6).map Station.answers =
      some [.status 5 508 .live true none false] := by decide +kernel
theorem test_hold_expiry :
    (after (.holdExpiry 4) (withSlots
      [(4, .owned { owned 6 5 508 2 3 .live with state := .stale (some { count := 1, owed := 1 }) })] returning)).slots.read 4 =
      .free := by decide +kernel

/-! ## Sections 6.6 and 6.7: changeovers and spare lists -/

/-- Zone 2 before the forced changeover: timer at 12, slots 20 and 21 ENDING. -/
def secondAct : State :=
  let s := withSlots
    [(20, .owned (owned 10 0 3000 6 2 .ending)), (21, .owned (owned 10 1 3020 6 2 .ending)),
      (22, .owned (owned 10 3 3140 6 2 .next)), (23, .owned (owned 10 2 3060 6 2 .live)),
      (24, .owned (owned 11 1 3080 6 2 .live)), (27, .owned (owned 11 2 3160 6 2 .next))] State.reset
  running (withStations [(10, rack 0 1 2 4), (11, rack 0 2 2 2)]
    (withZones [(2, { ZonePlan.reset with zlo := 3000, zhi := 3400, clearTime := 30 })]
      { s with zones := s.zones.write 2 { clearing := some { count := 12, owed := 0 }, spares := [] } }))

theorem test_changeover_busy : (after (.changeover 2 0) secondAct).console.response = [1] := by decide +kernel
theorem test_changeover_forced :
    (after (.changeover 2 1) secondAct).console.response = [0, 0, 2, 0, 2, 0, 2, 0, 0, 1, 0, 30] ∧
      ((after (.changeover 2 1) secondAct).stations.read 10).map (fun st => st.notices.map QueuedNotice.notice) =
        some [.retired 0 .forced, .retired 1 .forced, .phaseChanged 2] := by decide +kernel
theorem test_clearing_runs_out :
    let s := { secondAct with zones := secondAct.zones.write 2 { clearing := some { count := 1, owed := 1 }, spares := [] } }
    ((after (.clearTimerDecrement 2) s).stations.read 10).map Station.held = some 2 ∧
      ((after (.clearTimerDecrement 2) s).zones.read 2).clearing = none ∧
      (after (.clearTimerDecrement 2) s).slots.read 20 = .free := by decide +kernel
theorem test_depth_change :
    let spare := fun f => Slot.spare { frequency := f, profile := 3, zone := 7, conflict := false }
    let s := withSlots [(40, spare 10), (44, spare 40), (45, spare 70)]
      (withProfiles [(3, profile2)] (withZones [(7, { ZonePlan.reset with depth := 3, spareProfile := 3 })]
        { State.reset with zones := State.reset.zones.write 7 { clearing := none, spares := [40, 44, 45] } }))
    ((after (.writeZone 7 0 9119 1 3 120) s).zones.read 7).spares = [40] ∧
      (after (.writeZone 7 0 9119 1 3 120) s).slots.read 44 = .free := by decide +kernel

/-! ## Section 7.8: a carrier confirmed at K = 2 -/

/-- Pass 2 at point 1520: the entry TENTATIVE with one hit, slots 3, 5 and 6 as the section has them. -/
def secondPass : State :=
  let s := withSlots
    [(3, .owned (owned 2 4 1514 3 1 .live)), (5, .spare { frequency := 1526, profile := 3, zone := 1, conflict := false }),
      (6, .pinned { frequency := 1540, profile := 3, zone := 1, label := [], suspect := none, conflict := false })]
    State.reset
  running (withStations [(2, rack 0 1 1 1)]
    (withProfiles [(3, { profile2 with c := 10, p3 := 0 })]
      (withZones [(1, { ZonePlan.reset with zlo := 1500, zhi := 1600, depth := 1, spareProfile := 3 })]
        { s with
          epoch := 57
          zones := s.zones.write 1 { clearing := none, spares := [5] }
          sweep :=
            { s.sweep with
              activity := some .converting, cursor := 1520
              config := { s.sweep.config with lo := 1500, hi := 1560 }
              foreign := [{ index := 1520, confirmed := false, peak := 92, hits := 1, misses := 0 },
                { index := 1548, confirmed := false, peak := 70, hits := 1, misses := 0 }] } })))

theorem test_confirmation :
    (after (.conversionComplete 61 0 255) secondPass).sweep.foreign =
        [{ index := 1520, confirmed := true, peak := 92, hits := 2, misses := 0 },
          { index := 1548, confirmed := false, peak := 70, hits := 1, misses := 0 }] ∧
      (after (.conversionComplete 61 0 255) secondPass).epoch = 58 ∧
      (after (.conversionComplete 61 0 255) secondPass).console.flags = 0x04 := by decide +kernel
theorem test_confirmation_reaches :
    (after (.conversionComplete 61 0 255) secondPass).slots.read 3 =
        .owned { owned 2 4 1514 3 1 .live with suspect := some 1520 } ∧
      (after (.conversionComplete 61 0 255) secondPass).slots.read 5 = .free ∧
      (after (.conversionComplete 61 0 255) secondPass).slots.read 6 = secondPass.slots.read 6 := by decide +kernel
theorem test_refill_after_the_confirmation :
    ((after (.conversionComplete 61 0 255) secondPass).engine.background.map fun b => (b.zone, b.context.walk.lowest)) =
      some (1, 1500) := by decide +kernel

/-! ## Sections 8.9 and 8.10: queues across polls -/

/-- Station 9 listening at poll 4 of section 8.9, all but the check byte received: CONFIRM(1). -/
def poll4 : State :=
  let s := withSlots
    [(30, .owned { owned 9 1 5460 6 2 .live with
      move := some { pending := 5500, counter := { count := 50, owed := 0 } }, suspect := some 5496 })] State.reset
  running (withStations
    [(9, { rack 0 7 2 1 with
      failures := 1
      answers := [.status 1 5460 .live false (some 5500) false, .granted 3 5520 false]
      notices := [{ notice := .moveAdvised 1 5496, carried := false }] })]
    { s with
      sweep := { s.sweep with foreign := [{ index := 5496, confirmed := true, peak := 90, hits := 2, misses := 0 }] }
      branches := s.branches.change 0 fun b =>
        { b with
          state := .running
          activity := .listening
            { station := 9, address := 7, item := .answer (.status 1 5460 .live false (some 5500) false),
              stationGone := false }
            [0x87, 1, 69, 1] false } })

/-- A data value of a frame heard without its mark bit: the stop bit stands at mark, above the data. -/
def heard (d : Byte) : RxChar := { bits := 512 + d.setWidth 10 }

/-- The bits of 0x32 after the start bit, in the order of the line: 0100 1100, the mark bit 0, the stop bit 1. -/
theorem test_character_bits :
    charLevels (heard 0x32).bits =
        [.space, .space, .mark, .space, .space, .mark, .mark, .space, .space, .space, .mark] ∧
      (heard 0x32).data = 0x32 ∧ (heard 0x32).mark = false ∧ (heard 0x32).garbled = false ∧
      (RxChar.mk 0x087).garbled = true ∧ (RxChar.mk 0x387).mark = true := by decide +kernel
theorem test_reply_accepted :
    ((after (.replyAccepted 0 (heard 0x32)) poll4).stations.read 9).map
        (fun st => (st.answers, st.notices.map QueuedNotice.notice, st.failures)) =
      some ([.granted 3 5520 false, .confirmed 1 5500], [.moveAdvised 1 5496], 0) := by decide +kernel
theorem test_reply_with_a_wrong_sum :
    ((after (.replyFailed 0 (heard 0x33)) poll4).stations.read 9).map
        (fun st => (st.answers.length, st.failures)) = some (2, 2) ∧
      ((after (.replyFailed 0 (heard 0x33)) poll4).branches.read 0).activity = .quiet 7 := by
  decide +kernel
theorem test_poll_frame :
    ((after (.poll 0)
      { poll4 with
        branches := poll4.branches.change 0 fun b => { b with activity := .inRound 0 } }).branches.read 0).txFrame.map
        (fun c => (c.data, c.mark)) =
      (7, true) :: ([10, 64, 0, 5, 1, 0x15, 0x54, 1, 1, 0x15, 0x7C, 0, 0xAD] : List Byte).map (·, false) := by
  decide +kernel
theorem test_notice_overflow :
    let notice := fun c : Fin 64 => ({ notice := .moveLapsed c, carried := false } : QueuedNotice)
    let s := withStations [(12, { rack 2 3 5 0 with notices := [0, 1, 2, 3, 4, 5, 6, 7].map notice })] State.reset
    ((giveNotice 12 (.moveLapsed 4) s).stations.read 12).map (fun st => (st.notices.length, st.resync)) = some (8, false) ∧
      ((giveNotice 12 (.phaseChanged 5) s).stations.read 12).map (fun st => (st.notices.length, st.resync)) =
        some (0, true) := by decide +kernel

/-! ## Section 9.7: attention across an audit and a stop -/

/-- The last visit of the audit is due, with 2 slots flagged. -/
def lastVisit : State :=
  { running State.reset with
    engine := { Engine.reset with foreground := some (.audit 383 2) }
    console :=
      { Console.reset with
        mode := .run, openRequest := true, flags := 0x04, mask := 0x9C
        result := { number := 41, entry := some (.check, .pass) } } }

theorem test_audit_ends :
    (after .auditVisit lastVisit).console.result = { number := 42, entry := some (.audit, .count 2) } ∧
      (after .auditVisit lastVisit).console.flags = 0x07 ∧ attnLow (after .auditVisit lastVisit) = true ∧
      attnLow lastVisit = false := by decide +kernel
theorem test_read_attention :
    (after .readAttention (after .auditVisit lastVisit)).console.response = [0, 0x07, 0x9C] ∧
      (after .readAttention (after .auditVisit lastVisit)).console.flags = 0 := by decide +kernel
theorem test_stop_abandons_the_check :
    let s := { lastVisit with engine := { Engine.reset with queue := [.check { index := 0, profile := 0, zone := 0 }] } }
    (after .stop s).console.result = { number := 42, entry := some (.check, .abandoned) } ∧
      (after .stop s).console.openRequest = false ∧ (after .stop s).console.mode = .config := by decide +kernel

/-! ## States that meet the hypotheses of the statements -/

/-- The two owned slots of the site: channel 1 LIVE at 400, channel 3 ENDING at 700. -/
def live0 : Owned := owned 0 1 400 0 0 .live
def ending3 : Owned := owned 0 3 700 0 0 .ending

/-- The site's station, with or without a request open. -/
def rackWith (request : Bool) : Station := { rack 0 1 0 2 with openRequest := request }

/-- The slots of the site: a LIVE and an ENDING one of its station, a spare of zone 0 and a pin. -/
def siteSlots : Table Slot 384 :=
  (withSlots
    [(0, .owned live0), (1, .spare { frequency := 500, profile := 0, zone := 0, conflict := false }),
      (2, .pinned { frequency := 600, profile := 0, zone := 0, label := [65], suspect := none, conflict := false }),
      (3, .owned ending3)] State.reset).slots

/-- A small site in RUN at epoch 3 with a CONFIRMED carrier at 2000, zone 0 CLEARING, wanting a second spare and barred: by the
work of the engine and the open-request flags of the rack and the console. -/
def siteWith (f : Option Foreground) (b : Option Refill) (request host : Bool) : State :=
  { State.reset with
    plan :=
      (withProfiles [(0, profile2)] (withZones [(0, { ZonePlan.reset with depth := 2 })] State.reset)).plan
    slots := siteSlots
    epoch := 3
    engine := { Engine.reset with foreground := f, background := b, barred := Engine.reset.barred.write 0 true }
    zones := State.reset.zones.write 0 { clearing := some { count := 5, owed := 0 }, spares := [1] }
    stations := State.reset.stations.write 0 (some (rackWith request))
    branches := State.reset.branches.change 0 fun b => { b with state := .running, activity := .inRound 0 }
    sweep := { Sweep.reset with foreign := [{ index := 2000, confirmed := true, peak := 90, hits := 2, misses := 0 }] }
    console := { Console.reset with mode := .run, openRequest := host }
    pending := [.tick] }

/-- A context whose walk has found 433 at epoch 3. -/
def found433 : SearchContext :=
  search 3 false 0 { lowest := 433, step := 1, count := 2, start := none, cursor := 1 } (.found 433)

/-- The request, the move and the pin of the site. -/
def want : RequestWork := { station := 0, channel := 2, profile := 0, phase := .live, hint := none, label := [] }
def wantMove : MoveWork := { station := 0, channel := 1, slot := 0, profile := 0, zone := 0 }
def wantPin : PinWork := { index := 433, profile := 0, zone := 0, label := [] }

/-- The site searching for a request, for a move, for a pin, for a spare, and with the engine free. -/
def site : State := siteWith (some (.request want found433)) none true false
def movingSite : State := siteWith (some (.move wantMove found433)) none true false
def pinningSite : State := siteWith (some (.pin wantPin found433)) none false true
def refillingSite : State := siteWith none (some { zone := 0, context := found433 }) false false
def idleSite : State := siteWith none none false false

theorem siteSlots_read (i : Fin 384) : siteSlots.read i =
    if i = 0 then .owned live0
    else if i = 1 then .spare { frequency := 500, profile := 0, zone := 0, conflict := false }
    else if i = 2 then .pinned { frequency := 600, profile := 0, zone := 0, label := [65], suspect := none, conflict := false }
    else if i = 3 then .owned ending3 else .free := by
  revert i; decide +kernel

theorem site_slots (f b r h) (i : Fin 384) : (siteWith f b r h).slots.read i =
    if i = 0 then .owned live0
    else if i = 1 then .spare { frequency := 500, profile := 0, zone := 0, conflict := false }
    else if i = 2 then .pinned { frequency := 600, profile := 0, zone := 0, label := [65], suspect := none, conflict := false }
    else if i = 3 then .owned ending3 else .free := siteSlots_read i

theorem site_station {f b q h} {r : Fin 48} {st : Station} (e : (siteWith f b q h).stations.read r = some st) :
    r = 0 ∧ st = rackWith q := by
  have : (siteWith f b q h).stations.read r = if 0 = r then some (rackWith q) else State.reset.stations.read r :=
    Table.read_write _ _ _ _
  rw [this] at e
  split at e
  · exact ⟨(‹0 = r›).symm, (Option.some.inj e).symm⟩
  · simp [State.reset] at e

theorem site_absent {f b q h} {r : Fin 48} (e : (siteWith f b q h).stations.read r = none) : r ≠ 0 := by
  rintro rfl
  have : (siteWith f b q h).stations.read 0 = some (rackWith q) := Table.read_write_self _ _ _
  rw [this] at e
  cases e

theorem site_branch (b : Fin 4) : (idleSite.branches.read b).activity.polled? = none ∧
    (idleSite.branches.read b).activity.carries? = none := by
  revert b; decide +kernel

theorem site_plan : PlanSound idleSite.plan where
  profiles := by unfold Profile.inRange; decide +kernel
  zones := by unfold ZonePlan.inRange; decide +kernel
  spares := by decide +kernel
  symmetric := by decide +kernel
  diagonal := by decide +kernel
  bands := by intro b h; cases h
  order := List.Pairwise.nil
  guards := by decide

/-- Open requests are as they should be when the flags agree with the work. -/
theorem site_open {f b r h} (hs : ∀ q, stationWork (siteWith f b r h).engine q = if q = 0 ∧ r = true then 1 else 0)
    (hh : hostWork (siteWith f b r h).engine = if h then 1 else 0) : OpenSound (siteWith f b r h) where
  present q st e := by
    rw [hs, (site_station e).1, (site_station e).2]
    cases r <;> rfl
  absent q e := by
    rw [hs]
    simp [site_absent e]
  host := hh
  polled q x e := by
    have := (site_branch q).1
    exact absurd (e.symm.trans this) (by simp)

/-- Owners are as they should be while no request is open for channels 1 and 3 of the rack. -/
theorem site_owners {f b r h} (ho : OpenSound (siteWith f b r h))
    (hf : ∀ q ch, requestOpenFor (siteWith f b r h).engine q ch → q = 0 ∧ ch = 2) : OwnersSound (siteWith f b r h) where
  requests := ho
  held q st e := by
    rw [(site_station e).1, (site_station e).2]
    change 2 = siteSlots.countWith _
    decide +kernel
  absent q i e := by
    have hr := site_absent e
    rw [site_slots]
    split_ifs <;> simp [Slot.ownedByStation, live0, ending3, owned]
    all_goals exact fun h => hr h.symm
  unique q ch i j hi hj := by
    rw [site_slots] at hi hj
    split_ifs at hi hj <;> simp_all [Slot.ownedBy, live0, ending3, owned] <;>
      exact absurd (hi.2.trans hj.symm) (by decide)
  fresh q ch i e := by
    rw [(hf q ch e).1, (hf q ch e).2, site_slots]
    split_ifs <;> decide

/-- The spare list of zone 0 is as it should be; a refill under way is zone 0's. -/
theorem site_spares {f b r h} (hb : ∀ x, b = some x → x.zone = 0) : SparesSound (siteWith f b r h) where
  members z i := by
    rw [site_slots]
    by_cases hz : z = 0
    · subst hz
      have : ((siteWith f b r h).zones.read 0).spares = [1] := by
        change (idleSite.zones.read 0).spares = [1]
        decide +kernel
      rw [this]
      split_ifs <;> simp_all [Slot.spareIn]
    · have key : ∀ z : Fin 16, z ≠ 0 → (idleSite.zones.read z).spares = [] := by decide +kernel
      have : ((siteWith f b r h).zones.read z).spares = [] := key z hz
      rw [this]
      split_ifs <;> simp [Slot.spareIn]
      exact fun h => hz h.symm
  once := by
    change ∀ z, (idleSite.zones.read z).spares.Nodup
    decide +kernel
  depth := by
    change ∀ z, (idleSite.zones.read z).spares.length ≤ (idleSite.plan.zones.read z).depth
    decide +kernel
  profile i x e := by
    rw [site_slots] at e
    split_ifs at e <;> simp at e
    subst e
    change 0 = (idleSite.plan.zones.read 0).spareProfile
    decide +kernel
  refill x e := by
    rw [hb x e]
    change wantsSpare idleSite 0 = true
    decide +kernel

theorem site_noRequest {f : Option Foreground} {b r h} (hf : ∀ w c, f ≠ some (.request w c)) {q ch} :
    ¬requestOpenFor (siteWith f b r h).engine q ch := by
  rintro (⟨w, e, _⟩ | ⟨w, c, e, _⟩)
  · cases e
  · exact hf w c e

theorem site_openSound : OpenSound site := site_open (by decide) (by decide)
theorem movingSite_openSound : OpenSound movingSite := site_open (by decide) (by decide)
theorem pinningSite_openSound : OpenSound pinningSite := site_open (by decide) (by decide)
theorem refillingSite_openSound : OpenSound refillingSite := site_open (by decide) (by decide)

theorem site_ownersSound : OwnersSound site := by
  refine site_owners site_openSound ?_
  rintro q ch (⟨w, e, _⟩ | ⟨w, c, e, hq, hc⟩)
  · cases e
  · cases e
    exact ⟨hq.symm, hc.symm⟩

/-- Every step of the site answers a next state. -/
theorem site_steps : ∃ t, step site = .next t := ⟨_, rfl⟩
theorem idleSite_steps : ∃ t, step idleSite = .next t := ⟨_, rfl⟩

theorem witness_tablesStayWithinTheirLimits : Limits site ∧ ∃ t, step site = .next t := by
  refine ⟨?_, site_steps⟩
  exact
    { queue := by decide
      classes := List.Pairwise.nil
      bands := by decide
      foreign := by decide
      notices := fun _ _ h => by rw [(site_station h).2]; decide
      keys := fun _ _ h => by rw [(site_station h).2]; exact List.Pairwise.nil
      failures := fun _ _ h => by rw [(site_station h).2]; decide
      addresses := fun _ _ _ _ h h' _ _ => by rw [(site_station h).1, (site_station h').1] }

theorem site_settings : SettingsSound site where
  lease := by decide
  hold := by decide
  moveTime := by decide
  thresholds := by decide
  deferOn := by decide
  deferOff := by decide
  stations _ _ h := by rw [(site_station h).2]; decide
  sweep := by unfold SweepConfig.inRange; decide
  branches := by unfold Branch.inRange; decide +kernel

theorem witness_planAndSettingsStaySound : PlanSound site.plan ∧ SettingsSound site ∧ ∃ t, step site = .next t :=
  ⟨site_plan, site_settings, site_steps⟩

theorem witness_zonesClearWhileSlotsEnd : ClearingSound site ∧ ∃ t, step site = .next t := by
  refine ⟨⟨?_, ?_, ?_⟩, site_steps⟩
  · intro z
    constructor
    · intro h
      have key : ∀ z : Fin 16, (site.zones.read z).clearing.isSome = true → z = 0 := by decide +kernel
      rw [key z h]
      exact ⟨3, by decide +kernel⟩
    · rintro ⟨i, h⟩
      unfold site at h
      rw [site_slots] at h
      split_ifs at h <;> simp [Slot.endingIn, live0, ending3, owned] at h
      subst h
      decide +kernel
  · intro w h
    cases h
  · intro f h
    cases h
    simp [Foreground.phaseSound, want]

/-- The site with a pin in slot 4 that the CONFIRMED carrier marks. -/
def markedSite : State :=
  withSlots
    [(4, .pinned
      { frequency := 2004, profile := 0, zone := 0, label := [], suspect := some 2000, conflict := false })] site

theorem witness_suspectSourcesStayConfirmed :
    SuspectSound markedSite ∧ ∃ t, step markedSite = .next t := by
  refine ⟨⟨by decide, ?_⟩, ⟨_, rfl⟩⟩
  intro i x h
  by_cases hi : i = 4
  · subst hi
    have : x = 2000 := by
      have key : (markedSite.slots.read 4).suspect? = some 2000 := by
        decide +kernel
      rw [key] at h
      exact (Option.some.inj h).symm
    subst this
    exact ⟨_, List.mem_singleton.mpr rfl, rfl, rfl⟩
  · have : markedSite.slots.read i = site.slots.read i :=
      Table.read_write_of_ne _ (fun h => hi h.symm) _
    rw [this] at h
    unfold site at h
    rw [site_slots] at h
    split_ifs at h <;> simp [Slot.suspect?, live0, ending3, owned] at h

theorem witness_spareListsHoldTheSpareSlots : SparesSound refillingSite ∧ ∃ t, step refillingSite = .next t :=
  ⟨site_spares (by rintro x h; cases h; rfl), ⟨_, rfl⟩⟩

theorem witness_ownersHoldOneSlotEach : OwnersSound site ∧ ∃ t, step site = .next t := ⟨site_ownersSound, site_steps⟩

theorem site_modeSound : ModeSound site := by
  refine ⟨?_, ?_, ?_⟩
  · have key : ∀ b : Fin 4, (site.branches.read b).activity = if b = 0 then .inRound 0 else .idle := by decide +kernel
    have off : ∀ b : Fin 4, (site.branches.read b).spaceRun = false ∧ (site.branches.read b).markRun = false ∧
        (site.branches.read b).state ≠ .faulted := by decide +kernel
    intro b
    refine ⟨by revert b; decide +kernel, ?_, ?_, ?_, ?_, ?_⟩
    · intro p h
      rw [key] at h
      split at h <;> cases h
    · intro p rx seen h
      rw [key] at h
      split at h <;> cases h
    · intro h
      rw [(off b).1] at h
      cases h
    · intro h
      rw [(off b).2.1] at h
      cases h
    · intro h
      exact absurd h (off b).2.2
  · intro _
    rfl
  · intro h
    cases h

theorem witness_answerQueuesKeepRoom : AnswersSound site ∧ ∃ t, step site = .next t := by
  refine ⟨⟨site_openSound, site_modeSound, ?_, ?_, ?_⟩, site_steps⟩
  · intro r st h
    rw [(site_station h).1, (site_station h).2]
    decide +kernel
  · intro b r st h
    exact absurd (h.symm.trans (site_branch b).1) (by simp)
  · intro b r st i h
    exact absurd (h.symm.trans (site_branch b).1) (by simp)

theorem witness_slotsAreActiveWhileLeasesAreCurrent : LeaseSound site ∧ ∃ t, step site = .next t := by
  refine ⟨⟨site_ownersSound, ?_, ?_⟩, site_steps⟩
  · intro i o st h hst
    rw [(site_station hst).2]
    unfold site at h
    rw [site_slots] at h
    split_ifs at h <;> simp at h <;> subst h <;> decide
  · intro r st h h'
    rw [(site_station h).2] at h'
    cases h'

theorem witness_recordsStayInTheirRanges : RecordsInRange site ∧ ∃ t, step site = .next t := by
  refine ⟨⟨site_plan, site_settings, ?_, ?_, ?_, ?_, ?_, ?_, ?_, by decide, ?_⟩, site_steps⟩
  · intro i
    unfold site
    rw [site_slots]
    split_ifs <;> simp [Slot.inRange, live0, ending3, owned, labelValid, Config.labelCapacity, printable]
  · intro z c h
    have key : ∀ z : Fin 16, (site.zones.read z).clearing = if z = 0 then some { count := 5, owed := 0 } else none := by
      decide +kernel
    rw [key] at h
    split at h <;> cases h
    exact ⟨by decide, by decide⟩
  · intro r st h
    rw [(site_station h).2]
    decide
  · intro w h
    cases h
  · intro f h
    cases h
    exact ⟨by decide, show 433 < 9120 by decide⟩
  · intro b h
    cases h
  · intro e h
    rw [List.mem_singleton.mp h]
    exact ⟨by decide, by decide, by decide, by decide, by decide⟩
  · intro level index h
    cases h

/-- What the four searching sites have in common. -/
theorem site_marks {f b r h} (hf : f = none ∨ f = some (.request want found433) ∨ f = some (.move wantMove found433) ∨
    f = some (.pin wantPin found433)) (hb : b = none ∨ b = some { zone := 0, context := found433 }) (c : SearchContext)
    (hc : holdsContext (siteWith f b r h).engine c) : c = found433 := by
  rcases hc with ⟨w, e⟩ | ⟨w, e⟩ | ⟨w, e⟩ | ⟨z, e⟩
  · change f = _ at e
    rcases hf with rfl | rfl | rfl | rfl <;> cases e <;> rfl
  · change f = _ at e
    rcases hf with rfl | rfl | rfl | rfl <;> cases e <;> rfl
  · change f = _ at e
    rcases hf with rfl | rfl | rfl | rfl <;> cases e <;> rfl
  · change b = _ at e
    rcases hb with rfl | rfl <;> cases e <;> rfl

theorem site_passing : PassingSound site where
  plan := site_plan
  owners := site_ownersSound
  spares := site_spares (by rintro x h; cases h)
  marks c hc _ := by rw [site_marks (by simp) (by simp) c hc]; rfl
  moving w o h := by rcases h with h | ⟨c, h⟩ <;> cases h
  request w c f h hf := by
    cases h
    cases hf
    decide +kernel
  move _ _ _ h := by cases h
  refill _ _ h := by cases h
  pin _ _ _ h := by cases h

theorem movingSite_passing : PassingSound movingSite where
  plan := site_plan
  owners := site_owners movingSite_openSound fun q ch h => absurd h (site_noRequest (by intro w c e; simp at e))
  spares := site_spares (by rintro x h; cases h)
  marks c hc _ := by rw [site_marks (by simp) (by simp) c hc]; rfl
  moving w o h ho _ _ := by
    rcases h with h | ⟨c, h⟩ <;> cases h
    have : siteSlots.read 0 = .owned live0 := siteSlots_read 0
    cases (this.symm.trans ho)
    exact ⟨rfl, rfl⟩
  request _ _ _ h := by cases h
  move w c f h hf _ := by
    cases h
    cases hf
    decide +kernel
  refill _ _ h := by cases h
  pin _ _ _ h := by cases h

theorem pinningSite_passing : PassingSound pinningSite where
  plan := site_plan
  owners := site_owners pinningSite_openSound fun q ch h => absurd h (site_noRequest (by intro w c e; simp at e))
  spares := site_spares (by rintro x h; cases h)
  marks c hc _ := by rw [site_marks (by simp) (by simp) c hc]; rfl
  moving w o h := by rcases h with h | ⟨c, h⟩ <;> cases h
  request _ _ _ h := by cases h
  move _ _ _ h := by cases h
  refill _ _ h := by cases h
  pin w c f h hf := by
    cases h
    decide +kernel

theorem refillingSite_passing : PassingSound refillingSite where
  plan := site_plan
  owners := site_owners refillingSite_openSound fun q ch h => absurd h (site_noRequest (by intro w c e; simp at e))
  spares := site_spares (by rintro x h; cases h; rfl)
  marks c hc _ := by rw [site_marks (by simp) (by simp) c hc]; rfl
  moving w o h := by rcases h with h | ⟨c, h⟩ <;> cases h
  request _ _ _ h := by cases h
  move _ _ _ h := by cases h
  refill x f h hf := by
    cases h
    cases hf
    decide +kernel
  pin _ _ _ h := by cases h

theorem witness_foundCandidatesKeepPassing : PassingSound site ∧ ∃ t, step site = .next t := ⟨site_passing, site_steps⟩

/-- A grant, a spare and a checked pin recorded in slot 4, and a move opened in slot 0. -/
theorem witness_recordedIndexPasses :
    (PassingSound site ∧ exec .searchCompletion site = .next (after .searchCompletion site) ∧ site.slots.read 4 = .free ∧
      (after .searchCompletion site).slots.read 4 = .owned (owned 0 2 433 0 0 .live)) ∧
    (PassingSound refillingSite ∧ exec .searchCompletion refillingSite = .next (after .searchCompletion refillingSite) ∧
      (after .searchCompletion refillingSite).slots.read 4 =
        .spare { frequency := 433, profile := 0, zone := 0, conflict := false }) ∧
    (PassingSound pinningSite ∧
      exec .checkedPinCompletion pinningSite = .next (after .checkedPinCompletion pinningSite) ∧
      (after .checkedPinCompletion pinningSite).slots.read 4 =
        .pinned { frequency := 433, profile := 0, zone := 0, label := [], suspect := none, conflict := false }) ∧
    PassingSound movingSite ∧ exec .searchCompletion movingSite = .next (after .searchCompletion movingSite) ∧
      (after .searchCompletion movingSite).slots.read 0 =
        .owned { live0 with move := some { pending := 433, counter := { count := 60, owed := 0 } } } :=
  ⟨⟨site_passing, rfl, by decide +kernel, by decide +kernel⟩, ⟨refillingSite_passing, rfl, by decide +kernel⟩,
    ⟨pinningSite_passing, rfl, by decide +kernel⟩, movingSite_passing, rfl, by decide +kernel⟩

theorem witness_branchesFollowTheMode : ModeSound site ∧ ∃ t, step site = .next t := ⟨site_modeSound, site_steps⟩

/-- The engine is free, a slot is FREE, zone 0 wants a spare and is barred. -/
theorem witness_noRefillIsLeftOwed :
    RefillsStarted idleSite ∧ wantsSpare idleSite 0 = true ∧ ∃ t, step idleSite = .next t := by
  refine ⟨?_, by decide +kernel, idleSite_steps⟩
  intro _ _ _ _ _ z h
  revert z
  decide +kernel


/-! ## States that meet the hypotheses of the statements about commands -/

theorem witness_stepRunsTheFrontCommand : site.pending = .tick :: [] ∧ State.reset.pending = [] := ⟨rfl, rfl⟩

theorem witness_requestBytesRoundTrip :
    (Instr.writeGuards 6 8).wellFormed = true ∧ encodeFrame (.writeGuards 6 8) = some [10, 6, 8] ∧
      (∀ received, Instr.writeGuards 6 8 ≠ .chipSelectReleasedEarly received) ∧
      ([10, 6, 8] : List Byte) = [10, 6] ++ [8] ∧ ([8] : List Byte) ≠ [] :=
  ⟨by decide, by decide, nofun, rfl, by decide⟩

/-- A table without a FREE slot. -/
def fullSite : State :=
  { site with
    slots := Table.filled 384
      (.pinned { frequency := 600, profile := 0, zone := 0, label := [], suspect := none, conflict := false }) }

theorem site_lowestFree : site.slots.read 4 = .free ∧ ∀ j < 4, site.slots.read j ≠ .free := by decide +kernel

theorem fullSite_full : ∀ i, fullSite.slots.read i ≠ .free := by
  intro i
  simp [fullSite]

/-- Near the CONFIRMED carrier, away from it, and with no slot FREE. -/
theorem witness_pinRecordsInTheLowestFreeSlot :
    (0 : Byte) ≠ 1 ∧ (site.plan.profiles.read 0).defined = true ∧
      (site.slots.read 4 = .free ∧ ∀ j < 4, site.slots.read j ≠ .free) ∧ (∀ i, fullSite.slots.read i ≠ .free) ∧
      (after (.pin 2004 0 0 0 []) site).console.response = [0, 0, 4, 0x07, 0xD0] ∧
      (after (.pin 2008 0 0 0 []) site).console.response = [0, 0, 4, 0xFF, 0xFF] :=
  ⟨by decide, by decide +kernel, site_lowestFree, fullSite_full, by decide +kernel, by decide +kernel⟩

theorem witness_recordsKeepProfileZoneOwnerAndLabel :
    exec .searchCompletion site = .next (after .searchCompletion site) ∧ site.slots.read 0 = .owned live0 ∧
      (site.slots.read 1).isSpare = true ∧ (site.slots.read 2).isPinned = true ∧ site.slots.read 4 = .free ∧
      (after .searchCompletion site).slots.read 4 ≠ .free :=
  ⟨rfl, by decide +kernel, by decide +kernel, by decide +kernel, by decide +kernel, by decide +kernel⟩

/-- One failure at each of the six tests, and a pass. -/
theorem witness_evaluationNamesTheFirstFailure :
    evaluate site 0 0 none 9120 = some .t1 ∧ evaluate (withProfiles [(2, profile2)] twoBands) 2 3 none 904 = some (.t2 1) ∧
      evaluate site 0 0 none 2007 = some (.t3 2000) ∧ evaluate site 0 0 none 411 = some (.t4 0) ∧
      evaluate crowded 2 3 none 442 = some (.t5 1 0) ∧ evaluate crowded 2 3 none 440 = some (.t6 1 2) ∧
      evaluate crowded 2 3 none 438 = none := by decide +kernel

theorem witness_walkOrders :
    (snapping.plan.profiles.read 0).inRange ∧ (snapping.plan.zones.read 0).inRange ∧
      201 ∈ (List.range 9120).filter fun f => decide (101 ≤ f ∧ 200 ≤ f ∧ f ≤ 9119 ∧ f ≤ 300 ∧ (f - 101) % 4 = 0) := by
  refine ⟨?_, ?_, ?_⟩
  · unfold Profile.inRange
    decide +kernel
  · unfold ZonePlan.inRange
    decide +kernel
  · simp

/-- A moving slot that is its station's, and one that is not. -/
theorem witness_walksBeginAndEnd :
    (movingSite.slots.read wantMove.slot = .owned live0 ∧ live0.station = wantMove.station ∧
      live0.channel = wantMove.channel) ∧
      ¬∃ o, movingSite.slots.read 4 = .owned o ∧ o.station = wantMove.station ∧ o.channel = wantMove.channel := by
  have h4 : movingSite.slots.read 4 = .free := by decide +kernel
  refine ⟨⟨by decide +kernel, rfl, rfl⟩, ?_⟩
  rintro ⟨o, h, _⟩
  rw [h4] at h
  cases h

/-- The context of a walk that has not found a candidate. -/
def walking : SearchContext := search 3 false 0 { lowest := 432, step := 1, count := 2, start := none, cursor := 0 } .walking

theorem witness_candidateEvaluationWalksOn :
    ((siteWith (some (.request want walking)) none true false).engine.foreground = some (.request want walking) ∧
      (siteWith (some (.move wantMove walking)) none true false).engine.foreground = some (.move wantMove walking) ∧
      (siteWith none (some { zone := 0, context := walking }) false false).engine.background =
        some { zone := 0, context := walking } ∧
      walking.stage = .walking) ∧
      ∀ job c, activeSearch site = some (job, c) → c.stage ≠ .walking := by
  refine ⟨⟨rfl, rfl, rfl, rfl⟩, ?_⟩
  intro job c h
  have : activeSearch site = some (.request want, found433) := rfl
  rw [this] at h
  cases h
  decide

/-- The same context after a re-test, and with the mark set and the re-search count at its limit. -/
def retested433 : SearchContext := { found433 with stage := .retested 433 }
def lastTry : SearchContext := { found433 with moved := true, research := 2 }
def due433 : SearchContext := { found433 with stage := .retestDue 433 }

theorem witness_searchCompletionRecordsOrRetests :
    (site.engine.foreground = some (.request want found433) ∧ found433.stage = .found 433 ∧ found433.moved = false ∧
      site.slots.read 4 = .free ∧ ∀ j < 4, site.slots.read j ≠ .free) ∧
    ((siteWith (some (.request want retested433)) none true false).engine.foreground = some (.request want retested433) ∧
      retested433.stage = .retested 433) ∧
    ((siteWith (some (.request want lastTry)) none true false).engine.foreground = some (.request want lastTry) ∧
      lastTry.stage = .found 433 ∧ lastTry.moved = true) ∧
    (fullSite.engine.foreground = some (.request want found433) ∧ ∀ i, fullSite.slots.read i ≠ .free) ∧
    (movingSite.engine.foreground = some (.move wantMove found433) ∧ movingSite.slots.read 0 = .owned live0) ∧
    ((movingSite.slots.read 4).ownedBy 0 1 = false) ∧
    (refillingSite.engine.foreground = none ∧ refillingSite.engine.background = some { zone := 0, context := found433 } ∧
      refillingSite.engine.queue = [] ∧ refillingSite.console.mode = .run) ∧
    ∀ job c f, activeSearch idleSite = some (job, c) → c.stage ≠ .found f ∧ c.stage ≠ .retested f :=
  ⟨⟨rfl, rfl, rfl, site_lowestFree⟩, ⟨rfl, rfl⟩, ⟨rfl, rfl, rfl⟩, ⟨rfl, fullSite_full⟩, ⟨rfl, by decide +kernel⟩,
    by decide +kernel, ⟨rfl, rfl, rfl, rfl⟩, by
      intro job c f h
      cases h⟩

theorem witness_reTestEvaluatesTheCandidateAgain :
    (activeSearch (siteWith (some (.request want due433)) none true false) = some (.request want, due433) ∧
      due433.stage = .retestDue 433) ∧
    (siteWith (some (.pin wantPin due433)) none false true).engine.foreground = some (.pin wantPin due433) ∧
    (∀ job c f, activeSearch site = some (job, c) → c.stage ≠ .retestDue f) ∧
    ∀ w c f, site.engine.foreground = some (.pin w c) → c.stage ≠ .retestDue f := by
  refine ⟨⟨rfl, rfl⟩, rfl, ?_, ?_⟩
  · intro job c f h
    have : activeSearch site = some (.request want, found433) := rfl
    rw [this] at h
    cases h
    simp [found433, search]
  · intro w c f h
    cases h

theorem witness_checkedPinsAndAuditsRunToTheirResult :
    (pinningSite.engine.foreground = some (.pin wantPin found433) ∧ found433.stage = .found wantPin.index ∧
      pinningSite.slots.read 4 = .free ∧ ∀ j < 4, pinningSite.slots.read j ≠ .free) ∧
    ((siteWith (some (.pin wantPin retested433)) none false true).engine.foreground = some (.pin wantPin retested433) ∧
      retested433.stage = .retested wantPin.index) ∧
    ((siteWith (some (.audit 0 0)) none false true).engine.foreground = some (.audit 0 0) ∧
      lastVisit.engine.foreground = some (.audit 383 2)) ∧
    (∀ w c f, site.engine.foreground = some (.pin w c) → c.stage ≠ .found f ∧ c.stage ≠ .retested f) ∧
    ∀ n flagged, site.engine.foreground ≠ some (.audit n flagged) :=
  ⟨⟨rfl, rfl, site_lowestFree⟩, ⟨rfl, rfl⟩, ⟨rfl, rfl⟩, nofun, nofun⟩

/-- The free engine with zone 0 not barred. -/
def wantingSite : State := { idleSite with engine := Engine.reset }

/-- The same with a window that holds no aligned index of the spare profile. -/
def windowlessSite : State :=
  withProfiles [(0, { profile2 with step := 8 })]
    (withZones [(0, { ZonePlan.reset with zlo := 1, zhi := 7, depth := 2 })] wantingSite)

theorem witness_refillsStartAtTheLowestZone :
    (wantingSite.console.mode = .run ∧ wantingSite.engine.foreground = none ∧ wantingSite.engine.background = none ∧
      wantingSite.engine.queue = [] ∧ wantingSite.slots.read 4 = .free) ∧
    (wantsSpare wantingSite 0 = true ∧ wantingSite.engine.barred.read 0 = false ∧
      (formWalk wantingSite 0 0 none).count ≠ 0) ∧
    (wantsSpare windowlessSite 0 = true ∧
      ∀ z, wantsSpare windowlessSite z = true →
        (formWalk windowlessSite (windowlessSite.plan.zones.read z).spareProfile z none).count = 0) ∧
    State.reset.console.mode ≠ .run := by decide +kernel

/-- A tick owed at a hold counter and a move counter, at their last tick or not. -/
def counting (n : Nat) : Owned :=
  { live0 with
    state := .stale (some { count := n, owed := 1 })
    move := some { pending := 430, counter := { count := n, owed := 1 } } }

theorem witness_holdsAndMovesRunDown :
    ((withSlots [(0, .owned (counting 1))] site).slots.read 0 = .owned (counting 1) ∧
      (withSlots [(0, .owned (counting 2))] site).slots.read 0 = .owned (counting 2) ∧ site.console.mode = .run) ∧
      (∀ o h, site.slots.read 0 = .owned o → o.state = .stale (some h) → h.owed = 0 ∨ site.console.mode = .config) ∧
      ∀ o w, site.slots.read 0 = .owned o → o.move = some w → w.counter.owed = 0 ∨ site.console.mode = .config := by
  have h0 : site.slots.read 0 = .owned live0 := by decide +kernel
  refine ⟨by decide +kernel, ?_, ?_⟩ <;>
  · intro o x h h'
    rw [h0] at h
    cases h
    cases h'

/-- A part that is TUNING, and one whose tune lines rest. -/
theorem witness_sweepRequestsAndPointStages :
    (after .sweepStart State.reset).sweep.activity = some (.tuning 0) ∧ ∀ w, State.reset.sweep.activity ≠ some (.tuning w) :=
  ⟨by decide +kernel, fun _ h => nomatch h⟩

/-- The site with a point to be decided at an index. -/
def pointAt (index : Nat) : State := { site with sweep := { site.sweep with activity := some .converting, cursor := index } }

/-- A point explained, one with an entry, and one with neither. -/
theorem witness_conversionsDecideThePoint :
    (∃ d, isCarrier (pointAt 402) none d ∧ (((402 : Nat) : Int) - d.index).natAbs ≤ (pointAt 402).sweep.config.e) ∧
    ((∀ d, isCarrier (pointAt 2000) none d → (pointAt 2000).sweep.config.e < (((2000 : Nat) : Int) - d.index).natAbs) ∧
      ((pointAt 2000).sweep.foreign.find? fun d => d.index == 2000).isSome = true) ∧
    (∀ d, isCarrier (pointAt 403) none d → (pointAt 403).sweep.config.e < (((403 : Nat) : Int) - d.index).natAbs) ∧
    ((pointAt 403).sweep.foreign.find? fun d => d.index == 403) = none := by
  have far : ∀ n : Nat, n = 2000 ∨ n = 403 → ∀ d, isCarrier (pointAt n) none d → 2 < (((n : Nat) : Int) - d.index).natAbs := by
    rintro n hn d ⟨_, h⟩
    have : (pointAt n).slots.read d.slot = site.slots.read d.slot := rfl
    rw [this] at h
    unfold site at h
    rw [site_slots] at h
    split_ifs at h <;> simp [live0, ending3, owned] at h <;> omega
  refine ⟨⟨{ index := 400, slot := 0, isPending := false, zone := 0, profile := 0 }, ?_, by decide⟩,
    ⟨far 2000 (Or.inl rfl), rfl⟩, far 403 (Or.inr rfl), rfl⟩
  refine ⟨by simp, ?_⟩
  have : (pointAt 402).slots.read 0 = .owned live0 := by decide +kernel
  rw [this]
  exact ⟨rfl, rfl, rfl⟩

/-- A due rack above the address last polled, none above it, and a branch without a round. -/
theorem witness_pollsCarryTheFirstItem :
    ((site.branches.read 0).activity = .inRound 0 ∧ site.console.mode = .run ∧ (site.branches.read 0).state = .running ∧
      (site.branches.read 0).txen = false) ∧
    (site.stations.read 0 = some (rackWith true) ∧ (rackWith true).branch = 0 ∧ 0 < (rackWith true).address ∧
      (rackWith true).link ≠ .silent) ∧
    (∀ q su, site.stations.read q = some su → (rackWith true).address ≤ su.address ∧ (0 : Fin 48) ≤ q) ∧
    (∀ q su, site.stations.read q = some su → ¬1 < su.address) ∧ State.reset.console.mode = .config := by
  refine ⟨by decide +kernel, by decide +kernel, ?_, ?_, rfl⟩
  · intro q su h
    rw [(site_station h).1, (site_station h).2]
    decide
  · intro q su h
    rw [(site_station h).2]
    decide

/-- The poll of section 8.9 listened for at each place: the address, a later byte, and the check byte right and wrong. -/
theorem witness_repliesAreJudgedByCharacter :
    (∀ p rx seen, (site.branches.read 0).activity ≠ .listening p rx seen) ∧
    ((poll4.branches.read 0).activity =
        .listening
          { station := 9, address := 7, item := .answer (.status 1 5460 .live false (some 5500) false),
            stationGone := false } [0x87, 1, 69, 1] false) ∧
    (([0x87, 1, 69, 1] : List Byte).sum + 0x32 = 0 ∧ ([0x87, 1, 69, 1] : List Byte).sum + 0x33 ≠ 0) := by
  have h0 : (site.branches.read 0).activity = .inRound 0 := by decide +kernel
  refine ⟨?_, by decide +kernel, by decide⟩
  intro p rx seen h
  rw [h0] at h
  cases h

theorem witness_requestFramesAreCheckedInOrder : site.stations.read 0 = some (rackWith true) := by decide +kernel

/-- A channel that owns nothing, and the one that owns slot 0. -/
theorem witness_slotFramesAreAnswered :
    (∀ i o, site.slots.read i = .owned o → o.station = 0 → o.channel.val ≠ (9 : Byte).toNat) ∧
    (site.stations.read 0 = some (rackWith true) ∧ site.slots.read 0 = .owned live0 ∧ live0.station = 0 ∧
      ∀ j, (site.slots.read j).ownedBy 0 live0.channel = true → j = 0) := by
  refine ⟨?_, by decide +kernel, by decide +kernel, rfl, by decide +kernel⟩
  intro i o h _
  unfold site at h
  rw [site_slots] at h
  split_ifs at h <;> simp at h <;> subst h <;> decide

theorem witness_modeRequestsStartStopAndClear : site.console.mode = .run ∧ State.reset.console.mode = .config :=
  ⟨rfl, rfl⟩

theorem witness_attentionFlagsStayUntilTheyAreRead :
    exec .auditVisit lastVisit = .next (after .auditVisit lastVisit) ∧ Instr.auditVisit ≠ .hardwareReset ∧
      Instr.auditVisit ≠ .readAttention ∧ lastVisit.console.flags.getLsbD 2 = true ∧
      ∀ mask, Instr.auditVisit ≠ .writeMask mask :=
  ⟨rfl, by decide, by decide, by decide, nofun⟩

/-- A request carried out, one denied with the bytes after its status, an event, and a port with no response. -/
theorem witness_deniedRequestsChangeNothing :
    ((Instr.writeGuards 6 8).wellFormed = true ∧ exec (.writeGuards 6 8) site = .next (after (.writeGuards 6 8) site)) ∧
    ((Instr.retire 384).wellFormed = true ∧ exec (.retire 384) site = .next (after (.retire 384) site) ∧
      (after (.retire 384) site).console.response = [3]) ∧
    (Instr.tick.wellFormed = true ∧ encodeFrame .tick = none ∧ exec .tick site = .next (after .tick site)) ∧
    ([0, 1, 5].map (clockedOut (after (.retire 384) site)) = [some 3, some 0, some 0] ∧ State.reset.console.response = []) :=
  ⟨⟨by decide, rfl⟩, ⟨by decide, rfl, by decide +kernel⟩, ⟨by decide, rfl, rfl⟩, by decide +kernel, rfl⟩

/-- A plan write that advances the epoch under a search, and a STOP. -/
theorem witness_planModeAndEpochChangeByTheirOwnEvents :
    (exec (.writeGuards 6 8) site = .next (after (.writeGuards 6 8) site) ∧ Instr.writeGuards 6 8 ≠ .hardwareReset ∧
      (after (.writeGuards 6 8) site).epoch ≠ site.epoch ∧
      (after (.writeGuards 6 8) site).engine.foreground = some (.request want { found433 with moved := true })) ∧
    exec .stop site = .next (after .stop site) ∧ (after .stop site).console.mode ≠ site.console.mode :=
  ⟨⟨rfl, by decide, by decide +kernel, by decide +kernel⟩, rfl, by decide +kernel⟩

end Sys2Proof.Tests
end

section
/-! ## Proofs: the state after reset, the plan's reads and the plan's writes -/

namespace Sys2Proof.Machine

/-! ### The state after reset, table by table -/

/-- A profile after reset (R5). -/
@[simp] theorem reset_profiles_read (p : Fin 16) : State.reset.plan.profiles.read p = Profile.reset :=
  Table.read_filled _ _

/-- A zone's settings after reset (R9). -/
@[simp] theorem reset_zonePlans_read (z : Fin 16) : State.reset.plan.zones.read z = ZonePlan.reset :=
  Table.read_filled _ _

/-- The coupling of two zones after reset (R12). -/
@[simp] theorem reset_coupling_read (a b : Fin 16) :
    (State.reset.plan.coupling.read a).read b = if a = b then .shared else .isolated := by
  show (couplingReset.read a).read b = _
  simp [couplingReset, Table.read_eq]

/-- Every slot is FREE after reset (R43). -/
@[simp] theorem reset_slots_read (i : Fin 384) : State.reset.slots.read i = .free := Table.read_filled _ _

/-- Every zone is STEADY without spares after reset (R115, R126). -/
@[simp] theorem reset_zones_read (z : Fin 16) : State.reset.zones.read z = { clearing := none, spares := [] } :=
  Table.read_filled _ _

/-- No station record is present after reset (R165). -/
@[simp] theorem reset_stations_read (r : Fin 48) : State.reset.stations.read r = none := Table.read_filled _ _

/-- A branch after reset (R155, R156). -/
@[simp] theorem reset_branches_read (b : Fin 4) : State.reset.branches.read b = Branch.reset := Table.read_filled _ _

/-- No zone is barred after reset (R93). -/
@[simp] theorem reset_barred_read (z : Fin 16) : State.reset.engine.barred.read z = false := Table.read_filled _ _

/-- Settles O3: what a reset writes is `resetPart`'s definition, and each table reads as its filling. -/
theorem hardwareResetRestoresTheResetState : Obligations.HardwareResetRestoresTheResetState := by
  refine ⟨fun s => rfl, reset_profiles_read, reset_zonePlans_read, reset_coupling_read, rfl, rfl, rfl, reset_slots_read,
    rfl, rfl, fun b => ?_, reset_stations_read, reset_zones_read, rfl, rfl, rfl, rfl, rfl, rfl, rfl, rfl,
    reset_barred_read, rfl, rfl, rfl, rfl, rfl, rfl, rfl, rfl, by decide⟩
  rw [reset_branches_read]
  exact ⟨rfl, rfl, rfl, rfl, rfl, rfl, rfl, rfl⟩

/-- Settles O6: a number in range is read, any other is refused, and the layouts are those of R191. -/
theorem planReadsReturnTheStoredItems : Obligations.PlanReadsReturnTheStoredItems := by
  refine ⟨fun profile s => ?_, fun zone s => ?_, fun a b s => ?_, fun s => rfl, fun s => rfl⟩
  · show execReadProfile profile s = _
    unfold execReadProfile
    by_cases h : profile.toNat < 16
    · simp only [numberBelow_of_lt h, dif_pos h]; rfl
    · simp only [numberBelow_of_not_lt h, dif_neg h]; rfl
  · show execReadZone zone s = _
    unfold execReadZone
    by_cases h : zone.toNat < 16
    · simp only [numberBelow_of_lt h, dif_pos h]; rfl
    · simp only [numberBelow_of_not_lt h, dif_neg h]; rfl
  · show execReadCoupling a b s = _
    unfold execReadCoupling
    by_cases ha : a.toNat < 16
    · by_cases hb : b.toNat < 16
      · simp only [numberBelow_of_lt ha, numberBelow_of_lt hb, dif_pos (And.intro ha hb)]; rfl
      · simp only [numberBelow_of_lt ha, numberBelow_of_not_lt hb, hb, and_false, dite_false]; rfl
    · simp only [numberBelow_of_not_lt ha, ha, false_and, dite_false]; rfl

/-! ### Plan writes -/

/-- A plan write that tightens advances the epoch as well (R2, R3). -/
theorem writePlan_eq (plan : Plan) (tightens : Bool) (s : State) :
    writePlan plan tightens s = if tightens then advanceEpoch (writePlan plan false s) else writePlan plan false s := rfl

/-- WRITE PROFILE with state UNDEFINED (R8). -/
theorem undefineProfile_eq (profile : Byte) (s : State) :
    undefineProfile profile s = .next
      (if h : profile.toNat < 16 then
        if profileInUse s ⟨profile.toNat, h⟩ then respond .inUse [] s
        else
          respond .ok [] (startRefill (writePlan
            { s.plan with
              profiles := s.plan.profiles.change ⟨profile.toNat, h⟩ fun r => { r with defined := false } } false s))
      else respond .range [] s) := by
  unfold undefineProfile
  by_cases h : profile.toNat < 16
  · simp only [numberBelow_of_lt h, dif_pos h]
    split <;> rfl
  · simp only [numberBelow_of_not_lt h, dif_neg h]
    rfl

/-- The clamped spacing (R6): 0 is raised to 1, what is above 40 is lowered to it. -/
theorem clampTo_spacing (c : Byte) : clampTo 1 40 c.toNat = if c = 0 then 1 else min c.toNat 40 := by
  unfold clampTo
  by_cases h : c = 0
  · subst h; rfl
  · have : c.toNat ≠ 0 := fun k => h (BitVec.eq_of_toNat_eq (by simpa using k))
    rw [if_neg h]
    omega

/-- WRITE PROFILE with state DEFINED (R6). -/
theorem defineProfile_eq (profile : Byte) (low high : Word) (step c p3 p5 : Byte) (s : State) :
    defineProfile profile low high step c p3 p5 s = .next
      (if h : profile.toNat < 16 then
        if low.toNat ≤ high.toNat ∧ high.toNat < 9120 ∧ step.toNat ∈ [1, 2, 4, 8] then
          if profileInUse s ⟨profile.toNat, h⟩ then respond .inUse [] s
          else
            respond .ok [] (startRefill (writePlan
              { s.plan with
                profiles :=
                  s.plan.profiles.write ⟨profile.toNat, h⟩
                    (clampedProfile low.toNat high.toNat step.toNat c.toNat p3.toNat p5.toNat) } false s))
        else respond .range [] s
      else respond .range [] s) := by
  unfold defineProfile
  by_cases h : profile.toNat < 16
  · have checks : (edgesValid low.toNat high.toNat && stepValid step.toNat) = true ↔
        low.toNat ≤ high.toNat ∧ high.toNat < 9120 ∧ step.toNat ∈ [1, 2, 4, 8] := by
      rw [Bool.and_eq_true, edgesValid_iff, stepValid_iff, and_assoc]
    simp only [numberBelow_of_lt h, dif_pos h, ← checks]
    cases (edgesValid low.toNat high.toNat && stepValid step.toNat)
    · rfl
    · simp only [Bool.not_true, Bool.false_eq_true, if_false, if_true]
      split <;> rfl
  · simp only [numberBelow_of_not_lt h, dif_neg h]
    rfl

/-- Settles O10: the two forms of the request, each by its equation. -/
theorem profileWritesCheckAndClamp : Obligations.ProfileWritesCheckAndClamp := by
  refine ⟨fun profile state low high step c p3 p5 s => ?_, fun profile low high step c p3 p5 s => ?_⟩
  · show execWriteProfile profile state low high step c p3 p5 s = _
    unfold execWriteProfile
    rw [defineProfile_eq, undefineProfile_eq]
    unfold clampedProfile
    rw [clampTo_spacing]
    split
    · rfl
    · split <;> rfl
  · exact undefineProfile_eq profile s

/-- The settings that a WRITE ZONE carries pass its checks (R10). -/
theorem zoneSettings_eq (s : State) (zlo zhi : Word) (depth spareProfile : Byte) (clearTime : Word) :
    zoneSettings s zlo zhi depth spareProfile clearTime =
      if h : spareProfile.toNat < 16 then
        if zlo.toNat ≤ zhi.toNat ∧ zhi.toNat < 9120 ∧ depth.toNat ≤ 4 ∧
            (depth.toNat = 0 ∨ (s.plan.profiles.read ⟨spareProfile.toNat, h⟩).defined = true) then
          some { zlo := zlo.toNat, zhi := zhi.toNat, depth := depth.toNat, spareProfile := ⟨spareProfile.toNat, h⟩,
                 clearTime := clearTime.toNat }
        else none
      else none := by
  unfold zoneSettings
  by_cases h : spareProfile.toNat < 16
  · simp only [numberBelow_of_lt h, dif_pos h, Bool.and_eq_true, edgesValid_iff, decide_eq_true_eq, Bool.or_eq_true,
      beq_iff_eq, and_assoc]
  · simp only [numberBelow_of_not_lt h, dif_neg h]

/-- A refill of the zone is discarded, any other stays (R86). -/
theorem discardRefill_eq (z : Fin 16) (s : State) :
    discardRefill z s =
      match s.engine.background with
      | some b => if b.zone = z then leaveBackground s else s
      | none => s := rfl

/-- A changed spare depth or spare profile, case by case (R11, R131, R132). -/
theorem applySpareSettings_eq (z : Fin 16) (old new : ZonePlan) (s : State) :
    applySpareSettings z old new s =
      if old.spareProfile ≠ new.spareProfile then retireSlots none (s.zones.read z).spares (discardRefill z s)
      else if old.depth ≠ new.depth then
        retireSlots none (sparesBeyond new.depth (s.zones.read z).spares) (discardRefill z s)
      else s := by
  unfold applySpareSettings
  by_cases hp : old.spareProfile = new.spareProfile
  · by_cases hd : old.depth = new.depth <;> simp [hp, hd]
  · simp [hp]

/-- WRITE ZONE (R10, R11). -/
theorem execWriteZone_eq (zone : Byte) (zlo zhi : Word) (depth spareProfile : Byte) (clearTime : Word) (s : State) :
    execWriteZone zone zlo zhi depth spareProfile clearTime s = .next
      (if h : zone.toNat < 16 then
        match zoneSettings s zlo zhi depth spareProfile clearTime with
        | none => respond .range [] s
        | some new =>
          respond .ok [] (startRefill
            (applySpareSettings ⟨zone.toNat, h⟩ (s.plan.zones.read ⟨zone.toNat, h⟩) new
              (writePlan { s.plan with zones := s.plan.zones.write ⟨zone.toNat, h⟩ new }
                (zoneTightens (s.plan.zones.read ⟨zone.toNat, h⟩) new) s)))
      else respond .range [] s) := by
  unfold execWriteZone
  by_cases h : zone.toNat < 16
  · simp only [numberBelow_of_lt h, dif_pos h]
    cases zoneSettings s zlo zhi depth spareProfile clearTime <;> rfl
  · simp only [numberBelow_of_not_lt h, dif_neg h]
    rfl

/-- The refill of a zone discarded after a plan write, by the refill that was held before it. -/
theorem discardRefill_writePlan (z : Fin 16) (plan : Plan) (tightens : Bool) (s : State) :
    discardRefill z (writePlan plan tightens s) =
      match s.engine.background with
      | some b => if b.zone = z then leaveBackground (writePlan plan tightens s) else writePlan plan tightens s
      | none => writePlan plan tightens s := by
  rw [discardRefill_eq]
  cases hb : s.engine.background <;> cases tightens <;> simp [writePlan, hb]

/-- The spare settings handed on after a plan write, case by case (R86, R131, R132). -/
theorem applySpareSettings_writePlan (z : Fin 16) (old new : ZonePlan) (plan : Plan) (tightens : Bool) (s : State) :
    applySpareSettings z old new (writePlan plan tightens s) =
      let dropped :=
        if old.spareProfile = new.spareProfile ∧ old.depth = new.depth then writePlan plan tightens s
        else discardRefill z (writePlan plan tightens s)
      if old.spareProfile ≠ new.spareProfile then retireSlots none (s.zones.read z).spares dropped
      else if old.depth ≠ new.depth then retireSlots none (sparesBeyond new.depth (s.zones.read z).spares) dropped
      else dropped := by
  have hz : (writePlan plan tightens s).zones = s.zones := by simp
  rw [applySpareSettings_eq, hz]
  by_cases hp : old.spareProfile = new.spareProfile
  · by_cases hd : old.depth = new.depth <;> simp [hp, hd]
  · simp [hp]

/-- A zone write that narrows the window advances the epoch (R3, R10). -/
theorem writePlan_zoneTightens (plan : Plan) (old new : ZonePlan) (s : State) :
    writePlan plan (zoneTightens old new) s =
      if old.zlo < new.zlo ∨ new.zhi < old.zhi then advanceEpoch (writePlan plan false s)
      else writePlan plan false s := by
  rw [writePlan_eq]
  simp [zoneTightens]

/-- Settles O11: the checks are `zoneSettings`, the narrowing `zoneTightens`, and the spares are settled by
`applySpareSettings`, each by its equation. -/
theorem zoneWritesCheckAndHandOn : Obligations.ZoneWritesCheckAndHandOn := by
  intro zone zlo zhi depth spareProfile clearTime s
  show execWriteZone zone zlo zhi depth spareProfile clearTime s = _
  rw [execWriteZone_eq, zoneSettings_eq]
  by_cases hz : zone.toNat < 16
  · by_cases hp : spareProfile.toNat < 16
    · rw [dif_pos hz, dif_pos hp, dif_pos (And.intro hz hp)]
      by_cases checks : zlo.toNat ≤ zhi.toNat ∧ zhi.toNat < 9120 ∧ depth.toNat ≤ 4 ∧
          (depth.toNat = 0 ∨ (s.plan.profiles.read ⟨spareProfile.toNat, hp⟩).defined = true)
      · rw [if_pos checks]
        refine congrArg Host.Outcome.next ((congrArg (fun u => respond .ok [] (startRefill u)) ?_).trans
          (if_pos checks).symm)
        rw [applySpareSettings_writePlan, discardRefill_writePlan, writePlan_zoneTightens]
        rfl
      · rw [if_neg checks]
        exact congrArg Host.Outcome.next (if_neg checks).symm
    · rw [dif_pos hz, dif_neg hp, dif_neg (fun h => hp h.2)]
  · rw [dif_neg hz, dif_neg (fun h => hz h.1)]

/-! ### Coupling and guards (R12, R13, R18) -/

/-- A coupling code is 0, 1 or 2 and names the value of that rank, or it names none (R188). -/
theorem couplingOfCode_cases (n : Nat) :
    (∃ v, couplingOfCode n = some v ∧ v.rank = n ∧ n < 3) ∨ (couplingOfCode n = none ∧ 3 ≤ n) :=
  match n with
  | 0 => .inl ⟨.isolated, rfl, rfl, by omega⟩
  | 1 => .inl ⟨.near, rfl, rfl, by omega⟩
  | 2 => .inl ⟨.shared, rfl, rfl, by omega⟩
  | n + 3 => .inr ⟨rfl, by omega⟩

/-- Both halves of a coupling are set, every other entry stays (R13). -/
theorem coupleBoth_read (a b : Fin 16) (v : Coupling) (m : Table (Table Coupling 16) 16) (i j : Fin 16) :
    ((coupleBoth a b v m).read i).read j =
      if (i = a ∧ j = b) ∨ (i = b ∧ j = a) then v else (m.read i).read j := by
  unfold coupleBoth
  by_cases hb : b = i <;> by_cases ha : a = i <;> by_cases ja : a = j <;> by_cases jb : b = j <;>
    simp_all [Table.read_change, Table.read_write, eq_comm]

/-- A plan write that tightens exactly under a condition. -/
theorem writePlan_decide (plan : Plan) (c : Prop) [Decidable c] (s : State) :
    writePlan plan (decide c) s = if c then advanceEpoch (writePlan plan false s) else writePlan plan false s := by
  rw [writePlan_eq]
  simp

/-- WRITE COUPLING with its checks passed (R13). -/
theorem execWriteCoupling_of_valid (a b value : Byte) (s : State) (ha : a.toNat < 16) (hb : b.toNat < 16)
    (hab : a ≠ b) (v : Coupling) (hv : couplingOfCode value.toNat = some v) :
    execWriteCoupling a b value s = .next (respond .ok [] (startRefill
      (writePlan { s.plan with coupling := coupleBoth ⟨a.toNat, ha⟩ ⟨b.toNat, hb⟩ v s.plan.coupling }
        (decide ((couplingOf s ⟨a.toNat, ha⟩ ⟨b.toNat, hb⟩).rank < v.rank)) s))) := by
  have hne : (⟨a.toNat, ha⟩ : Fin 16) ≠ ⟨b.toNat, hb⟩ := fun h => hab (BitVec.eq_of_toNat_eq (by simpa using h))
  unfold execWriteCoupling
  simp only [numberBelow_of_lt ha, numberBelow_of_lt hb, hv, if_neg hne]

/-- WRITE COUPLING with a check failed (R13). -/
theorem execWriteCoupling_of_invalid (a b value : Byte) (s : State)
    (h : ¬(a.toNat < 16 ∧ b.toNat < 16 ∧ a ≠ b ∧ value.toNat < 3)) :
    execWriteCoupling a b value s = deny .range s := by
  unfold execWriteCoupling
  split
  · rename_i x y v hx hy hv
    have bound : ∀ {n : Byte} {k : Fin 16}, numberBelow 16 n.toNat = some k → n.toNat < 16 ∧ k.val = n.toNat := by
      intro n k hk
      unfold numberBelow at hk
      split at hk
      · cases hk; exact ⟨‹_›, rfl⟩
      · cases hk
    obtain ⟨ha, hxa⟩ := bound hx
    obtain ⟨hb, hyb⟩ := bound hy
    rcases couplingOfCode_cases value.toNat with ⟨_, _, _, hlt⟩ | ⟨hn, _⟩
    · have hab : a = b := by_contra fun hne => h ⟨ha, hb, hne, hlt⟩
      rw [if_pos (Fin.ext (by rw [hxa, hyb, hab]))]
    · rw [hn] at hv; cases hv
  · rfl

/-- WRITE GUARDS (R18). -/
theorem execWriteGuards_eq (g fg : Byte) (s : State) :
    execWriteGuards g fg s = .next
      (if g.toNat ≤ 40 ∧ fg.toNat ≤ 40 then
        respond .ok [] (startRefill
          (if s.plan.g < g.toNat ∨ s.plan.fg < fg.toNat then
            advanceEpoch (writePlan { s.plan with g := g.toNat, fg := fg.toNat } false s)
          else writePlan { s.plan with g := g.toNat, fg := fg.toNat } false s))
      else respond .range [] s) := by
  have limit : Config.guardLimit = 40 := rfl
  unfold execWriteGuards
  rw [← Bool.decide_or, writePlan_decide, limit]
  split <;> rfl

/-- Settles O12: the checks, both halves at once, and the epoch by the comparison of ranks and of guards. -/
theorem couplingAndGuardWrites : Obligations.CouplingAndGuardWrites := by
  refine ⟨fun a b value s => ?_, fun g fg s => ?_⟩
  · by_cases h : a.toNat < 16 ∧ b.toNat < 16 ∧ a ≠ b ∧ value.toNat < 3
    · obtain ⟨ha, hb, hab, hval⟩ := h
      rcases couplingOfCode_cases value.toNat with ⟨v, hv, hr, _⟩ | ⟨_, hge⟩
      · refine ⟨_, execWriteCoupling_of_valid a b value s ha hb hab v hv, ?_⟩
        rw [dif_pos ⟨ha, hb, hab, hval⟩]
        refine ⟨v, coupleBoth ⟨a.toNat, ha⟩ ⟨b.toNat, hb⟩ v s.plan.coupling, hr,
          coupleBoth_read _ _ _ _, ?_⟩
        rw [writePlan_decide]
        rfl
      · omega
    · refine ⟨respond .range [] s, execWriteCoupling_of_invalid a b value s h, ?_⟩
      rw [dif_neg h]
  · exact execWriteGuards_eq g fg s

/-! ### Exclusion bands (R14 to R16) -/

/-- List order as a relation (R14). -/
theorem bandBefore_iff (x y : Band) : bandBefore x y = true ↔ x.lo < y.lo ∨ (x.lo = y.lo ∧ x.hi < y.hi) := by
  simp [bandBefore]

/-- Of two different bands one stands before the other (R14). -/
theorem bandBefore_total {x y : Band} (h : x ≠ y) (hxy : bandBefore x y = false) : bandBefore y x = true := by
  rw [← Bool.not_eq_true, bandBefore_iff] at hxy
  rw [bandBefore_iff]
  have : ¬(x.lo = y.lo ∧ x.hi = y.hi) := fun ⟨h1, h2⟩ => h (by cases x; cases y; simp_all)
  omega

/-- List order is transitive (R14). -/
theorem bandBefore_trans {x y z : Band} (hxy : bandBefore x y = true) (hyz : bandBefore y z = true) :
    bandBefore x z = true := by
  rw [bandBefore_iff] at *
  omega

/-- A band inserted into an ordered list that does not hold it keeps the order (R15). -/
theorem insertBand_order {b : Band} {l : List Band} (ho : l.Pairwise fun x y => bandBefore x y = true) (hb : b ∉ l) :
    (insertBand b l).Pairwise fun x y => bandBefore x y = true := by
  induction l with
  | nil => simp [insertBand]
  | cons a l ih =>
    rw [List.pairwise_cons] at ho
    obtain ⟨ha, hl⟩ := ho
    simp only [List.mem_cons, not_or] at hb
    obtain ⟨hba, hbl⟩ := hb
    cases hab : bandBefore a b with
    | true =>
      have : insertBand b (a :: l) = a :: insertBand b l := by simp [insertBand, hab]
      rw [this, List.pairwise_cons]
      refine ⟨fun x hx => ?_, ih hl hbl⟩
      rcases List.mem_cons.1 ((insertBand_perm b l).mem_iff.1 hx) with rfl | hx
      · exact hab
      · exact ha x hx
    | false =>
      have : insertBand b (a :: l) = b :: a :: l := by simp [insertBand, hab]
      have hba' := bandBefore_total (Ne.symm hba) hab
      rw [this, List.pairwise_cons, List.pairwise_cons]
      refine ⟨fun x hx => ?_, ha, hl⟩
      rcases List.mem_cons.1 hx with rfl | hx
      · exact hba'
      · exact bandBefore_trans hba' (ha x hx)

/-- ADD EXCLUSION (R15). -/
theorem execAddExclusion_eq (lo hi : Word) (s : State) :
    execAddExclusion lo hi s = .next
      (if lo.toNat ≤ hi.toNat ∧ hi.toNat < 9120 then
        if { lo := lo.toNat, hi := hi.toNat } ∈ s.plan.exclusions then respond .duplicate [] s
        else if 32 ≤ s.plan.exclusions.length then respond .full [] s
        else
          respond .ok [] (startRefill (advanceEpoch (writePlan
            { s.plan with exclusions := insertBand { lo := lo.toNat, hi := hi.toNat } s.plan.exclusions } false s)))
      else respond .range [] s) := by
  have capacity : Config.bandCapacity = 32 := rfl
  unfold execAddExclusion
  simp only [← edgesValid_iff, List.contains_iff_mem, capacity]
  cases edgesValid lo.toNat hi.toNat
  · rfl
  · simp only [Bool.not_true, Bool.false_eq_true, if_false, if_true]
    split_ifs <;> rfl

/-- REMOVE EXCLUSION (R16). -/
theorem execRemoveExclusion_eq (lo hi : Word) (s : State) :
    execRemoveExclusion lo hi s = .next
      (if lo.toNat ≤ hi.toNat ∧ hi.toNat < 9120 then
        if { lo := lo.toNat, hi := hi.toNat } ∈ s.plan.exclusions then
          respond .ok [] (startRefill (writePlan
            { s.plan with exclusions := s.plan.exclusions.erase { lo := lo.toNat, hi := hi.toNat } } false s))
        else respond .unknown [] s
      else respond .range [] s) := by
  unfold execRemoveExclusion
  simp only [← edgesValid_iff, ← List.contains_iff_mem]
  cases edgesValid lo.toNat hi.toNat
  · rfl
  · cases s.plan.exclusions.contains { lo := lo.toNat, hi := hi.toNat } <;> rfl

/-- Settles O13: an added band is inserted in its place, a removed one erased. -/
theorem exclusionBandsJoinAndLeave : Obligations.ExclusionBandsJoinAndLeave := by
  refine ⟨fun lo hi s => ⟨_, execAddExclusion_eq lo hi s, ?_⟩, execRemoveExclusion_eq⟩
  split_ifs with hv hm hf
  · rfl
  · rfl
  · simp only [← bandBefore_iff]
    exact ⟨insertBand { lo := lo.toNat, hi := hi.toNat } s.plan.exclusions, fun ho => insertBand_order ho hm,
      insertBand_perm _ _, rfl⟩
  · rfl

end Sys2Proof.Machine
end

section
/-! ## Proofs: the changes that a command is made of

What a step can do, said once: every command is a chain of the elementary changes of `Change`. A change that moves no search,
owner or spare is `Quiet`; the others are named one by one with the checks that the model makes before them. An invariant that
every `Change` keeps is kept by every step (`step_keeps`). -/

namespace Sys2Proof.Machine

/-! ### Outcomes -/

/-- Every next state that an outcome answers has the property. -/
def leadsTo (P : State → Prop) (o : Host.Outcome State Fault Refusal) : Prop := ∀ t, o = .next t → P t

/-- A next state has the property. -/
@[simp] theorem leadsTo_next {P : State → Prop} {t : State} : leadsTo P (.next t) ↔ P t :=
  ⟨fun h => h t rfl, fun h _ k => by cases k; exact h⟩

/-- A refused request. -/
@[simp] theorem leadsTo_deny {P : State → Prop} {x : Status} {s : State} : leadsTo P (deny x s) ↔ P (respond x [] s) :=
  leadsTo_next

/-- A request carried out. -/
@[simp] theorem leadsTo_accept {P : State → Prop} {data : List Byte} {s : State} :
    leadsTo P (accept data s) ↔ P (respond .ok data s) :=
  leadsTo_next

/-! ### Station records that stay -/

/-- A notice queue within its limit, with no two notices of one key (R168, R169). -/
def noticesSound (l : List QueuedNotice) : Prop :=
  l.length ≤ 8 ∧ l.Pairwise fun x y => sameKey x.notice y.notice = false

/-- A present record changed in its dynamic fields alone, its notices and failures within their limits (R165). -/
structure Station.Kept (st st' : Station) : Prop where
  branch : st'.branch = st.branch := by rfl
  address : st'.address = st.address := by rfl
  zone : st'.zone = st.zone := by rfl
  ceiling : st'.ceiling = st.ceiling := by rfl
  notices : noticesSound st.notices → noticesSound st'.notices := by exact id
  failures : st.failures ≤ 4 → st'.failures ≤ 4 := by exact id

/-- A present record that keeps its held count and its open-request flag as well (R36, R67). -/
structure Station.Still (st st' : Station) : Prop extends Station.Kept st st' where
  held : st'.held = st.held := by rfl
  openRequest : st'.openRequest = st.openRequest := by rfl

theorem Station.Kept.refl (st : Station) : st.Kept st := {}

theorem Station.Kept.trans {a b c : Station} (h : a.Kept b) (k : b.Kept c) : a.Kept c where
  branch := k.branch.trans h.branch
  address := k.address.trans h.address
  zone := k.zone.trans h.zone
  ceiling := k.ceiling.trans h.ceiling
  notices := k.notices ∘ h.notices
  failures := k.failures ∘ h.failures

theorem Station.Still.refl (st : Station) : st.Still st := {}

theorem Station.Still.trans {a b c : Station} (h : a.Still b) (k : b.Still c) : a.Still c where
  toKept := h.toKept.trans k.toKept
  held := k.held.trans h.held
  openRequest := k.openRequest.trans h.openRequest

/-- No record is written or removed, and every present one is kept. -/
def StationsKept (s t : State) : Prop := ∀ r, Option.Rel Station.Kept (s.stations.read r) (t.stations.read r)

/-- No record is written or removed, and every present one is still. -/
def StationsStill (s t : State) : Prop := ∀ r, Option.Rel Station.Still (s.stations.read r) (t.stations.read r)

/-- A relation of records that holds of a record and itself holds of a table and itself. -/
theorem optionRel_refl {α : Type} {R : α → α → Prop} (h : ∀ a, R a a) (x : Option α) : Option.Rel R x x := by
  cases x with
  | none => exact .none
  | some a => exact .some (h a)

theorem optionRel_trans {α : Type} {R : α → α → Prop} (h : ∀ a b c, R a b → R b c → R a c) {x y z : Option α}
    (hxy : Option.Rel R x y) (hyz : Option.Rel R y z) : Option.Rel R x z := by
  cases hxy with
  | none => exact hyz
  | some hab =>
    cases hyz with
    | some hbc => exact .some (h _ _ _ hab hbc)

theorem optionRel_mono {α : Type} {R S : α → α → Prop} (h : ∀ {a b}, R a b → S a b) {x y : Option α}
    (hxy : Option.Rel R x y) : Option.Rel S x y := by
  cases hxy with
  | none => exact .none
  | some hab => exact .some (h hab)

/-- A record changed by a function that keeps it. -/
theorem optionRel_map {α : Type} {R : α → α → Prop} {f : α → α} (h : ∀ a, R a (f a)) (x : Option α) :
    Option.Rel R x (x.map f) := by
  cases x with
  | none => exact .none
  | some a => exact .some (h a)

theorem StationsKept.refl (s : State) : StationsKept s s := fun _ => optionRel_refl Station.Kept.refl _

theorem StationsKept.trans {s t u : State} (h : StationsKept s t) (k : StationsKept t u) : StationsKept s u :=
  fun r => optionRel_trans (R := Station.Kept) (fun _ _ _ => Station.Kept.trans) (h r) (k r)

theorem StationsStill.trans {s t u : State} (h : StationsStill s t) (k : StationsStill t u) : StationsStill s u :=
  fun r => optionRel_trans (R := Station.Still) (fun _ _ _ => Station.Still.trans) (h r) (k r)

theorem StationsStill.kept {s t : State} (h : StationsStill s t) : StationsKept s t :=
  fun r => optionRel_mono Station.Still.toKept (h r)

/-- Station tables that are equal are still. -/
theorem stationsStill_of_eq {s t : State} (h : t.stations = s.stations) : StationsStill s t :=
  fun _ => h ▸ optionRel_refl Station.Still.refl _

/-- A change of one station record that keeps it. -/
theorem stationsKept_change {s t : State} {r : Fin 48} {f : Station → Station} (hf : ∀ st : Station, st.Kept (f st))
    (h : t.stations = s.stations.change r (Option.map f)) : StationsKept s t := by
  intro q
  rw [h, Table.read_change]
  split
  · exact optionRel_map hf _
  · exact optionRel_refl Station.Kept.refl _

/-- A change of one station record that leaves it still. -/
theorem stationsStill_change {s t : State} {r : Fin 48} {f : Station → Station} (hf : ∀ st : Station, st.Still (f st))
    (h : t.stations = s.stations.change r (Option.map f)) : StationsStill s t := by
  intro q
  rw [h, Table.read_change]
  split
  · exact optionRel_map hf _
  · exact optionRel_refl Station.Still.refl _

/-- A change of every station record that leaves each still. -/
theorem stationsStill_each {s t : State} {f : Station → Station} (hf : ∀ st : Station, st.Still (f st))
    (h : t.stations = s.stations.each (Option.map f)) : StationsStill s t := by
  intro q
  rw [h, Table.read_each]
  exact optionRel_map hf _

/-- A record that is present after a change that keeps the records was present before it. -/
theorem StationsKept.before {s t : State} (h : StationsKept s t) {r : Fin 48} {st' : Station}
    (ht : t.stations.read r = some st') : ∃ st, s.stations.read r = some st ∧ st.Kept st' := by
  have hr := h r
  rw [ht] at hr
  generalize s.stations.read r = x at hr
  cases hr with
  | some k => exact ⟨_, rfl, k⟩

/-- A record that is present before a change that leaves the records still is present after it, and the other way round. -/
theorem StationsStill.before {s t : State} (h : StationsStill s t) {r : Fin 48} {st' : Station}
    (ht : t.stations.read r = some st') : ∃ st, s.stations.read r = some st ∧ st.Still st' := by
  have hr := h r
  rw [ht] at hr
  generalize s.stations.read r = x at hr
  cases hr with
  | some k => exact ⟨_, rfl, k⟩

theorem StationsKept.after {s t : State} (h : StationsKept s t) {r : Fin 48} {st : Station}
    (hs : s.stations.read r = some st) : ∃ st', t.stations.read r = some st' ∧ st.Kept st' := by
  have hr := h r
  rw [hs] at hr
  generalize t.stations.read r = x at hr
  cases hr with
  | some k => exact ⟨_, rfl, k⟩

theorem StationsKept.absent {s t : State} (h : StationsKept s t) {r : Fin 48} :
    t.stations.read r = none ↔ s.stations.read r = none := by
  have hr := h r
  generalize s.stations.read r = x at hr
  generalize t.stations.read r = y at hr
  cases hr with
  | none => simp
  | some _ => simp

/-! ### Notices (R168, R169) -/

/-- Two notices of one key are each of the other's key. -/
theorem sameKey_comm (a b : Notice) : sameKey a b = sameKey b a := by
  cases a <;> cases b <;> simp [sameKey, eq_comm]

/-- A notice of the key of another has that one's key against every third. -/
theorem sameKey_congr {a b : Notice} (h : sameKey a b = true) (c : Notice) : sameKey a c = sameKey b c := by
  cases a <;> cases b <;> simp [sameKey] at h <;> subst h <;> cases c <;> rfl

/-- A queue taken through a filter stays sound. -/
theorem noticesSound_filter (p : QueuedNotice → Bool) {l : List QueuedNotice} (h : noticesSound l) :
    noticesSound (l.filter p) :=
  ⟨(List.length_filter_le p l).trans h.1, h.2.filter p⟩

/-- An empty queue is sound. -/
theorem noticesSound_nil : noticesSound [] := ⟨by simp, .nil⟩

/-- A queue whose notices keep their keys stays sound. -/
theorem noticesSound_map {f : QueuedNotice → QueuedNotice} (hf : ∀ q c, sameKey (f q).notice c = sameKey q.notice c)
    {l : List QueuedNotice} (h : noticesSound l) : noticesSound (l.map f) := by
  refine ⟨by simpa using h.1, ?_⟩
  rw [List.pairwise_map]
  refine h.2.imp ?_
  intro a b hab
  rw [hf, sameKey_comm, hf, sameKey_comm]
  exact hab

/-- A notice that coalesces, overflows or joins leaves the queue sound (R169). -/
theorem noticesSound_takeNotice (n : Notice) (st : Station) (h : noticesSound st.notices) :
    noticesSound (st.takeNotice n).notices := by
  unfold Station.takeNotice
  split
  · refine noticesSound_map ?_ h
    intro q c
    split
    · exact sameKey_congr ‹_› c
    · rfl
  · rename_i hany
    split
    · exact noticesSound_nil
    · rename_i hlen
      have hlen' : st.notices.length < 8 := Nat.not_le.1 hlen
      refine ⟨by simp only [List.length_append, List.length_singleton]; omega, ?_⟩
      rw [List.pairwise_append]
      refine ⟨h.2, List.pairwise_singleton _ _, ?_⟩
      intro a ha b hb
      rw [List.mem_singleton] at hb
      subst hb
      rw [sameKey_comm]
      simpa using fun hk => hany (List.any_eq_true.2 ⟨a, ha, hk⟩)

/-! ### What the station functions keep -/

/-- A notice taken leaves the record still (R169). -/
theorem takeNotice_still (n : Notice) (st : Station) : st.Still (st.takeNotice n) where
  branch := by unfold Station.takeNotice; split_ifs <;> rfl
  address := by unfold Station.takeNotice; split_ifs <;> rfl
  zone := by unfold Station.takeNotice; split_ifs <;> rfl
  ceiling := by unfold Station.takeNotice; split_ifs <;> rfl
  notices := noticesSound_takeNotice n st
  failures := by unfold Station.takeNotice; split_ifs <;> exact id
  held := by unfold Station.takeNotice; split_ifs <;> rfl
  openRequest := by unfold Station.takeNotice; split_ifs <;> rfl

/-- A lapse leaves the record still (R101). -/
theorem lapse_still (st : Station) : st.Still st.lapse where
  notices _ := noticesSound_nil

/-- The marks of a poll formed leave the record still (R160). -/
theorem markCarried_still (st : Station) : st.Still st.markCarried where
  notices h := by
    unfold Station.markCarried
    cases hn : st.notices with
    | nil => exact noticesSound_nil
    | cons q rest =>
      rw [hn] at h
      refine ⟨by simpa using h.1, ?_⟩
      have h2 := h.2
      rw [List.pairwise_cons] at h2 ⊢
      refine ⟨fun a ha => ?_, ?_⟩
      · obtain ⟨b, hb, rfl⟩ := List.mem_map.1 ha
        exact h2.1 b hb
      · rw [List.pairwise_map]
        exact h2.2

/-- A failed poll leaves the record still (R162). -/
theorem failed_still (st : Station) : st.Still st.failed where
  failures _ := Nat.min_le_right _ _

/-- An accepted reply leaves the record still (R163, R171). -/
theorem acceptReply_still (item : PollItem) (st : Station) : st.Still (st.acceptReply item) := by
  unfold Station.acceptReply Station.removeItem
  cases item with
  | nothing => exact { failures := fun _ => by simp }
  | answer a => exact { failures := fun _ => by simp }
  | notice n => exact { failures := fun _ => by simp, notices := noticesSound_filter _ }
  | resync =>
    dsimp only
    split
    · exact { failures := fun _ => by simp }
    · exact { failures := fun _ => by simp }

/-- CLEAR keeps a present record (R165). -/
theorem fresh_kept (st : Station) : st.Kept st.fresh where
  notices _ := noticesSound_nil
  failures _ := by simp [Station.fresh]

end Sys2Proof.Machine
end

section
namespace Sys2Proof.Machine

/-! ### Slots that stay -/

/-- A slot that keeps its state, its owner and its indices, but for a pending index that may be dropped (R20, R24). -/
inductive Slot.Still : Slot → Slot → Prop
  | free : Slot.Still .free .free
  | owned {o p : Owned} (station : p.station = o.station) (channel : p.channel = o.channel)
      (profile : p.profile = o.profile) (zone : p.zone = o.zone) (frequency : p.frequency = o.frequency)
      (move : ∀ w, p.move = some w → ∃ v, o.move = some v ∧ v.pending = w.pending) : Slot.Still (.owned o) (.owned p)
  | pinned {p q : Pinned} (profile : q.profile = p.profile) (zone : q.zone = p.zone)
      (frequency : q.frequency = p.frequency) : Slot.Still (.pinned p) (.pinned q)
  | spare {r q : Spare} (profile : q.profile = r.profile) (zone : q.zone = r.zone)
      (frequency : q.frequency = r.frequency) : Slot.Still (.spare r) (.spare q)

theorem Slot.Still.refl (x : Slot) : x.Still x := by
  cases x with
  | free => exact .free
  | owned o => exact .owned rfl rfl rfl rfl rfl fun w h => ⟨w, h, rfl⟩
  | pinned p => exact .pinned rfl rfl rfl
  | spare r => exact .spare rfl rfl rfl

theorem Slot.Still.trans {x y z : Slot} (h : x.Still y) (k : y.Still z) : x.Still z := by
  cases h with
  | free => exact k
  | owned h1 h2 h3 h4 h5 h6 =>
    cases k with
    | owned k1 k2 k3 k4 k5 k6 =>
      refine .owned (k1.trans h1) (k2.trans h2) (k3.trans h3) (k4.trans h4) (k5.trans h5) fun w hw => ?_
      obtain ⟨v, hv, hvw⟩ := k6 w hw
      obtain ⟨u, hu, huv⟩ := h6 v hv
      exact ⟨u, hu, huv.trans hvw⟩
  | pinned h1 h2 h3 =>
    cases k with
    | pinned k1 k2 k3 => exact .pinned (k1.trans h1) (k2.trans h2) (k3.trans h3)
  | spare h1 h2 h3 =>
    cases k with
    | spare k1 k2 k3 => exact .spare (k1.trans h1) (k2.trans h2) (k3.trans h3)

/-- A suspect field set or cleared leaves the slot still (R38). -/
theorem withSuspect_still (source : Option Nat) (x : Slot) : x.Still (x.withSuspect source) := by
  cases x with
  | free => exact .free
  | owned o => exact .owned rfl rfl rfl rfl rfl fun w h => ⟨w, h, rfl⟩
  | pinned p => exact .pinned rfl rfl rfl
  | spare r => exact .spare rfl rfl rfl

/-- A conflict field set or cleared leaves the slot still (R39). -/
theorem withConflict_still (mark : Bool) (x : Slot) : x.Still (x.withConflict mark) := by
  cases x with
  | free => exact .free
  | owned o => exact .owned rfl rfl rfl rfl rfl fun w h => ⟨w, h, rfl⟩
  | pinned p => exact .pinned rfl rfl rfl
  | spare r => exact .spare rfl rfl rfl

/-- Changed counters leave the slot still (R96). -/
theorem eachCounter_still (f : TickCounter → TickCounter) (x : Slot) : x.Still (x.eachCounter f) := by
  cases x with
  | free => exact .free
  | owned o =>
    refine .owned rfl rfl rfl rfl rfl fun w h => ?_
    obtain ⟨v, hv, rfl⟩ := Option.map_eq_some_iff.1 h
    exact ⟨v, hv, rfl⟩
  | pinned p => exact .pinned rfl rfl rfl
  | spare r => exact .spare rfl rfl rfl

/-- A lapse leaves the slot still (R101). -/
theorem slotLapse_still (r : Fin 48) (hold : Option TickCounter) (x : Slot) : x.Still (x.lapse r hold) := by
  cases x with
  | free => exact .free
  | owned o =>
    unfold Slot.lapse
    dsimp only
    split <;> exact .owned rfl rfl rfl rfl rfl fun w h => ⟨w, h, rfl⟩
  | pinned p => exact .pinned rfl rfl rfl
  | spare r => exact .spare rfl rfl rfl

/-- A return leaves the slot still (R102). -/
theorem comeBack_still (r : Fin 48) (x : Slot) : x.Still (x.comeBack r) := by
  cases x with
  | free => exact .free
  | owned o =>
    unfold Slot.comeBack
    dsimp only
    split <;> exact .owned rfl rfl rfl rfl rfl fun w h => ⟨w, h, rfl⟩
  | pinned p => exact .pinned rfl rfl rfl
  | spare r => exact .spare rfl rfl rfl

/-- A changeover leaves the slot still (R118). -/
theorem turn_still (z : Fin 16) (x : Slot) : x.Still (x.turn z) := by
  cases x with
  | free => exact .free
  | owned o =>
    unfold Slot.turn
    dsimp only
    split <;> exact .owned rfl rfl rfl rfl rfl fun w h => ⟨w, h, rfl⟩
  | pinned p => exact .pinned rfl rfl rfl
  | spare r => exact .spare rfl rfl rfl

/-- A tick taken at the hold counter leaves the slot still (R103). -/
theorem holdDown_still (x : Slot) : x.Still x.holdDown := by
  cases x with
  | free => exact .free
  | owned o =>
    unfold Slot.holdDown
    dsimp only
    split <;> exact .owned rfl rfl rfl rfl rfl fun w h => ⟨w, h, rfl⟩
  | pinned p => exact .pinned rfl rfl rfl
  | spare r => exact .spare rfl rfl rfl

/-- A tick taken at the move counter leaves the slot still (R113). -/
theorem moveDown_still (x : Slot) : x.Still x.moveDown := by
  cases x with
  | free => exact .free
  | owned o =>
    refine .owned rfl rfl rfl rfl rfl fun w h => ?_
    obtain ⟨v, hv, rfl⟩ := Option.map_eq_some_iff.1 h
    exact ⟨v, hv, rfl⟩
  | pinned p => exact .pinned rfl rfl rfl
  | spare r => exact .spare rfl rfl rfl

/-- A dropped pending index leaves the slot still (R24). -/
theorem dropMove_still (x : Slot) : x.Still x.dropMove := by
  cases x with
  | free => exact .free
  | owned o => exact .owned rfl rfl rfl rfl rfl fun w h => by cases h
  | pinned p => exact .pinned rfl rfl rfl
  | spare r => exact .spare rfl rfl rfl

/-! ### Settings that stay -/

/-- Where the settings, the queue and DEFER are as before and the station records are kept, the settings stay sound. -/
theorem SettingsSound.of_same {s t : State} (h : SettingsSound s) (stations : StationsKept s t)
    (branches : ∀ b, (s.branches.read b).inRange → (t.branches.read b).inRange)
    (timing : t.timing = s.timing := by rfl) (upper : t.engine.upper = s.engine.upper := by rfl)
    (lower : t.engine.lower = s.engine.lower := by rfl) (defer : t.engine.defer = s.engine.defer := by rfl)
    (queue : t.engine.queue = s.engine.queue := by rfl) (config : t.sweep.config = s.sweep.config := by rfl) :
    SettingsSound t where
  lease := timing ▸ h.lease
  hold := timing ▸ h.hold
  moveTime := timing ▸ h.moveTime
  thresholds := by rw [upper, lower]; exact h.thresholds
  deferOn := by rw [defer, lower, queue]; exact h.deferOn
  deferOff := by rw [defer, upper, queue]; exact h.deferOff
  stations r st' ht := by
    obtain ⟨st, hs, k⟩ := stations.before ht
    rw [k.address, k.ceiling]
    exact h.stations r st hs
  sweep := config ▸ h.sweep
  branches b := branches b (h.branches b)

/-! ### Quiet changes -/

/-- A change that leaves alone what searches, owners and spares rest on: the plan, the epoch, the work of the engine, the
owners and the indices of the slots, the station records, the spare lists, and whom a branch polls; a CONFIRMED foreign
carrier may go, none comes; and what it changes of the settings stays in range. -/
structure Quiet (s t : State) : Prop where
  plan : t.plan = s.plan := by rfl
  epoch : t.epoch = s.epoch := by rfl
  queue : t.engine.queue = s.engine.queue := by rfl
  foreground : t.engine.foreground = s.engine.foreground := by rfl
  background : t.engine.background = s.engine.background := by rfl
  openRequest : t.console.openRequest = s.console.openRequest := by rfl
  slots : ∀ i, (s.slots.read i).Still (t.slots.read i) := by exact fun _ => Slot.Still.refl _
  stations : StationsStill s t := by exact stationsStill_of_eq rfl
  spares : ∀ z, (t.zones.read z).spares = (s.zones.read z).spares := by exact fun _ => rfl
  polled : ∀ b r, (t.branches.read b).activity.polled? = some r →
    (s.branches.read b).activity.polled? = some r := by exact fun _ _ h => h
  foreign : ∀ e ∈ t.sweep.foreign, e.confirmed = true →
    ∃ e' ∈ s.sweep.foreign, e'.confirmed = true ∧ e'.index = e.index := by exact fun e h k => ⟨e, h, k, rfl⟩
  room : s.sweep.foreign.length ≤ 32 → t.sweep.foreign.length ≤ 32 := by exact id
  settings : SettingsSound s → SettingsSound t := by
    exact fun h => SettingsSound.of_same h (stationsStill_of_eq rfl).kept (fun _ => id)

section

variable {s t u : State}

theorem Quiet.refl (s : State) : Quiet s s := {}

theorem Quiet.trans (h : Quiet s t) (k : Quiet t u) : Quiet s u where
  plan := k.plan.trans h.plan
  epoch := k.epoch.trans h.epoch
  queue := k.queue.trans h.queue
  foreground := k.foreground.trans h.foreground
  background := k.background.trans h.background
  openRequest := k.openRequest.trans h.openRequest
  slots i := (h.slots i).trans (k.slots i)
  stations := h.stations.trans k.stations
  spares z := (k.spares z).trans (h.spares z)
  polled b r q := h.polled b r (k.polled b r q)
  foreign e he hc := by
    obtain ⟨e', he', hc', hi⟩ := k.foreign e he hc
    obtain ⟨e'', he'', hc'', hi'⟩ := h.foreign e' he' hc'
    exact ⟨e'', he'', hc'', hi'.trans hi⟩
  room := k.room ∘ h.room
  settings := k.settings ∘ h.settings

/-- A fold of quiet changes is quiet. -/
theorem quiet_foldl {α : Type} {f : State → α → State} (h : ∀ t a, Quiet t (f t a)) (l : List α) (s : State) :
    Quiet s (l.foldl f s) :=
  foldl_ind (Quiet s) f (fun t a k => k.trans (h t a)) l s (Quiet.refl s)

/-! #### Of the basic updates -/

theorem quiet_setSlot {i : Fin 384} {x : Slot} (h : (s.slots.read i).Still x) : Quiet s (setSlot i x s) where
  slots j := by
    rw [setSlot_slots, Table.read_write]
    split
    · rename_i hij
      exact hij ▸ h
    · exact Slot.Still.refl _

theorem quiet_eachSlot {f : Slot → Slot} (h : ∀ x : Slot, x.Still (f x)) : Quiet s { s with slots := s.slots.each f } where
  slots j := by
    rw [Table.read_each]
    exact h _

theorem quiet_changeStation {r : Fin 48} {f : Station → Station} (h : ∀ st : Station, st.Still (f st)) :
    Quiet s (changeStation r f s) where
  stations := stationsStill_change h rfl
  settings k := k.of_same (stationsStill_change h rfl).kept fun _ => id

theorem quiet_eachStation {f : Station → Station} (h : ∀ st : Station, st.Still (f st)) :
    Quiet s { s with stations := s.stations.each (Option.map f) } where
  stations := stationsStill_each h rfl
  settings k := k.of_same (stationsStill_each h rfl).kept fun _ => id

/-- A branch changed so that it polls no other station than before, with its settings in range. -/
theorem quiet_changeBranch {b : Fin 4} {f : Branch → Branch}
    (hp : ∀ r, (f (s.branches.read b)).activity.polled? = some r → (s.branches.read b).activity.polled? = some r)
    (hr : ∀ br : Branch, br.inRange → (f br).inRange := by exact fun _ h => h) : Quiet s (changeBranch b f s) where
  polled c r h := by
    rw [changeBranch_branches, Table.read_change] at h
    split at h
    · rename_i hbc
      subst hbc
      exact hp r h
    · exact h
  settings k := k.of_same (stationsStill_of_eq rfl).kept fun c hc => by
    rw [changeBranch_branches, Table.read_change]
    split
    · exact hr _ hc
    · exact hc

theorem quiet_changeZone {z : Fin 16} {f : ZoneState → ZoneState} (h : ∀ zs, (f zs).spares = zs.spares) :
    Quiet s (changeZone z f s) where
  spares y := by
    rw [changeZone_zones, Table.read_change]
    split
    · exact h _
    · rfl

theorem quiet_respond (x : Status) (data : List Byte) (s : State) : Quiet s (respond x data s) := {}

theorem quiet_raise (a : Attention) (s : State) : Quiet s (raise a s) := {}

theorem quiet_emptyBarred (s : State) : Quiet s (emptyBarred s) := {}

theorem quiet_showFree (s : State) : Quiet s (showFree s) := {}

theorem quiet_setMode (m : Mode) (s : State) : Quiet s (setMode m s) := {}

theorem quiet_clearFlags (s : State) : Quiet s (clearFlags s) := {}

theorem quiet_beginPoint (index : Nat) (s : State) : Quiet s (beginPoint index s) := {}

/-- A foreign list that holds no new CONFIRMED index and no more entries than there is room for. -/
theorem quiet_setForeign {l : List ForeignEntry}
    (hc : ∀ e ∈ l, e.confirmed = true → ∃ e' ∈ s.sweep.foreign, e'.confirmed = true ∧ e'.index = e.index)
    (hl : s.sweep.foreign.length ≤ 32 → l.length ≤ 32) : Quiet s (setForeign l s) where
  foreign := hc
  room := hl

/-! #### Of answers, notices and records -/

theorem quiet_giveAnswer (r : Fin 48) (a : Answer) (s : State) : Quiet s (giveAnswer r a s) :=
  quiet_changeStation fun _ => {}

theorem quiet_refuse (r : Fin 48) (ch : Fin 64) (why : RefuseReason) (s : State) : Quiet s (refuse r ch why s) :=
  quiet_giveAnswer _ _ _

theorem quiet_giveNotice (r : Fin 48) (n : Notice) (s : State) : Quiet s (giveNotice r n s) :=
  quiet_changeStation (takeNotice_still n)

theorem quiet_withdrawAdvice (r : Fin 48) (ch : Fin 64) (s : State) : Quiet s (withdrawAdvice r ch s) :=
  quiet_changeStation fun _ => { notices := noticesSound_filter _ }

theorem quiet_steadyIfDone (z : Fin 16) (s : State) : Quiet s (steadyIfDone z s) := by
  unfold steadyIfDone
  split
  · exact quiet_changeZone fun _ => rfl
  · exact .refl s

/-! #### Of the Lease Timer (chapter 5) -/

theorem quiet_issueTick (s : State) : Quiet s (issueTick s) := by
  have owe (st : Station) : st.Still (if leaseReached s.branches st then { st with lease := st.lease.owe } else st) := by
    split
    · exact {}
    · exact .refl st
  exact
    { slots := fun i => by
        rw [show (issueTick s).slots = s.slots.each (Slot.eachCounter TickCounter.owe) from rfl, Table.read_each]
        exact eachCounter_still _ _
      stations := stationsStill_each owe rfl
      spares := fun z => by
        rw [show (issueTick s).zones = s.zones.each fun z => { z with clearing := z.clearing.map TickCounter.owe } from rfl,
          Table.read_each]
      settings := fun h => h.of_same (stationsStill_each owe rfl).kept fun _ => id }

theorem quiet_stopTick (s : State) : Quiet s (stopTick s) := by
  have settle (st : Station) : st.Still { st with lease := st.lease.settle } := {}
  exact
    { slots := fun i => by
        rw [show (stopTick s).slots = s.slots.each (Slot.eachCounter TickCounter.settle) from rfl, Table.read_each]
        exact eachCounter_still _ _
      stations := stationsStill_each settle rfl
      spares := fun z => by
        rw [show (stopTick s).zones = s.zones.each fun z => { z with clearing := z.clearing.map TickCounter.settle }
          from rfl, Table.read_each]
      settings := fun h => h.of_same (stationsStill_each settle rfl).kept fun _ => id }

theorem quiet_lapseStation (r : Fin 48) (s : State) : Quiet s (lapseStation r s) :=
  ((quiet_eachSlot (slotLapse_still r (staleHold s))).trans (quiet_changeStation lapse_still)).trans (quiet_raise _ _)

theorem quiet_tickLease (r : Fin 48) (s : State) : Quiet s (tickLease r s) := by
  unfold tickLease
  split
  · exact .refl s
  · split_ifs
    · exact .refl s
    · exact quiet_lapseStation r s
    · exact quiet_changeStation fun _ => {}
    · exact quiet_changeStation fun _ => {}

theorem quiet_takeReplyNotice (r : Fin 48) (s : State) : Quiet s (takeReplyNotice r s) := by
  unfold takeReplyNotice
  split
  · exact .refl s
  · split_ifs
    · exact .refl s
    · exact (quiet_changeStation fun _ => {}).trans (quiet_eachSlot (comeBack_still r))
    · exact quiet_changeStation fun _ => {}

theorem quiet_dropPending (i : Fin 384) (s : State) : Quiet s (dropPending i s) :=
  (quiet_setSlot (dropMove_still _)).trans (quiet_emptyBarred _)

theorem quiet_lapseMove (i : Fin 384) (s : State) : Quiet s (lapseMove i s) := by
  unfold lapseMove
  split
  · exact (quiet_dropPending i s).trans (quiet_giveNotice _ _ _)
  · exact .refl s

theorem quiet_handleQuery (r : Fin 48) (ch : Fin 64) (s : State) : Quiet s (handleQuery r ch s) := by
  unfold handleQuery
  split
  · exact quiet_refuse _ _ _ _
  · exact quiet_giveAnswer _ _ _

/-! #### Of the Zone Phase Control (chapter 6) -/

theorem quiet_announcePhases (z : Fin 16) (s : State) : Quiet s (announcePhases z s) :=
  quiet_foldl (fun _ _ => quiet_giveNotice _ _ _) _ s

theorem quiet_setClearing (z : Fin 16) (c : Option TickCounter) (s : State) :
    Quiet s (changeZone z (fun zs => { zs with clearing := c }) s) :=
  quiet_changeZone fun _ => rfl

/-! #### Of the branches (chapter 8) -/

/-- An activity that polls no station is taken up. -/
theorem quiet_setActivity {b : Fin 4} {a : Activity} (h : a.polled? = none) (s : State) : Quiet s (setActivity b a s) :=
  quiet_changeBranch fun r hr => by simp [h] at hr

theorem quiet_continueRound (b : Fin 4) (last : Nat) (s : State) : Quiet s (continueRound b last s) := by
  unfold continueRound
  split <;> exact quiet_setActivity rfl s

theorem quiet_beginRound (b : Fin 4) (s : State) : Quiet s (beginRound b s) := quiet_continueRound b 0 s

theorem quiet_countFailure (p : Poll) (s : State) : Quiet s (countFailure p s) := by
  unfold countFailure
  split
  · exact .refl s
  · exact quiet_changeStation failed_still

theorem quiet_failPoll (b : Fin 4) (p : Poll) (s : State) : Quiet s (failPoll b p s) :=
  (quiet_countFailure p s).trans (quiet_setActivity rfl _)

theorem quiet_releaseTxen (b : Fin 4) (s : State) : Quiet s (changeBranch b Branch.releaseTxen s) := by
  refine quiet_changeBranch fun r h => ?_
  unfold Branch.releaseTxen at h
  cases ha : (s.branches.read b).activity <;> simp_all [Activity.polled?]

theorem quiet_lineChanges (b : Fin 4) (level : LineLevel) (s : State) :
    Quiet s (changeBranch b (Branch.lineChanges level) s) := by
  refine quiet_changeBranch (fun r h => ?_) fun br hr => ?_
  · unfold Branch.lineChanges at h
    split_ifs at h
    · exact h
    · exact h
    · cases hs : (s.branches.read b).state <;> rw [hs] at h
      · exact h
      · cases ha : (s.branches.read b).activity <;> simp_all [Activity.polled?]
      · exact h
  · unfold Branch.lineChanges
    split_ifs
    · exact hr
    · exact hr
    · split <;> exact hr

theorem quiet_failOpenPoll (b : Fin 4) (s : State) : Quiet s (failOpenPoll b s) := by
  unfold failOpenPoll
  split
  · exact quiet_countFailure _ s
  · exact quiet_countFailure _ s
  all_goals exact .refl s

theorem quiet_faultBranch (b : Fin 4) (s : State) : Quiet s (faultBranch b s) :=
  ((quiet_failOpenPoll b s).trans (quiet_changeBranch fun _ h => by simp [Activity.polled?] at h)).trans
    (quiet_raise _ _)

theorem quiet_recoverBranch (b : Fin 4) (s : State) : Quiet s (recoverBranch b s) :=
  quiet_changeBranch fun r h => by split at h <;> simp [Activity.polled?] at h

theorem quiet_enableBranch (b : Fin 4) (s : State) : Quiet s (enableBranch b s) := by
  have running : ∀ f : Branch → Branch, (∀ br, (f br).activity = .idle) → (∀ br : Branch, br.inRange → (f br).inRange) →
      Quiet s (changeBranch b f s) := fun f hf hr =>
    quiet_changeBranch (fun r h => by simp [hf, Activity.polled?] at h) hr
  unfold enableBranch
  dsimp only
  split
  · refine (running _ ?_ ?_).trans (quiet_beginRound b _)
    · exact fun _ => rfl
    · exact fun _ h => h
  · exact running _ (fun _ => rfl) fun _ h => h

theorem quiet_disableBranch (b : Fin 4) (s : State) : Quiet s (disableBranch b s) := by
  refine (quiet_changeBranch (f := fun br =>
    { br with state := .disabled, activity := .idle, spaceRun := false, markRun := false })
    fun r h => by simp [Activity.polled?] at h).trans (quiet_eachStation fun st => ?_)
  split
  · exact {}
  · exact .refl st

theorem quiet_startBranch (b : Fin 4) (s : State) : Quiet s (startBranch b s) := by
  unfold startBranch
  split
  · exact (quiet_changeBranch (f := fun br => { br with roundCount := 0 }) fun _ h => h).trans (quiet_beginRound b _)
  · exact .refl s

/-! #### Of the Sweep Unit (chapter 7) -/

theorem quiet_nextPoint (s : State) : Quiet s (nextPoint s) := by
  unfold nextPoint
  dsimp only
  split_ifs
  · exact quiet_beginPoint _ s
  · exact quiet_beginPoint _ s
  · exact {}

theorem quiet_reevaluate (index : Nat) (s : State) : Quiet s (reevaluate index s) :=
  quiet_eachSlot fun x => by
    split
    · exact withSuspect_still _ x
    · exact .refl x

theorem quiet_dropEntry (e : ForeignEntry) (s : State) : Quiet s (dropEntry e s) := by
  have removed : Quiet s (setForeign (removeEntry e.index s.sweep.foreign) s) :=
    quiet_setForeign (fun x hx hc => ⟨x, List.mem_of_mem_filter hx, hc, rfl⟩)
      fun h => (List.length_filter_le _ _).trans h
  unfold dropEntry
  dsimp only
  split
  · exact (removed.trans (quiet_reevaluate _ _)).trans (quiet_emptyBarred _)
  · exact removed

/-- Entries changed at one index, no entry there turning CONFIRMED that was not. -/
theorem quiet_changeEntry {index : Nat} {f : ForeignEntry → ForeignEntry} {s : State}
    (h : ∀ e ∈ s.sweep.foreign, e.index = index → (f e).confirmed = true →
      ∃ e' ∈ s.sweep.foreign, e'.confirmed = true ∧ e'.index = (f e).index) :
    Quiet s (setForeign (changeEntry index f s.sweep.foreign) s) := by
  refine quiet_setForeign (fun x hx hc => ?_) fun hl => by simpa [changeEntry] using hl
  obtain ⟨e, he, rfl⟩ := List.mem_map.1 hx
  split_ifs at hc ⊢ with hi
  · exact h e he hi hc
  · exact ⟨e, he, hc, rfl⟩

theorem quiet_missEntry (e : ForeignEntry) (s : State) : Quiet s (missEntry e s) := by
  unfold missEntry
  split
  · exact quiet_dropEntry e s
  · exact quiet_changeEntry fun x hx _ hc => ⟨x, hx, hc, rfl⟩

end

end Sys2Proof.Machine
end

section
namespace Sys2Proof.Machine

/-! ### The changes -/

/-- The queue entry that a station's search comes from (R65); a refill comes from none. -/
def Job.entry (job : Job) : Option Work :=
  match job with
  | .request w => some (.request w)
  | .move w => some (.move w)
  | .refill _ => none

/-- The engine holds the search in its context (R66, R84). -/
def holdsSearch (e : Engine) (job : Job) (c : SearchContext) : Prop :=
  match job with
  | .request w => e.foreground = some (.request w c)
  | .move w => e.foreground = some (.move w c)
  | .refill z => e.background = some { zone := z, context := c }

/-- The foreground context holds the work. -/
def setForeground (f : Foreground) (s : State) : State := { s with engine := { s.engine with foreground := some f } }

/-- A context that a search of the state may go on with from the context `c`: unmoved it holds the present epoch or the one
that `c` held unmoved, and a candidate that it is ready to record passes (R73 to R76). -/
structure ContextSound (s : State) (passes : Nat → Prop) (c c' : SearchContext) : Prop where
  mark : c'.moved = false → c'.e0 = s.epoch ∨ (c.moved = false ∧ c'.e0 = c.e0)
  ready : ∀ f, c'.ready? = some f → passes f

/-- A context as a walk begins with it: unmoved, with the present epoch, and walking (R73). -/
structure ContextFresh (s : State) (c : SearchContext) : Prop where
  moved : c.moved = false
  e0 : c.e0 = s.epoch
  stage : c.stage = .walking

/-- The elementary changes of the part, each with the checks that the model makes before it. -/
inductive Change : State → State → Prop
  /-- A change of nothing that a search, an owner or a spare rests on. -/
  | quiet {s t : State} (h : Quiet s t) : Change s t
  /-- The hardware reset (R43). -/
  | reset (s : State) : Change s (resetPart s)
  /-- A profile that nothing refers to is written (R6 to R8). -/
  | profile {s : State} {p : Fin 16} {r : Profile} (unused : profileInUse s p = false)
      (range : (s.plan.profiles.read p).inRange → r.inRange) :
      Change s (writePlan { s.plan with profiles := s.plan.profiles.write p r } false s)
  /-- A zone is written and its spares settled (R10, R11). -/
  | zone {s : State} {z : Fin 16} {new : ZonePlan} (range : new.inRange)
      (defined : 0 < new.depth → (s.plan.profiles.read new.spareProfile).defined = true) :
      Change s (applySpareSettings z (s.plan.zones.read z) new
        (writePlan { s.plan with zones := s.plan.zones.write z new } (zoneTightens (s.plan.zones.read z) new) s))
  /-- A coupling is written (R13). -/
  | coupling {s : State} {x y : Fin 16} {v : Coupling} (distinct : x ≠ y) :
      Change s (writePlan { s.plan with coupling := coupleBoth x y v s.plan.coupling }
        (decide ((couplingOf s x y).rank < v.rank)) s)
  /-- A band joins the list (R15). -/
  | addBand {s : State} {b : Band} (range : b.inRange) (new : b ∉ s.plan.exclusions)
      (room : s.plan.exclusions.length < 32) :
      Change s (writePlan { s.plan with exclusions := insertBand b s.plan.exclusions } true s)
  /-- A band leaves the list (R16). -/
  | removeBand {s : State} {b : Band} :
      Change s (writePlan { s.plan with exclusions := s.plan.exclusions.erase b } false s)
  /-- The guards are written (R18). -/
  | guards {s : State} {g fg : Nat} (range : g ≤ 40 ∧ fg ≤ 40) :
      Change s (writePlan { s.plan with g := g, fg := fg } (decide (s.plan.g < g ∨ s.plan.fg < fg)) s)
  /-- A slot is retired (R35). -/
  | retire (cause : Option RetireCause) (i : Fin 384) (s : State) : Change s (retireSlot cause i s)
  /-- A pin is recorded in a FREE slot (R33). -/
  | pin {s : State} {i : Fin 384} {index : Nat} {p z : Fin 16} {label : List Byte} (free : s.slots.read i = .free) :
      Change s (recordPin i index p z label s)
  /-- The head spare of a zone is handed over to a moving slot (R25, R108). -/
  | handover {s : State} {i j : Fin 384} {o : Owned} {r : Spare} {rest : List (Fin 384)} {ticks : Nat}
      (moving : s.slots.read i = .owned o) (head : (s.zones.read o.zone).spares = j :: rest)
      (spare : s.slots.read j = .spare r) (profile : r.profile = o.profile) :
      Change s (setSlot i (openMove r.frequency ticks (.owned o)) (retireSlot none j s))
  /-- A confirmed move takes effect (R110). -/
  | confirmMove {s : State} {i : Fin 384} {o : Owned} {w : MoveWindow} (moving : s.slots.read i = .owned o)
      (window : o.move = some w) : Change s (setSlot i (confirmSlot s o w.pending) s)
  /-- Console work joins the queue (R72). -/
  | openHost {s : State} {w : Work} (host : w.hostKind?.isSome = true) (closed : s.console.openRequest = false)
      (room : queueHasRoom s = true) : Change s (openHostWork w s)
  /-- A station's REQUEST joins the queue (R70, R71). -/
  | openRequest {s : State} {w : RequestWork} {st : Station} (present : s.stations.read w.station = some st)
      (closed : st.openRequest = false) (fresh : ∀ i, (s.slots.read i).ownedBy w.station w.channel = false)
      (room : queueHasRoom s = true) : Change s (openStationWork w.station (.request w) s)
  /-- A station's MOVE joins the queue (R107, R109). -/
  | openMove {s : State} {w : MoveWork} {o : Owned} (closed : requestOpen s w.station = false)
      (slot : s.slots.read w.slot = .owned o) (station : o.station = w.station) (profile : o.profile = w.profile)
      (zone : o.zone = w.zone) (room : queueHasRoom s = true) : Change s (openStationWork w.station (.move w) s)
  /-- The front entry begins its walk (R66, R73). -/
  | take {s : State} {job : Job} {w : Work} {rest : List Work} {c : SearchContext} (free : s.engine.foreground = none)
      (front : s.engine.queue = w :: rest) (entry : job.entry = some w) (fresh : ContextFresh s c) :
      Change s (setContext job c (dequeue rest s))
  /-- The front entry ends in the event that takes it (R78, R80). -/
  | turnAway {s : State} {job : Job} {w : Work} {rest : List Work} {why : RefuseReason}
      (free : s.engine.foreground = none) (front : s.engine.queue = w :: rest) (entry : job.entry = some w) :
      Change s (closeSearch job why (dequeue rest s))
  /-- A refill begins its walk (R82). -/
  | refill {s : State} {z : Fin 16} {c : SearchContext} (empty : s.engine.background = none)
      (wants : wantsSpare s z = true) (fresh : ContextFresh s c) : Change s (setContext (.refill z) c s)
  /-- A search goes on (R74 to R77). -/
  | goOn {s : State} {job : Job} {c c' : SearchContext} (held : holdsSearch s.engine job c)
      (sound : ContextSound s (fun f => evaluateFor job f s = none) c c') : Change s (setContext job c' s)
  /-- A search ends without a record (R78, R80, R83). -/
  | close {s : State} {job : Job} {c : SearchContext} {why : RefuseReason} (held : holdsSearch s.engine job c) :
      Change s (closeSearch job why s)
  /-- A grant is recorded (R31, R79). -/
  | grant {s : State} {w : RequestWork} {c : SearchContext} {f : Nat} {i : Fin 384}
      (held : s.engine.foreground = some (.request w c)) (ready : c.ready? = some f) (free : s.slots.read i = .free) :
      Change s (answerWork w.station (.granted w.channel f false)
        (advanceEpoch (raiseHeld w.station (setSlot i (grantSlot s w f) s))))
  /-- A move target is recorded (R80). -/
  | target {s : State} {w : MoveWork} {c : SearchContext} {f : Nat} (held : s.engine.foreground = some (.move w c))
      (ready : c.ready? = some f) (moving : stillMoving s w = true) : Change s (recordMove w f s)
  /-- A spare is recorded (R32, R83). -/
  | spare {s : State} {z : Fin 16} {c : SearchContext} {f : Nat} {i : Fin 384}
      (held : s.engine.background = some { zone := z, context := c }) (ready : c.ready? = some f)
      (free : s.slots.read i = .free) :
      Change s (leaveBackground (advanceEpoch (changeZone z (fun zs => { zs with spares := zs.spares ++ [i] })
        (setSlot i (.spare { frequency := f, profile := (s.plan.zones.read z).spareProfile, zone := z, conflict := false })
          s))))
  /-- Console work at the front ends in the event that takes it (R88, R89). -/
  | finishHost {s : State} {w : Work} {rest : List Work} {kind : HostKind} {outcome : HostOutcome}
      (free : s.engine.foreground = none) (front : s.engine.queue = w :: rest) (host : w.hostKind?.isSome = true) :
      Change s (placeResult kind outcome (dequeue rest s))
  /-- A checked PIN at the front passes its first evaluation (R89). -/
  | takePin {s : State} {w : PinWork} {rest : List Work} {c : SearchContext} (free : s.engine.foreground = none)
      (front : s.engine.queue = .pin w :: rest) (sound : ContextSound s (fun _ => evaluatePin w s = none) c c)
      (e0 : c.e0 = s.epoch) : Change s (setForeground (.pin w c) (dequeue rest s))
  /-- An audit at the front begins (R90). -/
  | takeAudit {s : State} {rest : List Work} {n flagged : Nat} (free : s.engine.foreground = none)
      (front : s.engine.queue = .audit :: rest) : Change s (setForeground (.audit n flagged) (dequeue rest s))
  /-- A checked PIN goes on (R76, R89). -/
  | pinGoesOn {s : State} {w : PinWork} {c c' : SearchContext} (held : s.engine.foreground = some (.pin w c))
      (sound : ContextSound s (fun _ => evaluatePin w s = none) c c') : Change s (setForeground (.pin w c') s)
  /-- An audit goes on (R90). -/
  | auditGoesOn {s : State} {n flagged m tally : Nat} (held : s.engine.foreground = some (.audit n flagged)) :
      Change s (setForeground (.audit m tally) s)
  /-- Console work in the foreground ends (R89, R91). -/
  | closeHost {s : State} {f : Foreground} {kind : HostKind} {outcome : HostOutcome}
      (held : s.engine.foreground = some f) (host : f.hostKind?.isSome = true) :
      Change s (leaveForeground (placeResult kind outcome s))
  /-- All engine work is abandoned (R92, R93). -/
  | abandon (s : State) : Change s (abandonWork s)
  /-- The tables are emptied, with no engine work left (R178). -/
  | empty {s : State} (queue : s.engine.queue = []) (foreground : s.engine.foreground = none)
      (background : s.engine.background = none) : Change s (emptyTables s)
  /-- A station record is written (R166). -/
  | store {s : State} {r : Fin 48} {new : StationSettings} (address : 1 ≤ new.address ∧ new.address ≤ 31)
      (ceiling : 1 ≤ new.ceiling ∧ new.ceiling ≤ 64) (unlocked : stationLocked new (s.stations.read r) = false)
      (alone : addressTaken r new s = false) : Change s (storeStation r new s)
  /-- A station record is removed (R167). -/
  | remove {s : State} {r : Fin 48} {st : Station} (present : s.stations.read r = some st)
      (unused : stationInUse st = false) : Change s (orphanPolls r (setStation r none s))
  /-- A poll is formed (R160). -/
  | poll {s : State} {b : Fin 4} {r : Fin 48} {st : Station} (present : s.stations.read r = some st)
      (branch : st.branch = b) : Change s (formPoll b r st s)
  /-- A foreign carrier is CONFIRMED: the list is replaced and the epoch advances (R142, R143, R146). -/
  | confirmed {s : State} {l : List ForeignEntry} (room : s.sweep.foreign.length ≤ 32 → l.length ≤ 32) :
      Change s (advanceEpoch (setForeign l s))

/-- A chain of changes. -/
abbrev Changes : State → State → Prop := Relation.ReflTransGen Change

/-- What every change keeps, a chain of changes keeps. -/
theorem Changes.keeps {P : State → Prop} (hP : ∀ s t, Change s t → P s → P t) {s t : State} (h : Changes s t)
    (hs : P s) : P t := by
  induction h with
  | refl => exact hs
  | tail _ k ih => exact hP _ _ k ih

theorem Change.changes {s t : State} (h : Change s t) : Changes s t := .single h

theorem Quiet.changes {s t : State} (h : Quiet s t) : Changes s t := .single (.quiet h)

/-- A fold of chains of changes. -/
theorem changes_foldl {α : Type} {f : State → α → State} (h : ∀ t a, Changes t (f t a)) (l : List α) (s : State) :
    Changes s (l.foldl f s) :=
  foldl_ind (Changes s) f (fun t a k => k.trans (h t a)) l s .refl

/-! ### Slots and zones -/

theorem changes_retireSlots (cause : Option RetireCause) (is : List (Fin 384)) (s : State) :
    Changes s (retireSlots cause is s) :=
  changes_foldl (fun t i => (Change.retire cause i t).changes) is s

theorem changes_retireForced (z : Fin 16) (s : State) : Changes s (retireForced z s) :=
  (changes_retireSlots _ _ s).trans (quiet_setClearing z none _).changes

theorem changes_changeoverSteady (z : Fin 16) (forced : Nat) (s : State) :
    Changes s (changeoverSteady z forced s).1 := by
  have turned : Changes s (announcePhases z { s with slots := s.slots.each (Slot.turn z) }) :=
    ((quiet_eachSlot (turn_still z)).trans (quiet_announcePhases z _)).changes
  unfold changeoverSteady
  dsimp only
  split_ifs
  · exact turned
  · exact turned.trans (quiet_setClearing z _ _).changes
  · exact turned.trans (changes_retireSlots _ _ _)

theorem changes_changeoverZone {z : Fin 16} {force : Bool} {s t : State} {c : ChangeoverCounts}
    (h : changeoverZone z force s = some (t, c)) : Changes s t := by
  unfold changeoverZone at h
  split_ifs at h
  · have e : t = (changeoverSteady z (endingSlots z s).length (retireForced z s)).1 := by rw [Option.some.inj h]
    rw [e]
    exact (changes_retireForced z s).trans (changes_changeoverSteady _ _ _)
  · have e : t = (changeoverSteady z 0 s).1 := by rw [Option.some.inj h]
    rw [e]
    exact changes_changeoverSteady _ _ _

/-! ### Searches -/

/-- The beginning of a walk: the search ends at once, or it holds a fresh context with the cursor at the beginning (R73,
R78). -/
theorem beginWalk_cases (job : Job) (n : Nat) (s : State) :
    beginWalk job n s = closeSearch job .noneFound s ∨
      ∃ c, ContextFresh s c ∧ c.research = n ∧ c.walk.cursor = 0 ∧ beginWalk job n s = setContext job c s := by
  unfold beginWalk
  dsimp only
  split
  · exact .inl rfl
  · exact .inr ⟨_, ⟨rfl, rfl, rfl⟩, rfl, rfl, rfl⟩

/-- A search is ready to record a candidate that it has found or re-tested with no advance of the epoch since (R75). -/
theorem ready?_eq_some {c : SearchContext} {f : Nat} :
    c.ready? = some f ↔ c.moved = false ∧ (c.stage = .found f ∨ c.stage = .retested f) := by
  unfold SearchContext.ready?
  cases c.moved <;> cases c.stage <;> simp

/-- A context fresh in a state is one that a search of it may go on with. -/
theorem ContextFresh.sound {s : State} {c : SearchContext} (h : ContextFresh s c) (passes : Nat → Prop)
    (c0 : SearchContext) : ContextSound s passes c0 c where
  mark _ := .inl h.e0
  ready f hf := by simp [ready?_eq_some, h.stage] at hf

/-- With no refill held, a zone that begins none is barred quietly (R83). -/
theorem quiet_closeRefill {s : State} (h : s.engine.background = none) (z : Fin 16) (why : RefuseReason) :
    Quiet s (closeSearch (.refill z) why s) where
  background := h.symm

theorem changes_startRefillFrom (zs : List (Fin 16)) {s : State} (h : s.engine.background = none) :
    Changes s (startRefillFrom zs s) := by
  induction zs generalizing s with
  | nil => exact .refl
  | cons z rest ih =>
    unfold startRefillFrom
    split
    · rename_i wants
      rw [Bool.and_eq_true] at wants
      rcases beginWalk_cases (.refill z) 0 s with hw | ⟨c, hc, _, _, hw⟩
      · have hb : (closeSearch (.refill z) .noneFound s).engine.background = none := rfl
        simp only [hw, hb, Option.isSome_none, Bool.false_eq_true, if_false]
        exact (quiet_closeRefill h z .noneFound).changes.trans (ih hb)
      · have hb : (setContext (.refill z) c s).engine.background.isSome = true := rfl
        simp only [hw, hb, if_true]
        exact (Change.refill h wants.1 hc).changes
    · exact ih h

theorem changes_startRefill (s : State) : Changes s (startRefill s) := by
  unfold startRefill
  split
  · rename_i h
    exact changes_startRefillFrom _ ((refillAllowed_iff s).1 h).2.2.1
  · exact .refl

/-- A search that the engine is making is held in its context. -/
theorem activeSearch_held {s : State} {job : Job} {c : SearchContext} (h : activeSearch s = some (job, c)) :
    holdsSearch s.engine job c := by
  unfold activeSearch at h
  cases hf : s.engine.foreground with
  | none =>
    rw [hf] at h
    dsimp only at h
    split_ifs at h
    obtain ⟨b, hb, hj⟩ := Option.map_eq_some_iff.1 h
    cases hj
    exact hb
  | some f =>
    rw [hf] at h
    cases f with
    | request w d => cases h; exact hf
    | move w d => cases h; exact hf
    | pin w d => cases h
    | audit n k => cases h

section
variable {s : State} {job : Job} {c : SearchContext}

theorem changes_goOn (held : holdsSearch s.engine job c) {c' : SearchContext}
    (mark : c'.moved = false → c'.e0 = s.epoch ∨ (c.moved = false ∧ c'.e0 = c.e0))
    (ready : ∀ f, c'.ready? = some f → evaluateFor job f s = none) : Changes s (setContext job c' s) :=
  (Change.goOn held ⟨mark, ready⟩).changes

theorem changes_beginWalk (held : holdsSearch s.engine job c) (n : Nat) : Changes s (beginWalk job n s) := by
  rcases beginWalk_cases job n s with hw | ⟨d, hd, _, _, hw⟩ <;> rw [hw]
  · exact (Change.close held).changes
  · exact (Change.goOn held (hd.sound _ c)).changes

theorem changes_fullResearch (held : holdsSearch s.engine job c) : Changes s (fullResearch job c s) := by
  unfold fullResearch
  split
  · exact changes_beginWalk held _
  · exact (Change.close held).changes

theorem changes_evaluateNext (held : holdsSearch s.engine job c) (walking : c.stage = .walking) :
    Changes s (evaluateNext job c s) := by
  unfold evaluateNext
  split
  · exact (Change.close held).changes
  · rename_i f cursor _
    dsimp only
    split_ifs with hf
    · refine changes_goOn held (fun h => .inr ⟨h, rfl⟩) fun g hg => ?_
      have : f = g := by simpa using (ready?_eq_some.1 hg).2
      exact this ▸ Option.isNone_iff_eq_none.1 hf
    · exact (Change.close held).changes
    · refine changes_goOn held (fun h => .inr ⟨h, rfl⟩) fun g hg => ?_
      simp [ready?_eq_some, walking] at hg

theorem changes_retestSearch (held : holdsSearch s.engine job c) (f : Nat) : Changes s (retestSearch job c f s) := by
  unfold retestSearch
  split_ifs with hf
  · refine changes_goOn held (fun h => .inr ⟨h, rfl⟩) fun g hg => ?_
    have : f = g := by simpa using (ready?_eq_some.1 hg).2
    exact this ▸ Option.isNone_iff_eq_none.1 hf
  · exact changes_fullResearch held

theorem changes_recordFound (held : holdsSearch s.engine job c) {f : Nat} (ready : c.ready? = some f)
    (here : moveGone job s = false) : Changes s (recordFound job f s) := by
  cases job with
  | request w =>
    show Changes s (recordGrant w f s)
    unfold recordGrant
    split
    · exact (Change.close held).changes
    · rename_i i hi
      exact (Change.grant held ready ((lowestFree_eq_some s i).1 hi).1).changes
  | move w => exact (Change.target held ready (by simpa [moveGone] using here)).changes
  | refill z =>
    show Changes s (recordSpare z f s)
    unfold recordSpare
    split
    · exact (Change.close held).changes
    · rename_i i hi
      exact (Change.spare held ready ((lowestFree_eq_some s i).1 hi).1).changes

theorem changes_completeSearch (held : holdsSearch s.engine job c) {f : Nat} (afterRetest : Bool)
    (found : c.moved = false → c.ready? = some f) : Changes s (completeSearch job c f afterRetest s) := by
  unfold completeSearch
  split_ifs with gone unmoved
  · exact (Change.close held).changes
  · exact changes_recordFound held (found unmoved) (by simpa using gone)
  · exact changes_fullResearch held
  · refine changes_goOn held (fun _ => .inl rfl) fun g hg => ?_
    simp [ready?_eq_some] at hg
  · exact (Change.close held).changes

end

/-! ### Every context marked -/

/-- Every context of the engine is marked as moved. -/
def AllMoved (e : Engine) : Prop := ∀ c, holdsContext e c → c.moved = true

/-- An advance of the epoch marks every context (R30). -/
theorem allMoved_advanceEpoch (s : State) : AllMoved (advanceEpoch s).engine := by
  intro c held
  have foreground : (advanceEpoch s).engine.foreground = s.engine.foreground.map Foreground.marked := rfl
  rcases held with ⟨w, hw⟩ | ⟨w, hw⟩ | ⟨w, hw⟩ | ⟨z, hz⟩
  · rw [foreground] at hw
    obtain ⟨f, -, hm⟩ := Option.map_eq_some_iff.1 hw
    cases f <;> cases hm
    rfl
  · rw [foreground] at hw
    obtain ⟨f, -, hm⟩ := Option.map_eq_some_iff.1 hw
    cases f <;> cases hm
    rfl
  · rw [foreground] at hw
    obtain ⟨f, -, hm⟩ := Option.map_eq_some_iff.1 hw
    cases f <;> cases hm
    rfl
  · obtain ⟨b, -, hm⟩ := Option.map_eq_some_iff.1 hz
    cases hm
    rfl

/-- Contexts that are among marked ones are marked. -/
theorem AllMoved.sub {e e' : Engine} (h : AllMoved e) (foreground : ∀ f, e'.foreground = some f → e.foreground = some f)
    (background : ∀ b, e'.background = some b → e.background = some b) : AllMoved e' := by
  intro c held
  rcases held with ⟨w, hw⟩ | ⟨w, hw⟩ | ⟨w, hw⟩ | ⟨z, hz⟩
  · exact h c (.inl ⟨w, foreground _ hw⟩)
  · exact h c (.inr (.inl ⟨w, foreground _ hw⟩))
  · exact h c (.inr (.inr (.inl ⟨w, foreground _ hw⟩)))
  · exact h c (.inr (.inr (.inr ⟨z, background _ hz⟩)))

/-! ### The refill that may start -/

/-- A refill begun in the state: unmoved, with the present epoch, at the beginning of its first walk (R82). -/
structure RefillBegun (s : State) (b : Refill) : Prop where
  fresh : ContextFresh s b.context
  research : b.context.research = 0
  cursor : b.context.walk.cursor = 0

/-- With no refill held, the zones tried begin one, or leave none held. -/
theorem startRefillFrom_background (zs : List (Fin 16)) {s : State} (h : s.engine.background = none) :
    (startRefillFrom zs s).engine.background = none ∨
      ∃ b, (startRefillFrom zs s).engine.background = some b ∧ RefillBegun s b := by
  induction zs generalizing s with
  | nil => exact .inl h
  | cons z rest ih =>
    unfold startRefillFrom
    split
    · rcases beginWalk_cases (.refill z) 0 s with hw | ⟨c, fresh, research, cursor, hw⟩
      · have hb : (closeSearch (.refill z) .noneFound s).engine.background = none := rfl
        simp only [hw, hb, Option.isSome_none, Bool.false_eq_true, if_false]
        rcases ih hb with none | ⟨b, hb, ⟨moved, e0, stage⟩, research, cursor⟩
        · exact .inl none
        · exact .inr ⟨b, hb, ⟨moved, e0.trans (by simp), stage⟩, research, cursor⟩
      · have hb : (setContext (.refill z) c s).engine.background.isSome = true := rfl
        simp only [hw, hb, if_true]
        exact .inr ⟨_, rfl, fresh, research, cursor⟩
    · exact ih h

/-- A refill starts only while both contexts are empty (R82). -/
theorem startRefill_background (s : State) :
    (startRefill s).engine.background = s.engine.background ∨
      s.engine.foreground = none ∧ s.engine.background = none ∧
        ∃ b, (startRefill s).engine.background = some b ∧ RefillBegun s b := by
  unfold startRefill
  split
  · rename_i h
    obtain ⟨-, foreground, background, -⟩ := (refillAllowed_iff s).1 h
    rcases startRefillFrom_background (List.finRange 16) background with none | begun
    · exact .inl (none.trans background.symm)
    · exact .inr ⟨foreground, background, begun⟩
  · exact .inl rfl

end Sys2Proof.Machine
end

section
namespace Sys2Proof.Machine

/-! ### Slots read after a retirement -/

/-- A retired slot is FREE, and every other slot stays (R35). -/
theorem retireSlot_slots_read (cause : Option RetireCause) (i j : Fin 384) (s : State) :
    (retireSlot cause i s).slots.read j = if i = j then .free else s.slots.read j := by
  have freed : ∀ t : State, t.slots = s.slots.write i .free → t.slots.read j = if i = j then .free else s.slots.read j :=
    fun t h => by rw [h, Table.read_write]
  unfold retireSlot
  split
  · rename_i h
    split
    · rename_i hij
      rw [← hij, h]
    · rfl
  · exact freed _ rfl
  · exact freed _ rfl
  · dsimp only
    have hs : ∀ o : Owned, (withdrawAdvice o.station o.channel
        (giveRetired o cause (lowerHeld o.station (freeSlot i s)))).slots = s.slots.write i .free := fun o => by
      cases cause <;> rfl
    split
    · refine freed _ ?_
      unfold steadyIfDone
      split <;> exact hs _
    · exact freed _ (hs _)

/-! ### Console work of the engine -/

/-- An evaluation reads nothing of the engine (R44). -/
theorem evaluate_engine (s : State) (e : Engine) (p z : Fin 16) (lo : Option (Fin 384)) (f : Nat) :
    evaluate { s with engine := e } p z lo f = evaluate s p z lo f := rfl

/-- A checked PIN's evaluation reads nothing of the queue. -/
theorem evaluatePin_dequeue (w : PinWork) (rest : List Work) (s : State) :
    evaluatePin w (dequeue rest s) = evaluatePin w s := by
  rw [dequeue_eq]
  exact evaluate_engine s _ _ _ _ _

theorem quiet_auditSlot (i : Fin 384) (s : State) : Quiet s (auditSlot i s) := quiet_setSlot (withConflict_still _ _)

/-- With no work in the foreground, leaving it changes nothing. -/
theorem quiet_leaveForeground {s : State} (h : s.engine.foreground = none) : Quiet s (leaveForeground s) where
  foreground := h.symm

section
variable {s : State}

/-- The first evaluation of a checked PIN, the failure of which ends it (R89). -/
theorem beginPin_cases (w : PinWork) (n : Nat) (s : State) :
    (∃ f, beginPin w n s = closePin (.fail f) s) ∨
      ∃ c : SearchContext, c.moved = false ∧ c.e0 = s.epoch ∧ evaluatePin w s = none ∧
        beginPin w n s = setForeground (.pin w c) s := by
  unfold beginPin
  split
  · exact .inl ⟨_, rfl⟩
  · rename_i h
    exact .inr ⟨_, rfl, rfl, h, rfl⟩

theorem changes_closePin {w : PinWork} {c : SearchContext} (held : s.engine.foreground = some (.pin w c))
    (outcome : HostOutcome) : Changes s (closePin outcome s) :=
  (Change.closeHost held rfl).changes

theorem changes_beginPin {w : PinWork} {c : SearchContext} (held : s.engine.foreground = some (.pin w c)) (n : Nat) :
    Changes s (beginPin w n s) := by
  rcases beginPin_cases w n s with ⟨f, h⟩ | ⟨d, _, he, hp, h⟩ <;> rw [h]
  · exact changes_closePin held _
  · exact (Change.pinGoesOn held ⟨fun _ => .inl he, fun _ _ => hp⟩).changes

theorem changes_retestPin {w : PinWork} {c : SearchContext} (held : s.engine.foreground = some (.pin w c)) :
    Changes s (retestPin w c s) := by
  unfold retestPin
  split
  · exact changes_closePin held _
  · rename_i hp
    exact (Change.pinGoesOn (c' := { c with stage := .retested w.index }) held
      ⟨fun h => .inr ⟨h, rfl⟩, fun _ _ => hp⟩).changes

theorem changes_completePin {w : PinWork} {c : SearchContext} (held : s.engine.foreground = some (.pin w c))
    (afterRetest : Bool) : Changes s (completePin w c afterRetest s) := by
  unfold completePin
  split_ifs
  · unfold recordCheckedPin
    split
    · exact changes_closePin held _
    · rename_i i hi
      have marked : (recordPin i w.index w.profile w.zone w.label s).engine.foreground = some (.pin w c.marked) := by
        show s.engine.foreground.map Foreground.marked = _
        rw [held]
        rfl
      exact (Change.pin ((lowestFree_eq_some s i).1 hi).1).changes.trans (changes_closePin marked _)
  · exact changes_closePin held _
  · exact changes_beginPin held _
  · exact (Change.pinGoesOn (c' := { c with e0 := s.epoch, moved := false, stage := .retestDue w.index }) held
      ⟨fun _ => .inl rfl, fun g hg => by simp [ready?_eq_some] at hg⟩).changes

theorem changes_auditVisit {n flagged : Nat} (held : s.engine.foreground = some (.audit n flagged)) :
    Changes s (auditVisit n flagged s) := by
  unfold auditVisit
  split
  · rename_i h
    have visited := (quiet_auditSlot ⟨n, h⟩ s).changes
    have held' : (auditSlot ⟨n, h⟩ s).engine.foreground = some (.audit n flagged) := held
    dsimp only
    split
    · exact visited.trans (Change.auditGoesOn held').changes
    · refine visited.trans ?_
      have closed := (Change.closeHost (kind := .audit) (outcome := .count (auditTally ⟨n, h⟩ flagged s)) held' rfl).changes
      unfold closeAudit
      dsimp only
      split
      · exact closed
      · exact closed.trans (quiet_raise _ _).changes
  · exact .refl

/-- The front entry is taken (R66). -/
theorem changes_beginWork {w : Work} {rest : List Work} (free : s.engine.foreground = none)
    (front : s.engine.queue = w :: rest) : Changes s (beginWork w (dequeue rest s)) := by
  have epoch : (dequeue rest s).epoch = s.epoch := by simp
  have free' : (dequeue rest s).engine.foreground = none := by simpa using free
  have walk : ∀ job : Job, job.entry = some w → Changes s (beginWalk job 0 (dequeue rest s)) := by
    intro job entry
    rcases beginWalk_cases job 0 (dequeue rest s) with h | ⟨c, hc, _, _, h⟩ <;> rw [h]
    · exact (Change.turnAway free front entry).changes
    · exact (Change.take free front entry ⟨hc.moved, hc.e0.trans epoch, hc.stage⟩).changes
  cases w with
  | request r => exact walk (.request r) rfl
  | move m =>
    unfold beginWork
    dsimp only
    split
    · exact walk (.move m) rfl
    · exact (Change.turnAway free front rfl).changes
  | check k => exact (Change.finishHost free front rfl).changes
  | pin p =>
    show Changes s (beginPin p 0 (dequeue rest s))
    rcases beginPin_cases p 0 (dequeue rest s) with ⟨f, h⟩ | ⟨c, hm, he, hp, h⟩ <;> rw [h]
    · refine (Change.finishHost (kind := .pin) (outcome := .fail f) free front rfl).changes.trans ?_
      exact (quiet_leaveForeground (by simpa using free')).changes
    · rw [evaluatePin_dequeue] at hp
      rw [epoch] at he
      exact (Change.takePin free front ⟨fun _ => .inl he, fun _ _ => hp⟩ he).changes
  | audit =>
    have taken : beginWork .audit (dequeue rest s) = auditSlot 0
        (setForeground (.audit 1 (auditTally 0 0 (dequeue rest s))) (dequeue rest s)) := rfl
    rw [taken]
    exact (Change.takeAudit free front).changes.trans (quiet_auditSlot _ _).changes

theorem changes_takeWork (s : State) : Changes s (takeWork s) := by
  unfold takeWork
  split
  · rename_i h
    split
    · exact .refl
    · exact changes_beginWork (Option.isNone_iff_eq_none.1 h) ‹_›
  · exact .refl

end

/-! ### The Lease Timer's events and the station frames -/

/-- A slot found for a station and channel is owned by them (R31). -/
theorem ownedSlot_eq_some {r : Fin 48} {ch : Fin 64} {s : State} {i : Fin 384} {o : Owned}
    (h : ownedSlot r ch s = some (i, o)) : s.slots.read i = .owned o ∧ o.station = r ∧ o.channel = ch := by
  unfold ownedSlot at h
  split at h
  · cases h
  · rename_i j hj
    have owner := Table.lowestWith_some hj
    split at h
    · rename_i p hp
      cases h
      rw [hp] at owner
      simpa [Slot.ownedBy] using ⟨hp, by simpa [Slot.ownedBy] using owner⟩
    · cases h

/-- Where no slot is found, the station owns none for the channel (R31). -/
theorem ownedSlot_eq_none {r : Fin 48} {ch : Fin 64} {s : State} (h : ownedSlot r ch s = none) (i : Fin 384) :
    (s.slots.read i).ownedBy r ch = false := by
  unfold ownedSlot at h
  split at h
  · rename_i hn
    exact (Table.lowestWith_none _ _).1 hn i
  · rename_i j hj
    have owner := Table.lowestWith_some hj
    split at h
    · cases h
    · rename_i hno
      cases hr : s.slots.read j with
      | owned o => exact absurd hr (hno o)
      | free => rw [hr] at owner; cases owner
      | pinned p => rw [hr] at owner; cases owner
      | spare p => rw [hr] at owner; cases owner

theorem changes_tickHold (i : Fin 384) (s : State) : Changes s (tickHold i s) := by
  unfold tickHold
  split
  · exact .refl
  · split_ifs
    · exact .refl
    · exact (Change.retire _ i s).changes.trans (changes_startRefill _)
    · exact (quiet_setSlot (holdDown_still _)).changes

theorem changes_tickMove (i : Fin 384) (s : State) : Changes s (tickMove i s) := by
  unfold tickMove
  split
  · exact .refl
  · split_ifs
    · exact .refl
    · exact (quiet_lapseMove i s).changes.trans (changes_startRefill _)
    · exact (quiet_setSlot (moveDown_still _)).changes

theorem changes_tickClear (z : Fin 16) (s : State) : Changes s (tickClear z s) := by
  unfold tickClear
  split
  · exact .refl
  · split_ifs
    · exact .refl
    · exact ((changes_retireSlots _ _ s).trans (quiet_setClearing z none _).changes).trans (changes_startRefill _)
    · exact (quiet_setClearing z _ s).changes

theorem changes_handleRelease (r : Fin 48) (ch : Fin 64) (s : State) : Changes s (handleRelease r ch s) := by
  unfold handleRelease
  split
  · exact (quiet_refuse _ _ _ s).changes
  · exact (Change.retire _ _ s).changes.trans (quiet_giveAnswer _ _ _).changes

/-- A fitting spare heads its zone's list and is held under the profile (R108). -/
theorem fittingSpare_eq_some {s : State} {z p : Fin 16} {j : Fin 384} {r : Spare} (h : fittingSpare s z p = some (j, r)) :
    ∃ rest, (s.zones.read z).spares = j :: rest ∧ s.slots.read j = .spare r ∧ r.profile = p := by
  unfold fittingSpare at h
  split at h
  · cases h
  · rename_i k rest hl
    split at h
    · rename_i q hq
      split_ifs at h with hp
      cases h
      exact ⟨rest, hl, hq, hp⟩
    · cases h

/-- MOVE's last steps for a slot of the station's (R108, R109): `o` is the slot's record but for its move. -/
theorem changes_moveOnward {r : Fin 48} {ch : Fin 64} {i : Fin 384} {o o' : Owned} {s : State}
    (slot : s.slots.read i = .owned o') (station : o'.station = r) (profile : o'.profile = o.profile)
    (zone : o'.zone = o.zone) (closed : requestOpen s r = false) : Changes s (moveOnward r ch i o s) := by
  unfold moveOnward
  split
  · rename_i j sp hj
    obtain ⟨rest, head, spare, hp⟩ := fittingSpare_eq_some hj
    have other : (retireSlot none j s).slots.read i = .owned o' := by
      rw [retireSlot_slots_read, if_neg (fun h => by rw [h, slot] at spare; cases spare), slot]
    dsimp only
    rw [other]
    exact (Change.handover slot (zone ▸ head) spare (hp.trans profile.symm)).changes.trans (quiet_giveAnswer _ _ _).changes
  · split
    · rename_i room
      exact (Change.openMove
        (w := { station := r, channel := ch, slot := i, profile := o.profile, zone := o.zone })
        closed slot station profile zone room).changes
    · exact (quiet_refuse _ _ _ s).changes

theorem changes_handleMove (r : Fin 48) (ch : Fin 64) (s : State) : Changes s (handleMove r ch s) := by
  unfold handleMove
  split
  · exact (quiet_refuse _ _ _ s).changes
  · rename_i i o h
    obtain ⟨slot, station, _⟩ := ownedSlot_eq_some h
    split
    · exact (quiet_refuse _ _ _ s).changes
    · rename_i closed
      have closed' : requestOpen s r = false := by simpa using closed
      split
      · exact changes_moveOnward slot station rfl rfl closed'
      · split
        · have dropped : (dropPending i s).slots.read i = .owned { o with move := none } := by
            show ((s.slots.write i (s.slots.read i).dropMove).read i) = _
            rw [Table.read_write_self, slot]
            rfl
          exact (quiet_dropPending i s).changes.trans
            (changes_moveOnward dropped station rfl rfl (by simpa [requestOpen] using closed'))
        · exact (quiet_giveAnswer _ _ s).changes

theorem changes_handleConfirm (r : Fin 48) (ch : Fin 64) (s : State) : Changes s (handleConfirm r ch s) := by
  unfold handleConfirm
  split
  · exact (quiet_refuse _ _ _ s).changes
  · rename_i i o h
    obtain ⟨slot, _, _⟩ := ownedSlot_eq_some h
    split
    · exact (quiet_refuse _ _ _ s).changes
    · rename_i w window
      have moved : Changes s (withdrawAdvice r ch (emptyBarred (setSlot i (confirmSlot s o w.pending) s))) :=
        (Change.confirmMove slot window).changes.trans
          ((quiet_emptyBarred _).trans (quiet_withdrawAdvice r ch _)).changes
      dsimp only
      split
      · exact moved.trans (quiet_giveAnswer _ _ _).changes
      · exact moved.trans ((quiet_giveNotice _ _ _).trans (quiet_giveAnswer _ _ _)).changes

theorem changes_handleChangeover (r : Fin 48) (force : Bool) (s : State) : Changes s (handleChangeover r force s) := by
  unfold handleChangeover
  split
  · exact .refl
  · split
    · split
      · exact (quiet_giveAnswer _ _ s).changes
      · rename_i h
        exact (changes_changeoverZone h).trans (quiet_giveAnswer _ _ _).changes
    · exact (quiet_giveAnswer _ _ s).changes

theorem changes_intakeQueue {r : Fin 48} {st : Station} {ch : Fin 64} {s : State}
    (present : s.stations.read r = some st) (closed : st.openRequest = false) (none : ownedSlot r ch s = none)
    (p : Fin 16) (phase : Option Phase) (hint : Option Nat) (label : List Byte) :
    Changes s (intakeQueue r st ch p phase hint label s) := by
  unfold intakeQueue
  split
  · split_ifs with _ _ _ _ room
    · exact (quiet_refuse _ _ _ s).changes
    · exact (quiet_refuse _ _ _ s).changes
    · exact (quiet_refuse _ _ _ s).changes
    · exact (quiet_refuse _ _ _ s).changes
    · exact (quiet_refuse _ _ _ s).changes
    · exact (Change.openRequest
        (w := { station := r, channel := ch, profile := p, phase := _, hint := hint, label := label })
        present closed (ownedSlot_eq_none none) (by simpa using room)).changes
  · exact (quiet_refuse _ _ _ s).changes

theorem changes_handleRequest (r : Fin 48) (profile phase : Byte) (hint : Option Nat) (label : List Byte) (ch : Fin 64)
    (s : State) : Changes s (handleRequest r profile phase hint label ch s) := by
  unfold handleRequest
  split
  · exact .refl
  · rename_i st present
    split
    · exact (quiet_refuse _ _ _ s).changes
    · split_ifs with _ closed
      · exact (quiet_refuse _ _ _ s).changes
      · exact (quiet_refuse _ _ _ s).changes
      · split
        · split
          · exact (quiet_giveAnswer _ _ s).changes
          · exact (quiet_refuse _ _ _ s).changes
        · rename_i none
          exact changes_intakeQueue present (by simpa using closed) none _ _ _ _

theorem changes_withChannel {handle : Fin 64 → State → State} (h : ∀ c s, Changes s (handle c s)) (r : Fin 48)
    (ch : Byte) (s : State) : Changes s (withChannel r ch handle s) := by
  unfold withChannel
  split
  · exact h _ s
  · exact (quiet_giveAnswer _ _ s).changes

theorem changes_routeFrame (r : Fin 48) (f : Frame) (s : State) : Changes s (routeFrame r f s) := by
  cases f with
  | idle => exact .refl
  | request ch pr ph hint label => exact changes_withChannel (changes_handleRequest r pr ph hint label) r ch s
  | release ch => exact changes_withChannel (changes_handleRelease r) r ch s
  | move ch => exact changes_withChannel (changes_handleMove r) r ch s
  | confirm ch => exact changes_withChannel (changes_handleConfirm r) r ch s
  | query ch => exact changes_withChannel (fun c t => (quiet_handleQuery r c t).changes) r ch s
  | changeover force => exact changes_handleChangeover r force s

theorem changes_acceptPoll (b : Fin 4) (p : Poll) (f : Frame) (s : State) : Changes s (acceptPoll b p f s) := by
  unfold acceptPoll
  split
  · exact (quiet_setActivity rfl s).changes
  · have accepted := quiet_changeStation (s := s) (r := p.station) (acceptReply_still p.item)
    have owed := fun t => quiet_changeStation (s := t) (r := p.station) (f := Station.owedNotice) fun _ => {}
    exact ((accepted.changes.trans (changes_routeFrame _ f _)).trans
      ((owed _).trans (quiet_continueRound b _ _)).changes).trans (changes_startRefill _)

theorem changes_receiveChar (b : Fin 4) (c : RxChar) (s : State) : Changes s (receiveChar b c s) := by
  unfold receiveChar
  split
  · rename_i p rx seen listening
    split
    · refine (quiet_changeBranch fun r h => ?_).changes
      rw [listening]
      exact h
    · exact (quiet_failPoll b p s).changes
    · exact changes_acceptPoll b p _ s
  · exact .refl

/-- The station that the next poll of a round is for is present on the branch (R159). -/
theorem nextStation_eq_some {b : Fin 4} {last : Nat} {s : State} {r : Fin 48} {st : Station}
    (h : nextStation b last s = some (r, st)) : s.stations.read r = some st ∧ st.branch = b := by
  have mem : ∀ (l : List (Fin 48 × Station)) best e, l.foldl lowerAddress best = some e → best = some e ∨ e ∈ l := by
    intro l
    induction l with
    | nil => exact fun _ _ h => .inl h
    | cons a l ih =>
      intro best e he
      rcases ih _ e he with hb | hm
      · cases best with
        | none => exact .inr (by simp [lowerAddress] at hb; simp [hb])
        | some x =>
          unfold lowerAddress at hb
          dsimp only at hb
          split_ifs at hb
          · exact .inr (by simp [Option.some.inj hb])
          · exact .inl hb
      · exact .inr (List.mem_cons_of_mem _ hm)
  rcases mem _ _ _ h with hn | hm
  · cases hn
  · rw [Table.entries_eq] at hm
    obtain ⟨e, he, hf⟩ := List.mem_filterMap.1 hm
    obtain ⟨q, _, rfl⟩ := List.mem_map.1 he
    dsimp only at hf
    split at hf
    · rename_i su hq
      split_ifs at hf with hp
      cases hf
      refine ⟨hq, ?_⟩
      simp only [pollable, Bool.and_eq_true, beq_iff_eq] at hp
      exact hp.1.1
    · cases hf

/-! ### The Sweep Unit's events -/

theorem changes_reachSlot (index : Nat) (i : Fin 384) (s : State) : Changes s (reachSlot index i s) := by
  unfold reachSlot
  split
  · exact .refl
  · exact ((quiet_setSlot (withSuspect_still _ _)).trans (quiet_giveNotice _ _ _)).changes
  · exact (quiet_setSlot (withSuspect_still _ _)).changes
  · exact (Change.retire _ i s).changes

theorem changes_confirmForeign (index : Nat) {l : List ForeignEntry} {s : State}
    (room : s.sweep.foreign.length ≤ 32 → l.length ≤ 32) : Changes s (confirmForeign index (setForeign l s)) := by
  have advanced : Changes s (raise .foreignNew (advanceEpoch (setForeign l s))) :=
    (Change.confirmed room).changes.trans (quiet_raise _ _).changes
  unfold confirmForeign
  dsimp only
  split
  · exact (advanced.trans (changes_foldl (fun t i => changes_reachSlot index i t) _ _)).trans (quiet_raise _ _).changes
  · exact advanced.trans (changes_foldl (fun t i => changes_reachSlot index i t) _ _)

/-- An entry found at an index is one of the list's, at that index. -/
theorem entryAt_eq_some {index : Nat} {l : List ForeignEntry} {e : ForeignEntry} (h : entryAt index l = some e) :
    e ∈ l ∧ e.index = index :=
  ⟨List.mem_of_find?_eq_some h, by simpa using List.find?_some h⟩

theorem changes_hitEntry {e : ForeignEntry} {s : State} (he : e ∈ s.sweep.foreign) (level : Nat) :
    Changes s (hitEntry e level s) := by
  unfold hitEntry
  dsimp only
  split
  · exact changes_confirmForeign _ fun h => by simpa [changeEntry] using h
  · rename_i known
    refine (quiet_changeEntry (f := fun _ => e.hit s.sweep.config.k level) fun x _ _ hc => ⟨e, he, ?_, rfl⟩).changes
    simpa [hc] using known

/-- An entry inserted is the new one or one of the list's. -/
theorem mem_insertEntry {e x : ForeignEntry} {l : List ForeignEntry} : x ∈ insertEntry e l ↔ x = e ∨ x ∈ l := by
  have split := List.takeWhile_append_dropWhile (p := fun y : ForeignEntry => decide (y.index < e.index)) (l := l)
  conv_rhs => rw [← split]
  simp only [insertEntry, List.mem_append, List.mem_cons]
  tauto

/-- An insertion adds one entry. -/
theorem insertEntry_length (e : ForeignEntry) (l : List ForeignEntry) : (insertEntry e l).length = l.length + 1 := by
  have split := congrArg List.length
    (List.takeWhile_append_dropWhile (p := fun y : ForeignEntry => decide (y.index < e.index)) (l := l))
  simp only [List.length_append] at split
  simp only [insertEntry, List.length_append, List.length_cons]
  omega

theorem changes_hitNew (index level : Nat) (s : State) : Changes s (hitNew index level s) := by
  unfold hitNew
  split
  · exact (quiet_raise _ s).changes
  · rename_i full
    have room : ∀ e, (insertEntry e s.sweep.foreign).length ≤ 32 := fun e => by
      rw [insertEntry_length]
      exact Nat.not_le.1 full
    dsimp only
    split
    · exact changes_confirmForeign _ fun _ => room _
    · rename_i unconfirmed
      refine (quiet_setForeign (fun x hx hc => ?_) fun _ => room _).changes
      rcases mem_insertEntry.1 hx with rfl | hx
      · exact absurd hc unconfirmed
      · exact ⟨x, hx, hc, rfl⟩

theorem changes_decidePoint (index level : Nat) (s : State) : Changes s (decidePoint index level s) := by
  unfold decidePoint
  split
  · exact .refl
  · split
    · rename_i e he
      split
      · exact changes_hitEntry (entryAt_eq_some he).1 level
      · exact (quiet_missEntry e s).changes
    · split
      · exact changes_hitNew index level s
      · exact .refl

theorem changes_completePoint (level : Nat) (s : State) : Changes s (completePoint level s) := by
  have shown : Quiet s { s with sweep := { s.sweep with last := some (level, s.sweep.cursor) } } := {}
  exact (shown.changes.trans (changes_decidePoint _ _ _)).trans (quiet_nextPoint _).changes

/-! ### The mode requests -/

theorem changes_startPart (s : State) : Changes s (startPart s) := by
  have begun : Quiet s ((List.finRange 4).foldl (fun t b => startBranch b t) (setMode .run s)) :=
    (quiet_setMode .run s).trans (quiet_foldl (fun t b => quiet_startBranch b t) _ _)
  exact (begun.changes.trans (changes_takeWork _)).trans (changes_startRefill _)

/-- STOP after the engine work is abandoned (R114, R158, R177). -/
theorem quiet_stopped (s : State) :
    Quiet s (setMode .config ((List.finRange 4).foldl (fun t b => stopPolling b t) (stopTick s))) :=
  ((quiet_stopTick s).trans (quiet_foldl (fun t _ => quiet_setActivity rfl t) _ _)).trans (quiet_setMode _ _)

theorem changes_stopPart (s : State) : Changes s (stopPart s) :=
  (Change.abandon s).changes.trans (quiet_stopped _).changes

/-- No engine work is left when it is abandoned (R92, R93). -/
theorem abandonWork_engine (s : State) :
    (abandonWork s).engine.queue = [] ∧ (abandonWork s).engine.foreground = none ∧
      (abandonWork s).engine.background = none := ⟨rfl, rfl, rfl⟩

theorem changes_clearPart (s : State) : Changes s (clearPart s) := by
  obtain ⟨queue, foreground, background⟩ := abandonWork_engine s
  unfold clearPart
  split
  · have stopped := quiet_stopped (abandonWork s)
    exact (changes_stopPart s).trans (Change.empty (stopped.queue.trans queue) (stopped.foreground.trans foreground)
      (stopped.background.trans background)).changes
  · exact (Change.abandon s).changes.trans (Change.empty queue foreground background).changes

end Sys2Proof.Machine
end

section
namespace Sys2Proof.Machine

/-! ### Settings written -/

/-- Timing values in their ranges are written (R95, R97). -/
theorem quiet_setTiming {s : State} {tm : Timing}
    (range : SettingsSound s →
      (1 ≤ tm.lease ∧ tm.lease ≤ 255) ∧ tm.hold ≤ 65535 ∧ 1 ≤ tm.moveTime ∧ tm.moveTime ≤ 255) :
    Quiet s { s with timing := tm } where
  settings h :=
    { lease := (range h).1, hold := (range h).2.1, moveTime := (range h).2.2, thresholds := h.thresholds,
      deferOn := h.deferOn, deferOff := h.deferOff, stations := h.stations, sweep := h.sweep, branches := h.branches }

/-- DEFER after the thresholds are written (R69). -/
theorem writeThresholds_defer (upper lower : Nat) (s : State) :
    (writeThresholds upper lower s).engine.defer =
      (decide (min lower (upper - 1) < s.engine.queue.length) &&
        (s.engine.defer || decide (upper ≤ s.engine.queue.length))) := by
  have set : ∀ t : State, (deferSet t).engine.defer =
      (t.engine.defer || decide (t.engine.upper ≤ t.engine.queue.length)) := by
    intro t
    unfold deferSet
    split_ifs with h
    · simp [h.2]
    · cases hd : t.engine.defer <;> simp_all
  have clear : ∀ t : State, (deferClear t).engine.defer =
      (decide (t.engine.lower < t.engine.queue.length) && t.engine.defer) := by
    intro t
    unfold deferClear
    split_ifs with h
    · simp [Nat.not_lt.2 h]
    · simp [Nat.not_le.1 h]
  unfold writeThresholds
  rw [clear, set]
  simp

/-- Thresholds in their range are written (R69). -/
theorem quiet_writeThresholds {upper : Nat} (range : 1 ≤ upper ∧ upper ≤ 24) (lower : Nat) (s : State) :
    Quiet s (writeThresholds upper lower s) := by
  have hu : (writeThresholds upper lower s).engine.upper = upper := by unfold writeThresholds; simp
  have hl : (writeThresholds upper lower s).engine.lower = min lower (upper - 1) := by unfold writeThresholds; simp
  have hd := writeThresholds_defer upper lower s
  obtain ⟨plan, slots, epoch, queue, foreground, background, -, timing, zones, stations, branches, sweep, -, open', -⟩ :=
    writeThresholds_frame upper lower s
  exact
    { plan := plan, epoch := epoch, queue := queue, foreground := foreground, background := background,
      openRequest := open'
      slots := fun i => by rw [slots]; exact .refl _
      stations := stationsStill_of_eq stations
      spares := fun z => by rw [zones]
      polled := fun b r h => by rwa [branches] at h
      foreign := fun e he hc => ⟨e, by rwa [sweep] at he, hc, rfl⟩
      room := fun h => by rwa [sweep]
      settings := fun h =>
        { lease := by rw [timing]; exact h.lease
          hold := by rw [timing]; exact h.hold
          moveTime := by rw [timing]; exact h.moveTime
          thresholds := by rw [hu, hl]; omega
          deferOn := fun on => by
            rw [hd, Bool.and_eq_true, decide_eq_true_eq] at on
            rw [hl, queue]
            exact on.1
          deferOff := fun off => by
            rw [hd, Bool.and_eq_false_iff, Bool.or_eq_false_iff, decide_eq_false_iff_not,
              decide_eq_false_iff_not] at off
            rw [hu, queue]
            omega
          stations := by rw [stations]; exact h.stations
          sweep := by rw [sweep]; exact h.sweep
          branches := by rw [branches]; exact h.branches } }

/-- A sweep configuration in its ranges is written (R135). -/
theorem quiet_setConfig {s : State} {c : SweepConfig} (range : c.inRange) :
    Quiet s { s with sweep := { s.sweep with config := c } } where
  settings h :=
    { lease := h.lease, hold := h.hold, moveTime := h.moveTime, thresholds := h.thresholds, deferOn := h.deferOn,
      deferOff := h.deferOff, stations := h.stations, sweep := range, branches := h.branches }

/-! ### What a command answers -/

/-- A chain of changes that leaves the mode and the epoch. -/
structure Leaves (s t : State) : Prop where
  changes : Changes s t
  mode : t.console.mode = s.console.mode := by simp
  epoch : t.epoch = s.epoch := by simp

/-- A chain of changes that leaves the plan as well. -/
structure Steps (s t : State) : Prop extends Leaves s t where
  plan : t.plan = s.plan := by simp

/-- A chain of changes that leaves the plan and the epoch. -/
structure Turns (s t : State) : Prop where
  changes : Changes s t
  plan : t.plan = s.plan := by simp
  epoch : t.epoch = s.epoch := by simp

/-- An event's chain of changes: it leaves the response as well. -/
structure Occurs (s t : State) : Prop extends Steps s t where
  response : t.console.response = s.console.response := by simp

theorem Steps.refl (s : State) : Steps s s := { changes := .refl }

theorem Occurs.refl (s : State) : Occurs s s := { changes := .refl }

/-- A request is carried out and answered OK, or it is denied and changes nothing but the response (R173). -/
inductive Replies (P : State → Prop) (s : State) : Host.Outcome State Fault Refusal → Prop
  | ok {data : List Byte} {u : State} (h : P u) : Replies P s (accept data u)
  | denied {x : Status} (h : x ≠ .ok) : Replies P s (deny x s)

/-- A weaker property of what a request is carried out as. -/
theorem Replies.mono {P Q : State → Prop} {s : State} {o : Host.Outcome State Fault Refusal} (hPQ : ∀ u, P u → Q u)
    (h : Replies P s o) : Replies Q s o := by
  cases h with
  | ok h => exact .ok (hPQ _ h)
  | denied h => exact .denied h

/-- The states that a request leads to. -/
theorem Replies.leadsTo {P Q : State → Prop} {s : State} {o : Host.Outcome State Fault Refusal} (h : Replies P s o)
    (carriedOut : ∀ data u, P u → Q (respond .ok data u)) (denied : ∀ x, Q (respond x [] s)) : leadsTo Q o := by
  cases h with
  | ok h => exact leadsTo_accept.2 (carriedOut _ _ h)
  | denied => exact leadsTo_deny.2 (denied _)

/-- Every context is marked, but for a refill begun in this event, before which no refill was held but ones that have
ended (R30, R82). -/
def MarksAll (ended : Refill → Prop) (s t : State) : Prop :=
  ∀ x, holdsContext t.engine x → x.moved = true ∨
    (t.engine.foreground = none ∧ x.e0 = t.epoch ∧ x.research = 0 ∧ x.walk.cursor = 0 ∧ x.stage = .walking ∧
      ∀ b, s.engine.background = some b → ended b)

/-- A chain of changes that may advance the epoch, once. -/
structure Advances (ended : Refill → Prop) (s t : State) : Prop where
  changes : Changes s t
  mode : t.console.mode = s.console.mode
  epoch : t.epoch = s.epoch ∨ t.epoch = s.epoch + 1 ∧ MarksAll ended s t

/-- A chain of changes that may advance the epoch, once, and leaves the plan. -/
structure Records (ended : Refill → Prop) (s t : State) : Prop extends Advances ended s t where
  plan : t.plan = s.plan := by simp

theorem Steps.records {s t : State} (h : Steps s t) (ended : Refill → Prop) : Records ended s t where
  changes := h.changes
  mode := h.mode
  epoch := .inl h.epoch
  plan := h.plan

/-- The epoch of a state has not advanced, or once with every context marked. -/
def EpochMarked (s t : State) : Prop := t.epoch = s.epoch ∨ t.epoch = s.epoch + 1 ∧ AllMoved t.engine

/-- A refill may start after an advance of the epoch. -/
theorem Advances.refilled {ended : Refill → Prop} {s t : State} (changes : Changes s t)
    (mode : t.console.mode = s.console.mode) (epoch : EpochMarked s t)
    (ends : t.engine.background = none → ∀ b, s.engine.background = some b → ended b) :
    Advances ended s (startRefill t) where
  changes := changes.trans (changes_startRefill t)
  mode := by simpa using mode
  epoch := by
    rcases epoch with same | ⟨next, marked⟩
    · exact .inl (by simpa using same)
    · refine .inr ⟨by simpa using next, fun x held => ?_⟩
      rcases startRefill_background t with same | ⟨foreground, none, b, begun, ⟨moved, e0, stage⟩, research, cursor⟩
      · exact .inl (marked.sub (by simp) (by rw [same]; exact fun _ h => h) x held)
      · have idle : (startRefill t).engine.foreground = Option.none := by simpa using foreground
        rcases held with ⟨w, hw⟩ | ⟨w, hw⟩ | ⟨w, hw⟩ | ⟨z, hz⟩
        · rw [idle] at hw; cases hw
        · rw [idle] at hw; cases hw
        · rw [idle] at hw; cases hw
        · rw [begun] at hz
          cases hz
          exact .inr ⟨idle, e0.trans (by simp), research, cursor, stage, ends none⟩

/-- An advance of the epoch marks every context (R30). -/
theorem epochMarked_advance {s t : State} (epoch : t.epoch = s.epoch) : EpochMarked s (advanceEpoch t) :=
  .inr ⟨by show t.epoch + 1 = _; rw [epoch], allMoved_advanceEpoch t⟩

/-- What follows an advance keeps it marked where it leaves the epoch and its contexts are among those there are. -/
theorem EpochMarked.sub {s t u : State} (h : EpochMarked s t) (epoch : u.epoch = t.epoch)
    (foreground : ∀ f, u.engine.foreground = some f → t.engine.foreground = some f)
    (background : ∀ b, u.engine.background = some b → t.engine.background = some b) : EpochMarked s u := by
  rcases h with same | ⟨next, marked⟩
  · exact .inl (epoch.trans same)
  · exact .inr ⟨epoch.trans next, marked.sub foreground background⟩

/-! ### The commands as chains of changes -/

section
variable {s u : State}

/-- A plan write marks every context when it advances the epoch (R30). -/
theorem writePlan_epochMarked (plan : Plan) (tightens : Bool) (s : State) : EpochMarked s (writePlan plan tightens s) := by
  cases tightens with
  | false => exact .inl rfl
  | true => exact epochMarked_advance (t := writePlan plan false s) rfl

/-- A plan write discards no refill by itself. -/
theorem writePlan_background (plan : Plan) (tightens : Bool) (s : State)
    (h : (writePlan plan tightens s).engine.background = none) : s.engine.background = none := by
  cases tightens with
  | false => exact h
  | true => exact Option.map_eq_none_iff.1 h

/-- The refill that is held after a plan write is for the zone that it was for. -/
theorem writePlan_background_zone {plan : Plan} {tightens : Bool} {b d : Refill} (hb : s.engine.background = some b)
    (hd : (writePlan plan tightens s).engine.background = some d) : d.zone = b.zone := by
  cases tightens with
  | false =>
    have hd : s.engine.background = some d := hd
    rw [hb] at hd
    cases hd
    rfl
  | true =>
    have hd : (s.engine.background.map fun b => { b with context := b.context.marked }) = some d := hd
    rw [hb] at hd
    cases hd
    rfl

/-- A plan write that is carried out, with the refill that may start. -/
theorem advances_planWrite {plan : Plan} {tightens : Bool} (h : Change s (writePlan plan tightens s)) :
    Advances (fun _ => False) s (startRefill (writePlan plan tightens s)) :=
  .refilled h.changes (by simp) (writePlan_epochMarked plan tightens s) fun none b hb => by
    rw [writePlan_background plan tightens s none] at hb
    cases hb

/-- A plan write that does not tighten, with the refill that may start. -/
theorem leaves_planWrite {plan : Plan} (h : Change s (writePlan plan false s)) :
    Leaves s (startRefill (writePlan plan false s)) where
  changes := h.changes.trans (changes_startRefill _)
  epoch := by simp [writePlan]

/-- The refill that a zone's settled spares leave none of was the zone's (R11). -/
theorem applySpareSettings_background_none {z : Fin 16} {old new : ZonePlan}
    (h : (applySpareSettings z old new u).engine.background = none) {b : Refill} (hb : u.engine.background = some b) :
    b.zone = z := by
  have discarded : (discardRefill z u).engine.background = none → b.zone = z := by
    unfold discardRefill
    rw [hb]
    dsimp only
    split_ifs with hz
    · exact fun _ => hz
    · intro h
      rw [hb] at h
      cases h
  unfold applySpareSettings at h
  dsimp only at h
  split_ifs at h
  · rw [hb] at h
    cases h
  · exact discarded (by simpa using h)
  · exact discarded (by simpa using h)

/-- The refill that is left after a zone's spares are settled was held, and is of another zone where the spare profile
changes (R11). -/
theorem applySpareSettings_background {z : Fin 16} {old new : ZonePlan} {b : Refill}
    (h : (applySpareSettings z old new u).engine.background = some b) :
    u.engine.background = some b ∧ (b.zone = z → old.spareProfile = new.spareProfile) := by
  have discarded : (discardRefill z u).engine.background = some b → u.engine.background = some b ∧ b.zone ≠ z := by
    intro h
    unfold discardRefill at h
    split at h
    · rename_i d hd
      split_ifs at h with hz
      · cases h
      · rw [hd] at h
        cases h
        exact ⟨hd, hz⟩
    · rename_i hd
      rw [hd] at h
      cases h
  unfold applySpareSettings at h
  dsimp only at h
  split_ifs at h with same
  · exact ⟨h, fun _ => same.2⟩
  · obtain ⟨held, other⟩ := discarded (by simpa using h)
    exact ⟨held, fun hz => absurd hz other⟩
  · obtain ⟨held, other⟩ := discarded (by simpa using h)
    exact ⟨held, fun hz => absurd hz other⟩

/-- A byte is at most 255. -/
theorem byte_le (b : Byte) : b.toNat ≤ 255 := Nat.le_of_lt_succ b.isLt

theorem replies_undefineProfile (profile : Byte) (s : State) : Replies (Leaves s) s (undefineProfile profile s) := by
  rw [undefineProfile_eq]
  split_ifs with _ used
  · exact .denied (by decide)
  · exact .ok (leaves_planWrite (.profile (by simpa using used) id))
  · exact .denied (by decide)

/-- A clamped profile lies in its ranges (R6). -/
theorem clampedProfile_inRange {low high step : Nat} (edges : low ≤ high) (grid : high < 9120) (hs : step ∈ [1, 2, 4, 8])
    (c p3 p5 : Nat) : (clampedProfile low high step c p3 p5).inRange := by
  refine ⟨edges, grid, hs, ?_⟩
  show 1 ≤ max 1 (min c 40) ∧ max 1 (min c 40) ≤ 40 ∧ min p3 20 ≤ 20 ∧ min p5 10 ≤ 10
  omega

theorem replies_defineProfile (profile : Byte) (low high : Word) (step c p3 p5 : Byte) (s : State) :
    Replies (Leaves s) s (defineProfile profile low high step c p3 p5 s) := by
  rw [defineProfile_eq]
  split_ifs with _ checks used
  · exact .denied (by decide)
  · obtain ⟨edges, grid, hs⟩ := checks
    exact .ok (leaves_planWrite (.profile (by simpa using used) fun _ => clampedProfile_inRange edges grid hs _ _ _))
  · exact .denied (by decide)
  · exact .denied (by decide)

theorem replies_writeProfile (profile state : Byte) (low high : Word) (step c p3 p5 : Byte) (s : State) :
    Replies (Leaves s) s (execWriteProfile profile state low high step c p3 p5 s) := by
  unfold execWriteProfile
  split_ifs
  · exact replies_defineProfile profile low high step c p3 p5 s
  · exact replies_undefineProfile profile s
  · exact .denied (by decide)

/-- A zone written, with its spares settled and the refill that may start (R11). -/
theorem advances_writeZone {z : Fin 16} {new : ZonePlan} (range : new.inRange)
    (defined : 0 < new.depth → (s.plan.profiles.read new.spareProfile).defined = true) :
    Advances (fun b => z.val = b.zone.val) s (startRefill (applySpareSettings z (s.plan.zones.read z) new
      (writePlan { s.plan with zones := s.plan.zones.write z new } (zoneTightens (s.plan.zones.read z) new) s))) :=
  .refilled (Change.zone range defined).changes (by simp)
    ((writePlan_epochMarked _ _ s).sub (by simp) (by simp) fun _ h => (applySpareSettings_background h).1) fun none b hb => by
      cases held : (writePlan { s.plan with zones := s.plan.zones.write z new }
          (zoneTightens (s.plan.zones.read z) new) s).engine.background with
      | none =>
        rw [writePlan_background _ _ s held] at hb
        cases hb
      | some d =>
        have same : d.zone = b.zone := writePlan_background_zone hb held
        rw [← same, applySpareSettings_background_none none held]

theorem replies_writeZone (zone : Byte) (zlo zhi : Word) (depth spareProfile : Byte) (clearTime : Word) (s : State) :
    Replies (Advances (fun b => zone.toNat = b.zone.val) s) s (execWriteZone zone zlo zhi depth spareProfile clearTime s) := by
  rw [execWriteZone_eq]
  split
  · split
    · exact .denied (by decide)
    · rename_i new hnew
      rw [zoneSettings_eq] at hnew
      split_ifs at hnew with _ checks
      obtain ⟨edges, grid, hd, named⟩ := checks
      cases hnew
      refine .ok (advances_writeZone (z := ⟨zone.toNat, ‹_›⟩) ⟨edges, grid, hd, Nat.le_of_lt_succ clearTime.isLt⟩ fun wants => ?_)
      exact named.resolve_left (Nat.ne_of_gt wants)
  · exact .denied (by decide)

theorem replies_writeCoupling (a b value : Byte) (s : State) : Replies (Advances (fun _ => False) s) s (execWriteCoupling a b value s) := by
  by_cases h : a.toNat < 16 ∧ b.toNat < 16 ∧ a ≠ b ∧ value.toNat < 3
  · obtain ⟨ha, hb, hab, hv⟩ := h
    rcases couplingOfCode_cases value.toNat with ⟨v, hv, _, _⟩ | ⟨_, hge⟩
    · rw [execWriteCoupling_of_valid a b value s ha hb hab v hv]
      exact .ok (advances_planWrite (.coupling fun h => hab (BitVec.eq_of_toNat_eq (by simpa using h))))
    · omega
  · rw [execWriteCoupling_of_invalid a b value s h]
    exact .denied (by decide)

theorem replies_addExclusion (lo hi : Word) (s : State) : Replies (Advances (fun _ => False) s) s (execAddExclusion lo hi s) := by
  rw [execAddExclusion_eq]
  split_ifs with range held full
  · exact .denied (by decide)
  · exact .denied (by decide)
  · exact .ok (advances_planWrite (.addBand (b := ⟨lo.toNat, hi.toNat⟩) range held (Nat.not_le.1 full)))
  · exact .denied (by decide)

theorem replies_removeExclusion (lo hi : Word) (s : State) : Replies (Leaves s) s (execRemoveExclusion lo hi s) := by
  rw [execRemoveExclusion_eq]
  split_ifs
  · exact .ok (leaves_planWrite .removeBand)
  · exact .denied (by decide)
  · exact .denied (by decide)

theorem replies_writeGuards (g fg : Byte) (s : State) : Replies (Advances (fun _ => False) s) s (execWriteGuards g fg s) := by
  rw [execWriteGuards_eq, ← writePlan_decide]
  split
  · rename_i range
    exact .ok (advances_planWrite (.guards range))
  · exact .denied (by decide)

theorem replies_writeTimeBase (code : Byte) (s : State) : Replies (Steps s) s (execWriteTimeBase code s) := by
  unfold execWriteTimeBase
  split
  · exact .denied (by decide)
  · split
    · exact .denied (by decide)
    · rename_i p _ _
      have q : Quiet s { s with timing := { s.timing with period := p } } :=
        quiet_setTiming fun h => ⟨h.lease, h.hold, h.moveTime⟩
      exact .ok { changes := q.changes }

theorem replies_writeLease (period : Byte) (s : State) : Replies (Steps s) s (execWriteLease period s) := by
  unfold execWriteLease
  split
  · rename_i positive
    have q : Quiet s { s with timing := { s.timing with lease := period.toNat } } :=
      quiet_setTiming fun h => ⟨⟨positive, byte_le period⟩, h.hold, h.moveTime⟩
    exact .ok { changes := q.changes }
  · exact .denied (by decide)

theorem replies_writeHold (hold : Word) (s : State) : Replies (Steps s) s (execWriteHold hold s) := by
  have q : Quiet s { s with timing := { s.timing with hold := hold.toNat } } :=
    quiet_setTiming fun h => ⟨h.lease, Nat.le_of_lt_succ hold.isLt, h.moveTime⟩
  exact .ok { changes := q.changes }

theorem replies_writeMoveTime (ticks : Byte) (s : State) : Replies (Steps s) s (execWriteMoveTime ticks s) := by
  unfold execWriteMoveTime
  split
  · rename_i positive
    have q : Quiet s { s with timing := { s.timing with moveTime := ticks.toNat } } :=
      quiet_setTiming fun h => ⟨h.lease, h.hold, positive, byte_le ticks⟩
    exact .ok { changes := q.changes }
  · exact .denied (by decide)

theorem replies_writeDefer (upper lower : Byte) (s : State) : Replies (Steps s) s (execWriteDefer upper lower s) := by
  unfold execWriteDefer
  split
  · rename_i range
    exact .ok { changes := (quiet_writeThresholds range _ s).changes }
  · exact .denied (by decide)

/-- The fields of a WRITE STATION that its first check passes lie in their ranges (R166). -/
theorem stationParameters_inRange {record branch address zone ceiling authority : Byte} {r : Fin 48}
    {new : StationSettings} (h : stationParameters record branch address zone ceiling authority = some (r, new)) :
    (1 ≤ new.address ∧ new.address ≤ 31) ∧ 1 ≤ new.ceiling ∧ new.ceiling ≤ 64 := by
  unfold stationParameters at h
  split at h
  · split_ifs at h with checks
    obtain ⟨a1, a2, c1, c2⟩ := checks
    cases h
    exact ⟨⟨a1, a2⟩, c1, c2⟩
  · cases h

theorem replies_writeStation (record branch address zone ceiling authority : Byte) (s : State) :
    Replies (Steps s) s (execWriteStation record branch address zone ceiling authority s) := by
  unfold execWriteStation
  split
  · exact .denied (by decide)
  · rename_i r new h
    obtain ⟨address, ceiling⟩ := stationParameters_inRange h
    split_ifs with locked taken
    · exact .denied (by decide)
    · exact .denied (by decide)
    · exact .ok { changes := (Change.store address ceiling (by simpa using locked) (by simpa using taken)).changes }

theorem replies_removeStation (record : Byte) (s : State) : Replies (Steps s) s (execRemoveStation record s) := by
  unfold execRemoveStation
  split
  · exact .denied (by decide)
  · split
    · exact .denied (by decide)
    · rename_i present
      split
      · exact .denied (by decide)
      · rename_i used
        exact .ok { changes := (Change.remove present (by simpa using used)).changes }

theorem replies_writeBranch (branch rate turnoff window gap debounce : Byte) (s : State) :
    Replies (Steps s) s (execWriteBranch branch rate turnoff window gap debounce s) := by
  unfold execWriteBranch
  split
  · exact .denied (by decide)
  · split
    · exact .denied (by decide)
    · split
      · split
        · rename_i range
          obtain ⟨w1, w2, d1⟩ := range
          refine .ok { changes := (quiet_changeBranch (fun _ h => h) fun _ _ => ?_).changes }
          exact ⟨w1, w2, byte_le gap, d1, byte_le debounce⟩
        · exact .denied (by decide)
      · exact .denied (by decide)

theorem replies_branchEnable (branch : Byte) (s : State) : Replies (Steps s) s (execBranchEnable branch s) := by
  unfold execBranchEnable
  split
  · exact .denied (by decide)
  · split
    · exact .ok { changes := (quiet_enableBranch _ s).changes }
    · exact .ok (.refl s)

theorem replies_branchDisable (branch : Byte) (s : State) : Replies (Steps s) s (execBranchDisable branch s) := by
  unfold execBranchDisable
  split
  · exact .denied (by decide)
  · split
    · exact .ok (.refl s)
    · exact .ok { changes := (quiet_disableBranch _ s).changes }

theorem replies_queueHostWork {w : Work} (host : w.hostKind?.isSome = true) (s : State) :
    Replies (Steps s) s (queueHostWork w s) := by
  unfold queueHostWork
  split
  · exact .denied (by decide)
  · rename_i busy
    rw [Bool.or_eq_true, not_or] at busy
    exact .ok { changes := (Change.openHost host (by simpa using busy.1) (by simpa using busy.2)).changes }

theorem replies_queueCheckedPin (index : Word) (profile zone : Byte) (label : List Byte) (s : State) :
    Replies (Steps s) s (queueCheckedPin index profile zone label s) := by
  unfold queueCheckedPin
  split
  · exact .denied (by decide)
  · split
    · exact replies_queueHostWork rfl s
    · exact .denied (by decide)

/-- An unchecked pin recorded (R30, R33). -/
theorem records_pin {i : Fin 384} (index : Nat) (p z : Fin 16) (label : List Byte) (free : s.slots.read i = .free) :
    Records (fun _ => False) s (recordPin i index p z label s) where
  changes := (Change.pin free).changes
  mode := by simp
  epoch := .inr ⟨rfl, fun x held => .inl (allMoved_advanceEpoch (setSlot i (pinnedSlot s index p z label) s) x held)⟩

theorem replies_pinUnchecked (index : Word) (profile zone : Byte) (label : List Byte) (s : State) :
    Replies (Records (fun _ => False) s) s (pinUnchecked index profile zone label s) := by
  unfold pinUnchecked
  split
  · exact .denied (by decide)
  · split
    · split
      · exact .denied (by decide)
      · rename_i i hi
        exact .ok (records_pin _ _ _ _ ((lowestFree_eq_some s i).1 hi).1)
    · exact .denied (by decide)

theorem replies_pin (index : Word) (profile zone checkFlag : Byte) (label : List Byte) (s : State) :
    Replies (Records (fun _ => False) s) s (execPin index profile zone checkFlag label s) := by
  unfold execPin
  split_ifs
  · exact replies_pinUnchecked index profile zone label s
  · exact (replies_queueCheckedPin index profile zone label s).mono fun _ h => h.records _
  · exact .denied (by decide)

theorem replies_check (index : Word) (profile zone : Byte) (s : State) :
    Replies (Steps s) s (execCheck index profile zone s) := by
  unfold execCheck
  split
  · exact .denied (by decide)
  · exact replies_queueHostWork rfl s

theorem replies_retire (slot : Word) (s : State) : Replies (Steps s) s (execRetire slot s) := by
  unfold execRetire
  split
  · exact .denied (by decide)
  · split
    · exact .denied (by decide)
    · exact .ok { changes := (Change.retire _ _ s).changes.trans (changes_startRefill _) }

theorem replies_changeover (zone force : Byte) (s : State) : Replies (Steps s) s (execChangeover zone force s) := by
  unfold execChangeover
  split
  · exact .denied (by decide)
  · split
    · exact .denied (by decide)
    · rename_i h
      obtain ⟨plan, epoch, -, -, -, -, -, -, -, -, -, console, -⟩ := changeoverZone_frame _ _ _ _ _ h
      exact .ok { changes := (changes_changeoverZone h).trans (changes_startRefill _), plan := by simp [plan], mode := by simp [console], epoch := by simp [epoch] }

/-- A sweep configuration that the checks pass lies in its ranges once a step of 0 is stored as 1 (R135). -/
theorem sweepValid_inRange {c : SweepConfig} (h : sweepValid c = true) (threshold : c.threshold ≤ 255)
    (settle : c.settle ≤ 255) (gap : c.gap ≤ 255) (offset : c.offset ≤ 16777215) (scale : c.scale ≤ 255) :
    ({ c with step := max 1 c.step } : SweepConfig).inRange := by
  simp only [sweepValid, Bool.and_eq_true, edgesValid_iff, decide_eq_true_eq] at h
  unfold SweepConfig.inRange
  dsimp only
  omega

theorem replies_writeSweep (lo hi : Word) (step settle threshold hysteresis k m e gap : Byte) (offset : Word24)
    (scale : Byte) (s : State) :
    Replies (Steps s) s (execWriteSweep lo hi step settle threshold hysteresis k m e gap offset scale s) := by
  unfold execWriteSweep
  dsimp only
  split
  · exact .denied (by decide)
  · split
    · rename_i valid
      exact .ok { changes := (quiet_setConfig (sweepValid_inRange valid (byte_le _) (byte_le _)
        (byte_le _) (Nat.le_of_lt_succ offset.isLt) (byte_le _))).changes }
    · exact .denied (by decide)

theorem replies_sweepStart (s : State) : Replies (Steps s) s (execSweepStart s) := by
  unfold execSweepStart
  split
  · exact .ok (.refl s)
  · exact .ok { changes := (quiet_beginPoint _ s).changes }

theorem replies_dropForeign (index : Word) (s : State) : Replies (Steps s) s (execDropForeign index s) := by
  unfold execDropForeign
  split
  · exact .denied (by decide)
  · split
    · exact .denied (by decide)
    · exact .ok { changes := (quiet_dropEntry _ s).changes.trans (changes_startRefill _) }

theorem replies_start (s : State) : Replies (Turns s) s (execStart s) := by
  unfold execStart
  split
  · exact .ok { changes := .refl }
  · exact .ok { changes := changes_startPart s }

theorem replies_stop (s : State) : Replies (Turns s) s (execStop s) := by
  unfold execStop
  split
  · exact .ok { changes := changes_stopPart s }
  · exact .ok { changes := .refl }

/-! #### Reads and frames without a request -/

theorem replies_readProfile (number : Byte) (s : State) : Replies (Steps s) s (execReadProfile number s) := by
  unfold execReadProfile
  split
  · exact .denied (by decide)
  · exact .ok (.refl s)

theorem replies_readZone (number : Byte) (s : State) : Replies (Steps s) s (execReadZone number s) := by
  unfold execReadZone
  split
  · exact .denied (by decide)
  · exact .ok (.refl s)

theorem replies_readStation (number : Byte) (s : State) : Replies (Steps s) s (execReadStation number s) := by
  unfold execReadStation
  split
  · exact .denied (by decide)
  · exact .ok (.refl s)

theorem replies_readBranch (number : Byte) (s : State) : Replies (Steps s) s (execReadBranch number s) := by
  unfold execReadBranch
  split
  · exact .denied (by decide)
  · exact .ok (.refl s)

theorem replies_readEntry (number : Word) (s : State) : Replies (Steps s) s (execReadEntry number s) := by
  unfold execReadEntry
  split
  · exact .denied (by decide)
  · exact .ok (.refl s)

theorem replies_readCoupling (a b : Byte) (s : State) : Replies (Steps s) s (execReadCoupling a b s) := by
  unfold execReadCoupling
  split
  · exact .ok (.refl s)
  · exact .denied (by decide)

theorem replies_readEntries (start : Word) (n : Byte) (s : State) : Replies (Steps s) s (execReadEntries start n s) := by
  unfold execReadEntries
  split
  · exact .ok (.refl s)
  · exact .denied (by decide)

/-! #### Events -/

/-- An event that is due under a condition, and otherwise changes nothing. -/
theorem occurs_due (c : Prop) [Decidable c] (h : Occurs s u) :
    leadsTo (Occurs s) (if c then .next u else .next s) := by
  split
  · exact leadsTo_next.2 h
  · exact leadsTo_next.2 (.refl s)

theorem occurs_tick (s : State) : leadsTo (Occurs s) (execTick s) := by
  refine leadsTo_next.2 ?_
  split
  · exact { changes := (quiet_issueTick s).changes }
  · exact .refl s

theorem occurs_lapse (r : Fin 48) (s : State) : leadsTo (Occurs s) (execLapse r s) := by
  unfold execLapse
  split
  · exact occurs_due _ { changes := (quiet_tickLease r s).changes }
  · exact leadsTo_next.2 (.refl s)

theorem occurs_holdExpiry (i : Fin 384) (s : State) : leadsTo (Occurs s) (execHoldExpiry i s) := by
  unfold execHoldExpiry
  split
  · exact occurs_due _ { changes := changes_tickHold i s }
  · exact leadsTo_next.2 (.refl s)

theorem occurs_moveLapse (i : Fin 384) (s : State) : leadsTo (Occurs s) (execMoveLapse i s) := by
  unfold execMoveLapse
  split
  · exact occurs_due _ { changes := changes_tickMove i s }
  · exact leadsTo_next.2 (.refl s)

theorem occurs_clearTimerExpiry (z : Fin 16) (s : State) : leadsTo (Occurs s) (execClearTimerExpiry z s) := by
  unfold execClearTimerExpiry
  split
  · exact occurs_due _ { changes := changes_tickClear z s }
  · exact leadsTo_next.2 (.refl s)

theorem occurs_poll (b : Fin 4) (s : State) : leadsTo (Occurs s) (execPoll b s) := by
  unfold execPoll
  split
  · split
    · split
      · rename_i h
        obtain ⟨present, branch⟩ := nextStation_eq_some h
        exact leadsTo_next.2 { changes := (Change.poll present branch).changes }
      · exact leadsTo_next.2 { changes := (quiet_setActivity rfl s).changes }
    · exact leadsTo_next.2 (.refl s)
  · exact leadsTo_next.2 (.refl s)

theorem occurs_replyWindowExpired (b : Fin 4) (s : State) : leadsTo (Occurs s) (execReplyWindowExpired b s) := by
  unfold execReplyWindowExpired
  split
  · exact leadsTo_next.2 { changes := (quiet_failPoll b _ s).changes }
  · exact leadsTo_next.2 (.refl s)

theorem occurs_replyGapTimeout (b : Fin 4) (s : State) : leadsTo (Occurs s) (execReplyGapTimeout b s) := by
  unfold execReplyGapTimeout
  split
  · exact leadsTo_next.2 { changes := (quiet_failPoll b _ s).changes }
  · exact leadsTo_next.2 (.refl s)

theorem occurs_quietWaitEnd (b : Fin 4) (s : State) : leadsTo (Occurs s) (execQuietWaitEnd b s) := by
  unfold execQuietWaitEnd
  split
  · exact occurs_due _ { changes := (quiet_continueRound b _ s).changes }
  · exact leadsTo_next.2 (.refl s)

theorem occurs_roundGapEnd (b : Fin 4) (s : State) : leadsTo (Occurs s) (execRoundGapEnd b s) := by
  unfold execRoundGapEnd
  split
  · exact leadsTo_next.2 { changes := ((quiet_changeBranch fun _ h => h).trans (quiet_beginRound b _)).changes }
  · exact leadsTo_next.2 (.refl s)

theorem occurs_candidateEvaluation (s : State) : leadsTo (Occurs s) (execCandidateEvaluation s) := by
  unfold execCandidateEvaluation
  split
  · rename_i job c active
    split
    · rename_i walking
      exact leadsTo_next.2 { changes := (changes_evaluateNext (activeSearch_held active) walking).trans (changes_startRefill _) }
    · exact leadsTo_next.2 (.refl s)
  · exact leadsTo_next.2 (.refl s)

/-- The epoch has not advanced, or once with every context marked; a refill that was held is held still. -/
structure Marked (s t : State) : Prop where
  epoch : EpochMarked s t
  background : t.engine.background = none → s.engine.background = none

/-- Nothing advances where the epoch and the refill are the same. -/
theorem marked_same (epoch : u.epoch = s.epoch) (background : u.engine.background = s.engine.background) : Marked s u :=
  ⟨.inl epoch, fun h => background ▸ h⟩

/-- The epoch advances from a state that has the same refill. -/
theorem marked_advance (epoch : u.epoch = s.epoch) (background : u.engine.background = s.engine.background) :
    Marked s (advanceEpoch u) :=
  ⟨epochMarked_advance epoch, fun h => background ▸ Option.map_eq_none_iff.1 h⟩

/-- What follows keeps the marks where it sets no context. -/
theorem Marked.sub {t : State} (h : Marked s u) (epoch : t.epoch = u.epoch)
    (foreground : ∀ f, t.engine.foreground = some f → u.engine.foreground = some f)
    (background : t.engine.background = u.engine.background) : Marked s t :=
  ⟨h.epoch.sub epoch foreground fun _ hb => background ▸ hb, fun k => h.background (background ▸ k)⟩

/-- A completion that is recorded, with the refill that may start. -/
theorem records_refilled (changes : Changes s u) (marked : Marked s u) (mode : u.console.mode = s.console.mode := by simp)
    (plan : u.plan = s.plan := by simp) : Records (fun _ => False) s (startRefill u) where
  toAdvances := .refilled changes mode marked.epoch fun none b hb => by
    rw [marked.background none] at hb
    cases hb
  plan := by simpa using plan

/-- A station's search that ends leaves the refill. -/
theorem closeSearch_background {job : Job} {w : Work} (entry : job.entry = some w) (why : RefuseReason) (s : State) :
    (closeSearch job why s).engine.background = s.engine.background := by
  cases job with
  | request v => simp [closeSearch]
  | move v => simp [closeSearch]
  | refill z => cases entry

/-- A station's search that goes on leaves the refill. -/
theorem setContext_background {job : Job} {w : Work} (entry : job.entry = some w) (c : SearchContext) (s : State) :
    (setContext job c s).engine.background = s.engine.background := by
  cases job with
  | request v => rfl
  | move v => rfl
  | refill z => cases entry

theorem fullResearch_background {job : Job} {w : Work} (entry : job.entry = some w) (c : SearchContext) (s : State) :
    (fullResearch job c s).engine.background = s.engine.background := by
  unfold fullResearch
  split
  · rcases beginWalk_cases job (c.research + 1) s with hw | ⟨d, -, -, -, hw⟩ <;> rw [hw]
    · exact closeSearch_background entry _ s
    · exact setContext_background entry d s
  · exact closeSearch_background entry _ s

/-- A completion advances the epoch where it records, and not otherwise (R30). -/
theorem completeSearch_epochMarked (job : Job) (c : SearchContext) (f : Nat) (afterRetest : Bool) (s : State) :
    EpochMarked s (completeSearch job c f afterRetest s) := by
  have recorded : EpochMarked s (recordFound job f s) := by
    cases job with
    | request w =>
      show EpochMarked s (recordGrant w f s)
      unfold recordGrant
      split
      · exact .inl (by simp)
      · rename_i i _
        exact (epochMarked_advance (s := s) (t := raiseHeld w.station (setSlot i (grantSlot s w f) s)) rfl).sub (by simp)
          (fun g hg => by rw [answerWork_eq] at hg; cases hg) (by simp)
    | move w =>
      exact (epochMarked_advance (s := s) (t := setSlot w.slot (openMove f s.timing.moveTime (s.slots.read w.slot)) s) rfl).sub
        (by simp [recordFound, recordMove]) (fun g hg => by simp [recordFound, recordMove, answerWork_eq] at hg)
        (by simp [recordFound, recordMove])
    | refill z =>
      show EpochMarked s (recordSpare z f s)
      unfold recordSpare
      split
      · exact .inl (by simp)
      · rename_i i _
        have set : (changeZone z (fun zs => { zs with spares := zs.spares ++ [i] }) (setSlot i
          (.spare { frequency := f, profile := (s.plan.zones.read z).spareProfile, zone := z, conflict := false }) s)).epoch =
            s.epoch := rfl
        exact (epochMarked_advance set).sub rfl (fun _ h => h) fun _ hb => nomatch hb
  unfold completeSearch
  split_ifs
  · exact .inl (by simp)
  · exact recorded
  · exact .inl (by simp)
  · exact .inl (by simp)
  · exact .inl (by simp)

/-- A station's completion leaves a refill held (R84). -/
theorem completeSearch_background {job : Job} {w : Work} (entry : job.entry = some w) (c : SearchContext) (f : Nat)
    (afterRetest : Bool) (s : State) (h : (completeSearch job c f afterRetest s).engine.background = none) :
    s.engine.background = none := by
  have recorded : (recordFound job f s).engine.background = none → s.engine.background = none := by
    cases job with
    | request v =>
      show (recordGrant v f s).engine.background = none → _
      unfold recordGrant
      split
      · exact fun h => by rwa [closeSearch_background rfl] at h
      · exact fun h => by simpa [advanceEpoch] using h
    | move v =>
      intro h
      simpa [recordFound, recordMove, advanceEpoch] using h
    | refill z => cases entry
  unfold completeSearch at h
  split_ifs at h
  · rwa [closeSearch_background entry] at h
  · exact recorded h
  · rwa [fullResearch_background entry] at h
  · rwa [setContext_background entry] at h
  · rwa [closeSearch_background entry] at h

/-- A search that is active with a refill held is the refill's own only with an empty foreground (R84). -/
theorem activeSearch_foreground {job : Job} {c : SearchContext} (h : activeSearch s = some (job, c)) :
    (∃ w, job.entry = some w) ∨ s.engine.foreground = none := by
  cases job with
  | request w => exact .inl ⟨_, rfl⟩
  | move w => exact .inl ⟨_, rfl⟩
  | refill z =>
    refine .inr ?_
    unfold activeSearch at h
    cases hf : s.engine.foreground with
    | none => rfl
    | some f =>
      rw [hf] at h
      cases f <;> cases h

/-- A search completed, with the refill that may start. -/
theorem records_completeSearch {job : Job} {c : SearchContext} (active : activeSearch s = some (job, c)) {f : Nat}
    (afterRetest : Bool) (found : c.moved = false → c.ready? = some f) :
    Records (fun _ => s.engine.foreground = none) s (startRefill (completeSearch job c f afterRetest s)) where
  toAdvances := .refilled (changes_completeSearch (activeSearch_held active) afterRetest found) (by simp)
    (completeSearch_epochMarked job c f afterRetest s) fun none _ hb => by
      rcases activeSearch_foreground active with ⟨w, entry⟩ | idle
      · rw [completeSearch_background entry c f afterRetest s none] at hb
        cases hb
      · exact idle

theorem records_searchCompletion (s : State) :
    leadsTo (fun t => Records (fun _ => s.engine.foreground = none) s t ∧ t.console.response = s.console.response)
      (execSearchCompletion s) := by
  have unchanged := (Steps.refl s).records fun _ => s.engine.foreground = none
  unfold execSearchCompletion
  split
  · rename_i job c active
    split
    · rename_i found
      exact leadsTo_next.2
        ⟨records_completeSearch active false fun unmoved => ready?_eq_some.2 ⟨unmoved, .inl found⟩, by simp⟩
    · rename_i retested
      exact leadsTo_next.2
        ⟨records_completeSearch active true fun unmoved => ready?_eq_some.2 ⟨unmoved, .inr retested⟩, by simp⟩
    · exact leadsTo_next.2 ⟨unchanged, rfl⟩
    · exact leadsTo_next.2 ⟨unchanged, rfl⟩
  · exact leadsTo_next.2 ⟨unchanged, rfl⟩

theorem occurs_reTest (s : State) : leadsTo (Occurs s) (execReTest s) := by
  unfold execReTest
  split
  · rename_i held
    split
    · exact leadsTo_next.2 { changes := (changes_retestPin held).trans (changes_startRefill _) }
    · exact leadsTo_next.2 (.refl s)
  · split
    · rename_i active
      split
      · exact leadsTo_next.2 { changes := (changes_retestSearch (activeSearch_held active) _).trans (changes_startRefill _) }
      · exact leadsTo_next.2 (.refl s)
    · exact leadsTo_next.2 (.refl s)

/-- A checked PIN's completion advances the epoch where it records the pin, and not otherwise (R30). -/
theorem completePin_marked (w : PinWork) (c : SearchContext) (afterRetest : Bool) (s : State) :
    Marked s (completePin w c afterRetest s) := by
  unfold completePin
  split_ifs
  · unfold recordCheckedPin
    split
    · exact marked_same (by simp) (by simp)
    · rename_i i _
      exact (marked_advance (s := s) (u := setSlot i (pinnedSlot s w.index w.profile w.zone w.label) s) rfl rfl).sub rfl
        (fun _ h => nomatch h) rfl
  · exact marked_same (by simp) (by simp)
  · exact marked_same (by simp) (by simp)
  · exact marked_same rfl rfl

theorem records_checkedPinCompletion (s : State) :
    leadsTo (fun t => Records (fun _ => False) s t ∧ t.console.response = s.console.response)
      (execCheckedPinCompletion s) := by
  have unchanged := (Steps.refl s).records fun _ => False
  have completed : ∀ {w c}, s.engine.foreground = some (.pin w c) → ∀ r,
      Records (fun _ => False) s (startRefill (completePin w c r s)) ∧
        (startRefill (completePin w c r s)).console.response = s.console.response := fun held r =>
    ⟨records_refilled (changes_completePin held r) (completePin_marked _ _ r s), by simp⟩
  unfold execCheckedPinCompletion
  split
  · rename_i held
    split
    · exact leadsTo_next.2 (completed held _)
    · exact leadsTo_next.2 (completed held _)
    · exact leadsTo_next.2 ⟨unchanged, rfl⟩
    · exact leadsTo_next.2 ⟨unchanged, rfl⟩
  · exact leadsTo_next.2 ⟨unchanged, rfl⟩

theorem occurs_auditVisitEvent (s : State) : leadsTo (Occurs s) (execAuditVisit s) := by
  unfold execAuditVisit
  split
  · rename_i held
    exact leadsTo_next.2 { changes := (changes_auditVisit held).trans (changes_startRefill _) }
  · exact leadsTo_next.2 (.refl s)

theorem occurs_tuneLatch (s : State) : leadsTo (Occurs s) (execTuneLatch s) := by
  unfold execTuneLatch
  split
  · exact leadsTo_next.2 { changes := Quiet.changes {} }
  · exact leadsTo_next.2 (.refl s)

theorem occurs_settleEnd (s : State) : leadsTo (Occurs s) (execSettleEnd s) := by
  unfold execSettleEnd
  split
  · exact leadsTo_next.2 { changes := Quiet.changes {} }
  · exact leadsTo_next.2 (.refl s)

/-- A confirmation advances the epoch, once (R30, R142). -/
theorem confirmForeign_marked (index : Nat) (epoch : u.epoch = s.epoch)
    (background : u.engine.background = s.engine.background) : Marked s (confirmForeign index u) := by
  have advanced : Marked s (raise .foreignNew (advanceEpoch u)) :=
    (marked_advance epoch background).sub rfl (fun _ h => h) rfl
  have reached : ∀ is : List (Fin 384), Marked s (is.foldl (fun t i => reachSlot index i t) (raise .foreignNew (advanceEpoch u))) :=
    fun is => foldl_ind (Marked s) (fun t i => reachSlot index i t)
      (fun _ _ h => h.sub (by simp) (by simp) (by simp)) is _ advanced
  unfold confirmForeign
  dsimp only
  split
  · exact (reached _).sub rfl (fun _ h => h) rfl
  · exact reached _

/-- A point decided advances the epoch where a foreign carrier is CONFIRMED, and not otherwise (R30). -/
theorem decidePoint_marked (index level : Nat) (s : State) : Marked s (decidePoint index level s) := by
  have hit : ∀ e, Marked s (hitEntry e level s) := fun e => by
    unfold hitEntry
    dsimp only
    split
    · exact confirmForeign_marked _ rfl rfl
    · exact marked_same rfl rfl
  have new : Marked s (hitNew index level s) := by
    unfold hitNew
    dsimp only
    split_ifs
    · exact marked_same rfl rfl
    · exact confirmForeign_marked _ rfl rfl
    · exact marked_same rfl rfl
  unfold decidePoint
  split
  · exact marked_same rfl rfl
  · split
    · split
      · exact hit _
      · exact marked_same (by simp) (by simp)
    · split
      · exact new
      · exact marked_same rfl rfl

/-- The marks of what follows a state with the same epoch and refill. -/
theorem Marked.of_same {t : State} (h : Marked u t) (epoch : u.epoch = s.epoch)
    (background : u.engine.background = s.engine.background) : Marked s t :=
  ⟨by unfold EpochMarked; rw [← epoch]; exact h.epoch, fun k => background ▸ h.background k⟩

theorem completePoint_marked (level : Nat) (s : State) : Marked s (completePoint level s) := by
  have decided := decidePoint_marked s.sweep.cursor level
    { s with sweep := { s.sweep with last := some (level, s.sweep.cursor) } }
  refine (decided.of_same (s := s) rfl rfl).sub ?_ ?_ ?_ <;> simp [completePoint]

theorem records_conversionComplete (rssi refLow refHigh : Nat) (s : State) :
    leadsTo (fun t => Records (fun _ => False) s t ∧ t.console.response = s.console.response)
      (execConversionComplete rssi refLow refHigh s) := by
  unfold execConversionComplete
  split
  · exact leadsTo_next.2
      ⟨records_refilled ((quiet_showFree s).changes.trans (changes_completePoint _ _)) 
        ((completePoint_marked _ (showFree s)).of_same rfl rfl), by simp⟩
  · exact leadsTo_next.2 ⟨(Steps.refl s).records _, rfl⟩

theorem occurs_passGapEnd (s : State) : leadsTo (Occurs s) (execPassGapEnd s) := by
  unfold execPassGapEnd
  split
  · exact leadsTo_next.2 { changes := (quiet_beginPoint _ s).changes }
  · exact leadsTo_next.2 (.refl s)

end

/-! ### Every command -/

/-- The plan writes (R2). -/
def writesPlan (c : Instr) : Prop :=
  (∃ p st l h sp cc a b, c = .writeProfile p st l h sp cc a b) ∨
    (∃ p l h sp cc a b, c = .writeProfileUndefined p l h sp cc a b) ∨ (∃ z l h d p ct, c = .writeZone z l h d p ct) ∨
    (∃ a b v, c = .writeCoupling a b v) ∨ (∃ l h, c = .addExclusion l h) ∨ (∃ l h, c = .removeExclusion l h) ∨
    ∃ g fg, c = .writeGuards g fg

/-- The commands that may advance the epoch (R30). -/
def advancesEpoch (c : Instr) : Prop :=
  (∃ z l h d p ct, c = .writeZone z l h d p ct) ∨ (∃ a b v, c = .writeCoupling a b v) ∨
    (∃ l h, c = .addExclusion l h) ∨ (∃ g fg, c = .writeGuards g fg) ∨ (∃ i p z k l, c = .pin i p z k l) ∨
    c = .searchCompletion ∨ c = .checkedPinCompletion ∨ ∃ a b d, c = .conversionComplete a b d

/-- The refills that a command ends before another may start: the one that it completes, or its zone's (R11, R83). -/
def endsRefill (c : Instr) (s : State) (b : Refill) : Prop :=
  (c = .searchCompletion ∧ s.engine.foreground = none) ∨
    ∃ z l h d p ct, c = .writeZone z l h d p ct ∧ z.toNat = b.zone.val

/-- What a command other than the reset leads to: a chain of changes, with the plan, the mode and the epoch changed by their
own commands alone. -/
structure Obeys (c : Instr) (s t : State) : Prop where
  changes : Changes s t
  plan : t.plan = s.plan ∨ writesPlan c
  mode : t.console.mode = s.console.mode ∨ c = .start ∨ c = .stop ∨ c = .clear
  epoch : t.epoch = s.epoch ∨ t.epoch = s.epoch + 1 ∧ advancesEpoch c ∧ MarksAll (endsRefill c s) s t

section
variable {c : Instr} {s t : State}

theorem Leaves.obeys (h : Leaves s t) (plan : writesPlan c) : Obeys c s t :=
  ⟨h.changes, .inr plan, .inl h.mode, .inl h.epoch⟩

theorem Steps.obeys (h : Steps s t) : Obeys c s t := ⟨h.changes, .inl h.plan, .inl h.mode, .inl h.epoch⟩

theorem Turns.obeys (h : Turns s t) (mode : c = .start ∨ c = .stop ∨ c = .clear) : Obeys c s t :=
  ⟨h.changes, .inl h.plan, .inr mode, .inl h.epoch⟩

/-- Marks that leave out fewer refills. -/
theorem MarksAll.mono {ended ended' : Refill → Prop} (h : MarksAll ended s t) (sub : ∀ b, ended b → ended' b) :
    MarksAll ended' s t := fun x held =>
  (h x held).imp_right fun ⟨idle, e0, research, cursor, stage, ends⟩ =>
    ⟨idle, e0, research, cursor, stage, fun b hb => sub b (ends b hb)⟩

/-- The epoch of a command that advances it. -/
theorem Advances.epoch_obeys {ended : Refill → Prop} (h : Advances ended s t) (advances : advancesEpoch c)
    (sub : ∀ b, ended b → endsRefill c s b) :
    t.epoch = s.epoch ∨ t.epoch = s.epoch + 1 ∧ advancesEpoch c ∧ MarksAll (endsRefill c s) s t :=
  h.epoch.imp_right fun ⟨next, marks⟩ => ⟨next, advances, marks.mono sub⟩

theorem Advances.obeys {ended : Refill → Prop} (h : Advances ended s t) (plan : writesPlan c)
    (advances : advancesEpoch c) (sub : ∀ b, ended b → endsRefill c s b) : Obeys c s t :=
  ⟨h.changes, .inr plan, .inl h.mode, h.epoch_obeys advances sub⟩

theorem Records.obeys {ended : Refill → Prop} (h : Records ended s t) (advances : advancesEpoch c)
    (sub : ∀ b, ended b → endsRefill c s b) : Obeys c s t :=
  ⟨h.changes, .inl h.plan, .inl h.mode, h.epoch_obeys advances sub⟩

/-- A response changes nothing that a command's rule is about. -/
theorem Obeys.respond (h : Obeys c s t) (x : Status) (data : List Byte) : Obeys c s (respond x data t) :=
  ⟨h.changes.trans (quiet_respond x data t).changes, h.plan, h.mode, h.epoch⟩

/-- The requests that can be sent whole (R172, R191). -/
def isRequest (c : Instr) : Prop :=
  (encodeFrame c).isSome = true ∧ (∀ code, c ≠ .unknownRequestCode code) ∧ ∀ received, c ≠ .chipSelectReleasedEarly received

/-- Every request is carried out or denied, and obeys. -/
theorem request_replies (h : isRequest c) (s : State) : Replies (Obeys c s) s (exec c s) := by
  have read : ∀ {o}, Replies (Steps s) s o → Replies (Obeys c s) s o := fun k => k.mono fun _ => Steps.obeys
  have unchanged : ∀ data, Replies (Obeys c s) s (accept data s) := fun data => read (.ok (.refl s))
  obtain ⟨sent, known, whole⟩ := h
  cases c with
  | writeProfile p st l h sp c p3 p5 =>
    exact (replies_writeProfile p st l h sp c p3 p5 s).mono fun _ k => k.obeys (.inl ⟨p, st, l, h, sp, c, p3, p5, rfl⟩)
  | writeProfileUndefined p l h sp c p3 p5 =>
    exact (replies_undefineProfile p s).mono fun _ k => k.obeys (.inr (.inl ⟨p, l, h, sp, c, p3, p5, rfl⟩))
  | writeZone z l h d sp t =>
    exact (replies_writeZone z l h d sp t s).mono fun _ k =>
      k.obeys (.inr (.inr (.inl ⟨z, l, h, d, sp, t, rfl⟩))) (.inl ⟨z, l, h, d, sp, t, rfl⟩)
        fun _ same => .inr ⟨z, l, h, d, sp, t, rfl, same⟩
  | writeCoupling a b v =>
    exact (replies_writeCoupling a b v s).mono fun _ k =>
      k.obeys (.inr (.inr (.inr (.inl ⟨a, b, v, rfl⟩)))) (.inr (.inl ⟨a, b, v, rfl⟩)) fun _ => False.elim
  | addExclusion l h =>
    exact (replies_addExclusion l h s).mono fun _ k =>
      k.obeys (.inr (.inr (.inr (.inr (.inl ⟨l, h, rfl⟩))))) (.inr (.inr (.inl ⟨l, h, rfl⟩))) fun _ => False.elim
  | removeExclusion l h =>
    exact (replies_removeExclusion l h s).mono fun _ k => k.obeys (.inr (.inr (.inr (.inr (.inr (.inl ⟨l, h, rfl⟩))))))
  | writeGuards g fg =>
    exact (replies_writeGuards g fg s).mono fun _ k =>
      k.obeys (.inr (.inr (.inr (.inr (.inr (.inr ⟨g, fg, rfl⟩)))))) (.inr (.inr (.inr (.inl ⟨g, fg, rfl⟩))))
        fun _ => False.elim
  | pin i p z ck l =>
    exact (replies_pin i p z ck l s).mono fun _ k =>
      k.obeys (.inr (.inr (.inr (.inr (.inl ⟨i, p, z, ck, l, rfl⟩))))) fun _ => False.elim
  | start => exact (replies_start s).mono fun _ k => k.obeys (.inl rfl)
  | stop => exact (replies_stop s).mono fun _ k => k.obeys (.inr (.inl rfl))
  | clear => exact .ok (Turns.obeys { changes := changes_clearPart s } (.inr (.inr rfl)))
  | readProfile p => exact read (replies_readProfile p s)
  | readZone z => exact read (replies_readZone z s)
  | readCoupling a b => exact read (replies_readCoupling a b s)
  | writeTimeBase code => exact read (replies_writeTimeBase code s)
  | writeLease p => exact read (replies_writeLease p s)
  | writeHold h => exact read (replies_writeHold h s)
  | writeMoveTime t => exact read (replies_writeMoveTime t s)
  | writeDefer u l => exact read (replies_writeDefer u l s)
  | writeStation r b a z ce au => exact read (replies_writeStation r b a z ce au s)
  | removeStation r => exact read (replies_removeStation r s)
  | readStation r => exact read (replies_readStation r s)
  | writeBranch b r t w g d => exact read (replies_writeBranch b r t w g d s)
  | readBranch b => exact read (replies_readBranch b s)
  | branchEnable b => exact read (replies_branchEnable b s)
  | branchDisable b => exact read (replies_branchDisable b s)
  | checkedPin i p z l => exact read (replies_queueCheckedPin i p z l s)
  | retire i => exact read (replies_retire i s)
  | readEntry i => exact read (replies_readEntry i s)
  | readEntries st n => exact read (replies_readEntries st n s)
  | changeover z f => exact read (replies_changeover z f s)
  | check i p z => exact read (replies_check i p z s)
  | audit => exact read (replies_queueHostWork rfl s)
  | readResult => exact read (.ok { changes := (quiet_showFree s).changes })
  | writeSweep l h st se t hy k m e g o sc => exact read (replies_writeSweep l h st se t hy k m e g o sc s)
  | readSweep => exact read (.ok { changes := (quiet_showFree s).changes })
  | sweepStart => exact read (replies_sweepStart s)
  | sweepStop => exact read (.ok { changes := Quiet.changes {} })
  | dropForeign i => exact read (replies_dropForeign i s)
  | readAttention => exact read (.ok { changes := (quiet_clearFlags s).changes })
  | writeMask m => exact read (.ok { changes := Quiet.changes {} })
  | listExclusions | readGuards | readTiming | readCounts | readForeign => exact unchanged _
  | unknownRequestCode code => exact absurd rfl (known code)
  | chipSelectReleasedEarly received => exact absurd rfl (whole received)
  | hardwareReset | tick | leaseCounterDecrement | lapse | holdCounterDecrement | holdExpiry | moveCounterDecrement |
    moveLapse | clearTimerDecrement | clearTimerExpiry | poll | turnoffDelayEnd | replyAccepted | replyWindowExpired |
    replyGapTimeout | replyFailed | quietWaitEnd | strayCharacter | roundGapEnd | branchFault | branchFaultRecovery |
    validReplyNotice | engineTake | candidateEvaluation | searchCompletion | reTest | checkedPinCompletion | auditVisit |
    tuneLatch | settleEnd | conversionComplete | passGapEnd | replyCharacterReceived | lineTransition => cases sent

/-- Every event but the reset obeys, and gives no response. -/
theorem event_occurs (h : encodeFrame c = none) (running : c ≠ .hardwareReset) (s : State) :
    leadsTo (fun t => Obeys c s t ∧ t.console.response = s.console.response) (exec c s) := by
  have step : ∀ {o}, leadsTo (Occurs s) o →
      leadsTo (fun t => Obeys c s t ∧ t.console.response = s.console.response) o := fun k t ht =>
    ⟨(k t ht).toSteps.obeys, (k t ht).response⟩
  have received : ∀ b ch, leadsTo (Occurs s) (.next (receiveChar b ch s)) := fun b ch =>
    leadsTo_next.2 { changes := changes_receiveChar b ch s }
  cases c with
  | hardwareReset => exact absurd rfl running
  | searchCompletion =>
    exact fun t ht => (records_searchCompletion s t ht).imp_left fun k =>
      k.obeys (.inr (.inr (.inr (.inr (.inr (.inl rfl)))))) fun _ idle => .inl ⟨rfl, idle⟩
  | checkedPinCompletion =>
    exact fun t ht => (records_checkedPinCompletion s t ht).imp_left fun k =>
      k.obeys (.inr (.inr (.inr (.inr (.inr (.inr (.inl rfl))))))) fun _ => False.elim
  | conversionComplete a b d =>
    exact fun t ht => (records_conversionComplete a b d s t ht).imp_left fun k =>
      k.obeys (.inr (.inr (.inr (.inr (.inr (.inr (.inr ⟨a, b, d, rfl⟩))))))) fun _ => False.elim
  | tick => exact step (occurs_tick s)
  | leaseCounterDecrement r => exact step (leadsTo_next.2 { changes := (quiet_tickLease r s).changes })
  | lapse r => exact step (occurs_lapse r s)
  | holdCounterDecrement i => exact step (leadsTo_next.2 { changes := changes_tickHold i s })
  | holdExpiry i => exact step (occurs_holdExpiry i s)
  | moveCounterDecrement i => exact step (leadsTo_next.2 { changes := changes_tickMove i s })
  | moveLapse i => exact step (occurs_moveLapse i s)
  | clearTimerDecrement z => exact step (leadsTo_next.2 { changes := changes_tickClear z s })
  | clearTimerExpiry z => exact step (occurs_clearTimerExpiry z s)
  | poll b => exact step (occurs_poll b s)
  | turnoffDelayEnd b => exact step (occurs_due _ { changes := (quiet_releaseTxen b s).changes })
  | replyAccepted b ch => exact step (received b ch)
  | replyWindowExpired b => exact step (occurs_replyWindowExpired b s)
  | replyGapTimeout b => exact step (occurs_replyGapTimeout b s)
  | replyFailed b ch => exact step (received b ch)
  | quietWaitEnd b => exact step (occurs_quietWaitEnd b s)
  | strayCharacter b ch => exact step (received b ch)
  | roundGapEnd b => exact step (occurs_roundGapEnd b s)
  | branchFault b => exact step (occurs_due _ { changes := (quiet_faultBranch b s).changes })
  | branchFaultRecovery b => exact step (occurs_due _ { changes := (quiet_recoverBranch b s).changes })
  | validReplyNotice r => exact step (leadsTo_next.2 { changes := (quiet_takeReplyNotice r s).changes })
  | engineTake => exact step (leadsTo_next.2 { changes := (changes_takeWork s).trans (changes_startRefill _) })
  | candidateEvaluation => exact step (occurs_candidateEvaluation s)
  | reTest => exact step (occurs_reTest s)
  | auditVisit => exact step (occurs_auditVisitEvent s)
  | tuneLatch => exact step (occurs_tuneLatch s)
  | settleEnd => exact step (occurs_settleEnd s)
  | passGapEnd => exact step (occurs_passGapEnd s)
  | replyCharacterReceived b ch => exact step (received b ch)
  | lineTransition b level => exact step (leadsTo_next.2 { changes := (quiet_lineChanges b level s).changes })
  | writeProfile | writeProfileUndefined | readProfile | writeZone | readZone | writeCoupling | readCoupling | addExclusion |
    removeExclusion | listExclusions | writeGuards | readGuards | writeTimeBase | writeLease | writeHold | writeMoveTime |
    writeDefer | readTiming | writeStation | removeStation | readStation | writeBranch | readBranch | branchEnable |
    branchDisable | pin | checkedPin | retire | readEntry | readEntries | readCounts | changeover | check | audit |
    readResult | writeSweep | readSweep | sweepStart | sweepStop | readForeign | dropForeign | start | stop | clear |
    readAttention | writeMask | unknownRequestCode | chipSelectReleasedEarly => cases h

/-- A frame with an unknown code, or released early, is answered at most. -/
theorem frame_obeys (h : (∃ code, c = .unknownRequestCode code) ∨ ∃ received, c = .chipSelectReleasedEarly received)
    (s : State) : leadsTo (Obeys c s) (exec c s) := by
  have unchanged : Obeys c s s := (Steps.refl s).obeys
  rcases h with ⟨code, rfl⟩ | ⟨received, rfl⟩
  · show leadsTo _ (execUnknownRequestCode code s)
    unfold execUnknownRequestCode
    split
    · exact leadsTo_deny.2 (unchanged.respond .unknown [])
    · exact leadsTo_next.2 unchanged
  · exact leadsTo_next.2 (Steps.obeys { changes := Quiet.changes {} })

/-- Every command but the reset obeys. -/
theorem exec_obeys (running : c ≠ .hardwareReset) (s : State) : leadsTo (Obeys c s) (exec c s) := by
  by_cases frame : (∃ code, c = .unknownRequestCode code) ∨ ∃ received, c = .chipSelectReleasedEarly received
  · exact frame_obeys frame s
  obtain ⟨known, whole⟩ := not_or.1 frame
  cases sent : encodeFrame c with
  | none => exact fun t ht => (event_occurs sent running s t ht).1
  | some bytes =>
    have request : isRequest c :=
      ⟨by rw [sent]; rfl, fun code e => known ⟨code, e⟩, fun received e => whole ⟨received, e⟩⟩
    exact (request_replies request s).leadsTo (fun _ _ h => h.respond _ _) fun _ => (Steps.refl s).obeys.respond _ _

end

/-- Every command is a chain of changes. -/
theorem exec_changes (c : Instr) (s : State) : leadsTo (Changes s) (exec c s) := by
  by_cases reset : c = .hardwareReset
  · subst reset
    exact leadsTo_next.2 (Change.reset s).changes
  · exact fun t ht => (exec_obeys reset s t ht).changes

/-- Replacing the queue of commands is quiet. -/
theorem quiet_withPending (s : State) (cs : List Instr) : Quiet s (s.withPending cs) := {}

/-- Every step is a chain of changes. -/
theorem step_changes {s t : State} (h : step s = .next t) : Changes s t := by
  unfold step at h
  split at h
  · cases h
    exact .refl
  · exact (quiet_withPending s _).changes.trans (exec_changes _ _ t h)

/-- What every change keeps, every step keeps. -/
theorem step_keeps {P : State → Prop} (hP : ∀ s t, Change s t → P s → P t) {s t : State} (hs : P s)
    (h : step s = .next t) : P t :=
  (step_changes h).keeps hP hs

end Sys2Proof.Machine
end

section
/-! ## Proofs: the limits of the tables

What each change does to the request queue and to the station records, and from that O48. -/

namespace Sys2Proof.Machine

/-! ### What a plan write stores -/

/-- The plan that a plan write stores. -/
@[simp] theorem writePlan_plan (plan : Plan) (tightens : Bool) (s : State) : (writePlan plan tightens s).plan = plan := by
  cases tightens <;> rfl

/-! ### What the larger changes come to, up to quiet changes -/

section
variable {s : State} {i : Fin 384}

/-- A FREE slot is retired without effect. -/
theorem retireSlot_free (cause : Option RetireCause) (h : s.slots.read i = .free) : retireSlot cause i s = s := by
  unfold retireSlot
  rw [h]

/-- A pin retired is freed. -/
theorem retireSlot_pinned (cause : Option RetireCause) {p : Pinned} (h : s.slots.read i = .pinned p) :
    Quiet (setSlot i .free s) (retireSlot cause i s) := by
  unfold retireSlot
  rw [h]
  exact quiet_emptyBarred _

/-- A spare retired is freed and leaves its zone's list (R131). -/
theorem retireSlot_spare (cause : Option RetireCause) {r : Spare} (h : s.slots.read i = .spare r) :
    Quiet (changeZone r.zone (fun zs => { zs with spares := zs.spares.filter (· ≠ i) }) (setSlot i .free s))
      (retireSlot cause i s) := by
  unfold retireSlot
  rw [h]
  exact quiet_emptyBarred _

/-- An owned slot retired is freed and lowers its owner's held count (R35, R36). -/
theorem retireSlot_owned (cause : Option RetireCause) {o : Owned} (h : s.slots.read i = .owned o) :
    Quiet (lowerHeld o.station (setSlot i .free s)) (retireSlot cause i s) := by
  have told : Quiet (lowerHeld o.station (freeSlot i s)) (giveRetired o cause (lowerHeld o.station (freeSlot i s))) := by
    cases cause with
    | none => exact .refl _
    | some c => exact quiet_giveNotice _ _ _
  have freed : Quiet (lowerHeld o.station (setSlot i .free s)) (withdrawAdvice o.station o.channel
      (giveRetired o cause (lowerHeld o.station (freeSlot i s)))) :=
    ((quiet_emptyBarred (lowerHeld o.station (setSlot i .free s))).trans told).trans (quiet_withdrawAdvice _ _ _)
  unfold retireSlot
  rw [h]
  dsimp only
  split
  · exact freed.trans (quiet_steadyIfDone _ _)
  · exact freed

end

/-! ### Station records kept -/

section
variable {s : State}

theorem retireSlot_stationsKept (cause : Option RetireCause) (i : Fin 384) (s : State) :
    StationsKept s (retireSlot cause i s) := by
  cases h : s.slots.read i with
  | free => rw [retireSlot_free cause h]; exact .refl s
  | pinned p => exact (retireSlot_pinned cause h).stations.kept
  | spare r => exact (retireSlot_spare cause h).stations.kept
  | owned o =>
    have lowered : StationsKept s (lowerHeld o.station (setSlot i .free s)) :=
      stationsKept_change (f := fun st => { st with held := st.held - 1 }) (fun _ => {}) rfl
    exact lowered.trans (retireSlot_owned cause h).stations.kept

theorem retireSlots_stationsKept (cause : Option RetireCause) (is : List (Fin 384)) (s : State) :
    StationsKept s (retireSlots cause is s) :=
  foldl_ind (StationsKept s) _ (fun t i k => k.trans (retireSlot_stationsKept cause i t)) is s (.refl s)

theorem applySpareSettings_stationsKept (z : Fin 16) (old new : ZonePlan) (s : State) :
    StationsKept s (applySpareSettings z old new s) := by
  have discarded : StationsKept s (discardRefill z s) :=
    (stationsStill_of_eq (by simp)).kept
  unfold applySpareSettings
  dsimp only
  split_ifs
  · exact .refl s
  · exact discarded.trans (retireSlots_stationsKept _ _ _)
  · exact discarded.trans (retireSlots_stationsKept _ _ _)

theorem answerWork_stationsKept (r : Fin 48) (a : Answer) (s : State) : StationsKept s (answerWork r a s) :=
  stationsKept_change (f := fun st => { st with answers := st.answers ++ [a], openRequest := false }) (fun _ => {})
    (by rw [answerWork_eq])

theorem closeSearch_stationsKept (job : Job) (why : RefuseReason) (s : State) :
    StationsKept s (closeSearch job why s) := by
  cases job with
  | request w => exact answerWork_stationsKept _ _ s
  | move w => exact answerWork_stationsKept _ _ s
  | refill z => exact .refl s

theorem raiseHeld_stationsKept (r : Fin 48) (s : State) : StationsKept s (raiseHeld r s) :=
  stationsKept_change (f := fun st => { st with held := st.held + 1 }) (fun _ => {}) rfl

theorem openStationWork_stationsKept (r : Fin 48) (w : Work) (s : State) : StationsKept s (openStationWork r w s) :=
  stationsKept_change (f := fun st => { st with openRequest := true }) (fun _ => {})
    (by rw [openStationWork, joinQueue_eq]; rfl)

theorem closeRequest_stationsKept (r : Fin 48) (s : State) : StationsKept s (closeRequest r s) :=
  stationsKept_change (f := fun st => { st with openRequest := false }) (fun _ => {}) rfl

theorem abandonWork_stationsKept (s : State) : StationsKept s (abandonWork s) :=
  foldl_ind (StationsKept s) (fun t k => placeResult k .abandoned t) (fun _ _ h => h) _ _
    (foldl_ind (StationsKept s) (fun t r => closeRequest r t) (fun _ _ h => h.trans (closeRequest_stationsKept _ _)) _ s
      (.refl s))

theorem emptyTables_stationsKept (s : State) : StationsKept s (emptyTables s) := by
  intro r
  show Option.Rel _ _ ((s.stations.each (Option.map Station.fresh)).read r)
  rw [Table.read_each]
  exact optionRel_map fresh_kept _

theorem formPoll_stationsKept (b : Fin 4) (r : Fin 48) (st : Station) (s : State) : StationsKept s (formPoll b r st s) :=
  (stationsStill_change markCarried_still rfl).kept

end

/-! ### What a change does to the station records -/

/-- The fields of a record written keep the limits, and no other record holds its branch and address (R165, R166). -/
structure StationWritten (s : State) (r : Fin 48) (st' : Station) : Prop where
  address : 1 ≤ st'.address ∧ st'.address ≤ 31
  ceiling : 1 ≤ st'.ceiling ∧ st'.ceiling ≤ 64
  alone : ∀ q su, s.stations.read q = some su → su.branch = st'.branch → su.address = st'.address → q = r
  lists : (st'.notices = [] ∧ st'.failures = 0) ∨
    ∃ st, s.stations.read r = some st ∧ st'.notices = st.notices ∧ st'.failures = st.failures

/-- What a change does to the station records: it keeps every one, clears the table, or writes one. -/
inductive StationsChange (s t : State) : Prop
  | kept (h : StationsKept s t)
  | cleared (h : ∀ r, t.stations.read r = none)
  | written {r : Fin 48} {x : Option Station} (h : t.stations = s.stations.write r x)
      (sound : ∀ st', x = some st' → StationWritten s r st')

/-- An address that no other record holds on its branch. -/
theorem addressTaken_eq_false {r : Fin 48} {new : StationSettings} {s : State} (h : addressTaken r new s = false)
    {q : Fin 48} {su : Station} (hq : s.stations.read q = some su) (hb : su.branch = new.branch)
    (ha : su.address = new.address) : q = r := by
  unfold addressTaken at h
  rw [List.any_eq_false] at h
  have hm : (q, some su) ∈ s.stations.entries := by
    rw [Table.entries_eq]
    exact List.mem_map.2 ⟨q, List.mem_finRange q, by rw [hq]⟩
  simpa [hb, ha] using h _ hm

theorem storeStation_stations (r : Fin 48) (new : StationSettings) (s : State) :
    ∃ st', (storeStation r new s).stations = s.stations.write r (some st') ∧ st'.branch = new.branch ∧
      st'.address = new.address ∧ st'.ceiling = new.ceiling ∧ ((st'.notices = [] ∧ st'.failures = 0) ∨
        ∃ st, s.stations.read r = some st ∧ st'.notices = st.notices ∧ st'.failures = st.failures) := by
  unfold storeStation
  split
  · exact ⟨newStation new, rfl, rfl, rfl, rfl, .inl ⟨rfl, rfl⟩⟩
  · rename_i st hst
    split
    · exact ⟨newStation new, rfl, rfl, rfl, rfl, .inl ⟨rfl, rfl⟩⟩
    · rename_i stays
      obtain ⟨hb, ha⟩ : st.branch = new.branch ∧ st.address = new.address := by simpa [movesStation] using stays
      exact ⟨_, rfl, hb, ha, rfl, .inr ⟨st, hst, rfl, rfl⟩⟩

theorem Change.stations {s t : State} (h : Change s t) : StationsChange s t := by
  have same : ∀ {t : State}, t.stations = s.stations → StationsChange s t := fun e =>
    .kept (stationsStill_of_eq e).kept
  cases h with
  | quiet q => exact .kept q.stations.kept
  | reset => exact .cleared reset_stations_read
  | store address ceiling unlocked alone =>
    obtain ⟨st', hw, hb, ha, hc, lists⟩ := storeStation_stations _ _ s
    refine .written hw fun st hst => ?_
    cases hst
    exact
      { address := by rw [ha]; exact address
        ceiling := by rw [hc]; exact ceiling
        alone := fun q su hq b a => addressTaken_eq_false alone hq (b.trans hb) (a.trans ha)
        lists := lists }
  | remove => exact .written rfl fun st hst => by cases hst
  | zone =>
    exact .kept ((stationsStill_of_eq (by simp)).kept.trans (applySpareSettings_stationsKept _ _ _ (writePlan _ _ s)))
  | retire cause i => exact .kept (retireSlot_stationsKept cause i s)
  | handover => exact .kept (retireSlot_stationsKept none _ s)
  | openRequest => exact .kept (openStationWork_stationsKept _ _ s)
  | openMove => exact .kept (openStationWork_stationsKept _ _ s)
  | turnAway =>
    exact .kept ((stationsStill_of_eq (by simp)).kept.trans (closeSearch_stationsKept _ _ (dequeue _ s)))
  | close => exact .kept (closeSearch_stationsKept _ _ s)
  | grant => exact .kept ((raiseHeld_stationsKept _ s).trans (answerWork_stationsKept _ _ _))
  | target => exact .kept (answerWork_stationsKept _ _ _)
  | abandon => exact .kept (abandonWork_stationsKept s)
  | empty => exact .kept (emptyTables_stationsKept s)
  | poll => exact .kept (formPoll_stationsKept _ _ _ s)
  | take | refill | goOn | profile | coupling | addBand | removeBand | guards | openHost | finishHost | takePin | takeAudit =>
    exact same (by simp [setForeground])
  | pin | confirmMove | spare | pinGoesOn | auditGoesOn | closeHost | confirmed => exact same rfl

/-! ### What a change does to the request queue -/

/-- What a change does to the request queue and DEFER (R65, R69). -/
inductive QueueChange (s t : State) : Prop
  | quiet (h : Quiet s t)
  | same (queue : t.engine.queue = s.engine.queue) (upper : t.engine.upper = s.engine.upper)
      (lower : t.engine.lower = s.engine.lower) (defer : t.engine.defer = s.engine.defer)
  | took {w : Work} (queue : s.engine.queue = w :: t.engine.queue) (upper : t.engine.upper = s.engine.upper)
      (lower : t.engine.lower = s.engine.lower)
      (defer : t.engine.defer = (s.engine.defer && decide (s.engine.lower < t.engine.queue.length)))
  | joined {w : Work} (room : queueHasRoom s = true) (queue : t.engine.queue = enqueue w s.engine.queue)
      (upper : t.engine.upper = s.engine.upper) (lower : t.engine.lower = s.engine.lower)
      (defer : t.engine.defer = (s.engine.defer || decide (s.engine.upper ≤ s.engine.queue.length + 1)))
  | emptied (queue : t.engine.queue = []) (upper : t.engine.upper = s.engine.upper)
      (lower : t.engine.lower = s.engine.lower) (defer : t.engine.defer = false)
  | reset (engine : t.engine = Engine.reset)

/-- The queue and DEFER after an entry is taken from the front. -/
theorem queueChange_dequeue {s t : State} {w : Work} {rest : List Work} (front : s.engine.queue = w :: rest)
    (queue : t.engine.queue = (dequeue rest s).engine.queue) (upper : t.engine.upper = (dequeue rest s).engine.upper)
    (lower : t.engine.lower = (dequeue rest s).engine.lower) (defer : t.engine.defer = (dequeue rest s).engine.defer) :
    QueueChange s t := by
  have hq : t.engine.queue = rest := by rw [queue, dequeue_eq]
  refine .took (w := w) (by rw [hq, front]) (upper.trans (by simp)) (lower.trans (by simp)) ?_
  rw [defer, hq, dequeue_eq]

/-- The queue and DEFER after an entry joins. -/
theorem queueChange_joinQueue {s u : State} {w : Work} (room : queueHasRoom s = true) (engine : u.engine = s.engine) :
    QueueChange s (joinQueue w u) := by
  rw [joinQueue_eq, engine]
  exact .joined room rfl rfl rfl rfl

theorem Change.queue {s t : State} (h : Change s t) : QueueChange s t := by
  cases h with
  | quiet q => exact .quiet q
  | reset => exact .reset rfl
  | abandon => exact .emptied rfl (by simp) (by simp) rfl
  | openHost _ _ room => exact queueChange_joinQueue room rfl
  | openRequest _ _ _ room => exact queueChange_joinQueue room rfl
  | openMove _ _ _ _ _ room => exact queueChange_joinQueue room rfl
  | take _ front =>
    exact queueChange_dequeue front (by simp only [setContext_frame]) (by simp only [setContext_frame])
      (by simp only [setContext_frame]) (by simp only [setContext_frame])
  | turnAway _ front =>
    exact queueChange_dequeue front (by simp only [closeSearch_frame]) (by simp only [closeSearch_frame])
      (by simp only [closeSearch_frame]) (by simp only [closeSearch_frame])
  | finishHost _ front =>
    exact queueChange_dequeue front (by simp only [placeResult_frame]) (by simp only [placeResult_frame])
      (by simp only [placeResult_frame]) (by simp only [placeResult_frame])
  | takePin _ front => exact queueChange_dequeue front rfl rfl rfl rfl
  | takeAudit _ front => exact queueChange_dequeue front rfl rfl rfl rfl
  | refill | goOn | profile | zone | coupling | addBand | removeBand | guards | retire | pin | handover | confirmMove | close | grant |
    target | spare | pinGoesOn | auditGoesOn | closeHost | empty | store | remove | poll | confirmed =>
    exact .same (by simp [setForeground, leaveForeground]) (by simp [setForeground, leaveForeground])
      (by simp [setForeground, leaveForeground]) (by simp [setForeground, leaveForeground])

/-! ### The limits kept -/

/-- The entry joins the others (R65). -/
theorem enqueue_perm {w : Work} {q : List Work} : (enqueue w q).Perm (w :: q) := by
  unfold enqueue
  refine List.perm_middle.trans ?_
  rw [List.takeWhile_append_dropWhile]

/-- An entry that joins behind those of its class or an earlier one keeps the queue in the order of the classes (R66). -/
theorem enqueue_classes {w : Work} {q : List Work} (h : q.Pairwise fun x y => x.rank ≤ y.rank) :
    (enqueue w q).Pairwise fun x y => x.rank ≤ y.rank := by
  induction q with
  | nil => simp [enqueue]
  | cons a q ih =>
    rw [List.pairwise_cons] at h
    obtain ⟨first, rest⟩ := h
    by_cases hw : a.rank ≤ w.rank
    · have behind : enqueue w (a :: q) = a :: enqueue w q := by simp [enqueue, hw]
      rw [behind, List.pairwise_cons]
      refine ⟨fun x hx => ?_, ih rest⟩
      have hx : x = w ∨ x ∈ q := by simpa [enqueue_perm.mem_iff] using hx
      rcases hx with rfl | hx
      · exact hw
      · exact first x hx
    · have ahead : enqueue w (a :: q) = w :: a :: q := by simp [enqueue, hw]
      rw [ahead, List.pairwise_cons, List.pairwise_cons]
      refine ⟨fun x hx => ?_, first, rest⟩
      rcases List.mem_cons.1 hx with rfl | hx
      · omega
      · exact (by omega : w.rank ≤ a.rank).trans (first x hx)

/-- The queue stays within its capacity and in the order of the classes (R65, R66). -/
theorem QueueChange.limits {s t : State} (h : QueueChange s t)
    (hs : s.engine.queue.length ≤ 24 ∧ s.engine.queue.Pairwise fun x y => x.rank ≤ y.rank) :
    t.engine.queue.length ≤ 24 ∧ t.engine.queue.Pairwise fun x y => x.rank ≤ y.rank := by
  obtain ⟨length, classes⟩ := hs
  cases h with
  | quiet q => rw [q.queue]; exact ⟨length, classes⟩
  | same queue => rw [queue]; exact ⟨length, classes⟩
  | took queue =>
    rw [queue, List.length_cons] at length
    rw [queue, List.pairwise_cons] at classes
    exact ⟨by omega, classes.2⟩
  | joined room queue =>
    have room : s.engine.queue.length < 24 := of_decide_eq_true room
    rw [queue, enqueue_length]
    exact ⟨room, enqueue_classes classes⟩
  | emptied queue => rw [queue]; exact ⟨by simp, .nil⟩
  | reset engine => rw [engine]; exact ⟨by simp [Engine.reset], .nil⟩

/-- The list of bands stays within its 32 entries (R14). -/
theorem Change.bands {s t : State} (h : Change s t) (hs : s.plan.exclusions.length ≤ 32) :
    t.plan.exclusions.length ≤ 32 := by
  cases h with
  | quiet q => rw [q.plan]; exact hs
  | reset => simp [resetPart, State.reset, Plan.reset]
  | addBand _ _ room => simpa [(insertBand_perm _ _).length_eq] using room
  | removeBand => simpa using (List.length_erase_le).trans hs
  | profile | zone | coupling | guards => simpa using hs
  | retire | pin | handover | confirmMove | openHost | openRequest | openMove | take | turnAway | refill | goOn | close |
    grant | target | spare | finishHost | takePin | takeAudit | pinGoesOn | auditGoesOn | closeHost | abandon | empty |
    store | remove | poll | confirmed => simpa [setForeground] using hs

/-- The foreign list stays within its 32 entries (R145). -/
theorem Change.foreign {s t : State} (h : Change s t) (hs : s.sweep.foreign.length ≤ 32) :
    t.sweep.foreign.length ≤ 32 := by
  cases h with
  | quiet q => exact q.room hs
  | reset => simp [resetPart, Sweep.reset]
  | empty => simp [emptyTables, setForeign]
  | confirmed room => exact room hs
  | profile | zone | coupling | addBand | removeBand | guards | retire | pin | handover | confirmMove | openHost |
    openRequest | openMove | take | turnAway | refill | goOn | close | grant | target | spare | finishHost | takePin |
    takeAudit | pinGoesOn | auditGoesOn | closeHost | abandon | store | remove | poll => simpa [setForeground] using hs

/-- The limits of the station records: notices without two of one key, failures, and addresses that no two records share
(R162, R166, R168, R169). -/
structure StationLimits (s : State) : Prop where
  lists : ∀ r st, s.stations.read r = some st → noticesSound st.notices ∧ st.failures ≤ 4
  addresses : ∀ r q st su, s.stations.read r = some st → s.stations.read q = some su → st.branch = su.branch →
    st.address = su.address → r = q

theorem StationsChange.limits {s t : State} (h : StationsChange s t) (hs : StationLimits s) : StationLimits t := by
  cases h with
  | kept k =>
    constructor
    · intro r st' ht
      obtain ⟨st, hr, same⟩ := k.before ht
      obtain ⟨notices, failures⟩ := hs.lists r st hr
      exact ⟨same.notices notices, same.failures failures⟩
    · intro r q st' su' hr hq hb ha
      obtain ⟨st, hr, ht⟩ := k.before hr
      obtain ⟨su, hq, hu⟩ := k.before hq
      rw [ht.branch, hu.branch] at hb
      rw [ht.address, hu.address] at ha
      exact hs.addresses r q st su hr hq hb ha
  | cleared none => exact ⟨fun r st h => by simp [none] at h, fun r q st su h => by simp [none] at h⟩
  | @written r x write sound =>
    have read : ∀ {q su}, t.stations.read q = some su →
        (q = r ∧ StationWritten s r su) ∨ (q ≠ r ∧ s.stations.read q = some su) := by
      intro q su h
      rw [write, Table.read_write] at h
      split_ifs at h with hq
      · exact .inl ⟨hq.symm, sound su h⟩
      · exact .inr ⟨Ne.symm hq, h⟩
    constructor
    · intro q su h
      rcases read h with ⟨-, new⟩ | ⟨-, old⟩
      · rcases new.lists with ⟨notices, failures⟩ | ⟨st, hst, notices, failures⟩
        · rw [notices, failures]
          exact ⟨noticesSound_nil, by omega⟩
        · rw [notices, failures]
          exact hs.lists r st hst
      · exact hs.lists q su old
    · intro p q sp sq hp hq hb ha
      rcases read hp with ⟨rfl, new⟩ | ⟨hpr, old⟩ <;> rcases read hq with ⟨rfl, new'⟩ | ⟨hqr, old'⟩
      · rfl
      · exact absurd (new.alone q sq old' hb.symm ha.symm) hqr
      · exact absurd (new'.alone p sp old hb ha) hpr
      · exact hs.addresses p q sp sq old old' hb ha

/-- Every change keeps the limits of the tables. -/
theorem Change.limits {s t : State} (h : Change s t) (hs : Limits s) : Limits t :=
  have queue := h.queue.limits ⟨hs.queue, hs.classes⟩
  have stations : StationLimits t := h.stations.limits
    ⟨fun r st k => ⟨⟨hs.notices r st k, hs.keys r st k⟩, hs.failures r st k⟩, hs.addresses⟩
  { queue := queue.1
    classes := queue.2
    bands := h.bands hs.bands
    foreign := h.foreign hs.foreign
    notices := fun r st k => (stations.lists r st k).1.1
    keys := fun r st k => (stations.lists r st k).1.2
    failures := fun r st k => (stations.lists r st k).2
    addresses := stations.addresses }

/-- Settles O48, by the limits that every change keeps. -/
theorem tablesStayWithinTheirLimits : Obligations.TablesStayWithinTheirLimits :=
  fun _ _ => step_keeps fun _ _ => Change.limits

end Sys2Proof.Machine
end

section
/-! ## Proofs: the plan and the settings stay sound

What each change does to the plan and to the settings outside it, and from that O49. -/

namespace Sys2Proof.Machine

/-! ### The plan -/

/-- An entry of a table is in its list. -/
theorem read_mem_toList {α : Type} {n : Nat} (t : Table α n) (i : Fin n) : t.read i ∈ t.toList := by
  rw [Table.toList_eq]
  exact List.mem_map_of_mem (List.mem_finRange i)

/-- A profile is in use by nothing: no slot, no queued work, no foreground work, and no zone with a spare depth above 0
names it (R7). -/
structure ProfileUnused (s : State) (p : Fin 16) : Prop where
  slots : ∀ i, (s.slots.read i).names p = false
  queue : ∀ w ∈ s.engine.queue, w.namesProfile p = false
  foreground : ∀ f, s.engine.foreground = some f → f.namesProfile p = false
  zones : ∀ z, 0 < (s.plan.zones.read z).depth → (s.plan.zones.read z).spareProfile ≠ p

theorem profileInUse_eq_false {s : State} {p : Fin 16} (h : profileInUse s p = false) : ProfileUnused s p := by
  simp only [profileInUse, Bool.or_eq_false_iff, List.any_eq_false, Option.any_eq_false] at h
  obtain ⟨⟨⟨slots, queue⟩, foreground⟩, zones⟩ := h
  refine ⟨fun i => ?_, fun w hw => by simpa using queue w hw, fun f hf => by simpa using foreground f hf,
    fun z hz named => ?_⟩
  · simpa using slots _ (read_mem_toList s.slots i)
  · simpa [hz, named] using zones _ (read_mem_toList s.plan.zones z)

/-- The plan after reset is sound. -/
theorem planSound_reset : PlanSound Plan.reset where
  profiles p := by
    rw [show Plan.reset.profiles.read p = Profile.reset from reset_profiles_read p]
    unfold Profile.inRange
    decide
  zones z := by
    rw [show Plan.reset.zones.read z = ZonePlan.reset from reset_zonePlans_read z]
    unfold ZonePlan.inRange
    decide
  spares z h := by
    rw [show Plan.reset.zones.read z = ZonePlan.reset from reset_zonePlans_read z] at h
    exact absurd h (by decide)
  symmetric a b := by
    have read := reset_coupling_read
    show (State.reset.plan.coupling.read a).read b = (State.reset.plan.coupling.read b).read a
    rw [read, read]
    simp [eq_comm]
  diagonal a := by
    show (State.reset.plan.coupling.read a).read a = .shared
    rw [reset_coupling_read, if_pos rfl]
  bands b h := by cases h
  order := .nil
  guards := by decide

section
variable {p : Plan}

/-- A sound plan with a profile in range written that no zone with a spare depth above 0 names. -/
theorem PlanSound.writeProfile (h : PlanSound p) {i : Fin 16} {r : Profile} (range : r.inRange)
    (unused : ∀ z, 0 < (p.zones.read z).depth → (p.zones.read z).spareProfile ≠ i) :
    PlanSound { p with profiles := p.profiles.write i r } where
  profiles j := by
    rw [Table.read_write]
    split
    · exact range
    · exact h.profiles j
  zones := h.zones
  spares z hz := by
    rw [Table.read_write, if_neg (Ne.symm (unused z hz))]
    exact h.spares z hz
  symmetric := h.symmetric
  diagonal := h.diagonal
  bands := h.bands
  order := h.order
  guards := h.guards

/-- A sound plan with a zone's settings written that lie in their ranges and name a DEFINED profile for its spares. -/
theorem PlanSound.writeZone (h : PlanSound p) {z : Fin 16} {new : ZonePlan} (range : new.inRange)
    (defined : 0 < new.depth → (p.profiles.read new.spareProfile).defined = true) :
    PlanSound { p with zones := p.zones.write z new } where
  profiles := h.profiles
  zones y := by
    rw [Table.read_write]
    split
    · exact range
    · exact h.zones y
  spares y := by
    rw [Table.read_write]
    split
    · exact defined
    · exact h.spares y
  symmetric := h.symmetric
  diagonal := h.diagonal
  bands := h.bands
  order := h.order
  guards := h.guards

/-- A sound plan with both halves of a coupling of two zones written. -/
theorem PlanSound.writeCoupling (h : PlanSound p) {x y : Fin 16} (distinct : x ≠ y) (v : Coupling) :
    PlanSound { p with coupling := coupleBoth x y v p.coupling } where
  profiles := h.profiles
  zones := h.zones
  spares := h.spares
  symmetric a b := by
    rw [coupleBoth_read, coupleBoth_read, h.symmetric a b]
    congr 1
    exact propext ⟨fun k => k.symm.imp And.symm And.symm, fun k => k.symm.imp And.symm And.symm⟩
  diagonal a := by
    rw [coupleBoth_read, if_neg]
    · exact h.diagonal a
    · rintro (⟨hx, hy⟩ | ⟨hy, hx⟩) <;> exact distinct (hx.symm.trans hy)
  bands := h.bands
  order := h.order
  guards := h.guards

/-- A sound plan with a new band in its place. -/
theorem PlanSound.addBand (h : PlanSound p) {b : Band} (range : b.inRange) (new : b ∉ p.exclusions) :
    PlanSound { p with exclusions := insertBand b p.exclusions } where
  profiles := h.profiles
  zones := h.zones
  spares := h.spares
  symmetric := h.symmetric
  diagonal := h.diagonal
  bands x hx := by
    rcases List.mem_cons.1 ((insertBand_perm b p.exclusions).mem_iff.1 hx) with rfl | hx
    · exact range
    · exact h.bands x hx
  order := insertBand_order h.order new
  guards := h.guards

/-- A sound plan without one of its bands. -/
theorem PlanSound.removeBand (h : PlanSound p) (b : Band) :
    PlanSound { p with exclusions := p.exclusions.erase b } where
  profiles := h.profiles
  zones := h.zones
  spares := h.spares
  symmetric := h.symmetric
  diagonal := h.diagonal
  bands x hx := h.bands x (List.mem_of_mem_erase hx)
  order := h.order.sublist List.erase_sublist
  guards := h.guards

end

/-- Every change keeps a sound plan sound. -/
theorem Change.planSound {s t : State} (h : Change s t) (hs : PlanSound s.plan) : PlanSound t.plan := by
  cases h with
  | quiet q => rw [q.plan]; exact hs
  | reset => exact planSound_reset
  | profile unused range =>
    rw [writePlan_plan]
    exact hs.writeProfile (range (hs.profiles _)) (profileInUse_eq_false unused).zones
  | zone range defined =>
    rw [(applySpareSettings_frame _ _ _ _).1, writePlan_plan]
    exact hs.writeZone range defined
  | coupling distinct => rw [writePlan_plan]; exact hs.writeCoupling distinct _
  | addBand range new => rw [writePlan_plan]; exact hs.addBand range new
  | removeBand => rw [writePlan_plan]; exact hs.removeBand _
  | guards range => rw [writePlan_plan]; exact { hs with guards := range }
  | retire | pin | handover | confirmMove | openHost | openRequest | openMove | take | turnAway | refill | goOn | close |
    grant | target | spare | finishHost | takePin | takeAudit | pinGoesOn | auditGoesOn | closeHost | abandon | empty |
    store | remove | poll | confirmed => simpa [setForeground] using hs

/-! ### The settings outside the plan -/

/-- DEFER agrees with its thresholds, and these lie in their range (R68, R69). -/
structure DeferSound (e : Engine) : Prop where
  thresholds : 1 ≤ e.upper ∧ e.upper ≤ 24 ∧ e.lower < e.upper
  on : e.defer = true → e.lower < e.queue.length
  off : e.defer = false → e.queue.length < e.upper

theorem QueueChange.deferSound {s t : State} (h : QueueChange s t) (notQuiet : ¬ Quiet s t) (hs : DeferSound s.engine) :
    DeferSound t.engine := by
  obtain ⟨thresholds, on, off⟩ := hs
  cases h with
  | quiet q => exact absurd q notQuiet
  | same queue upper lower defer =>
    constructor <;> simpa only [queue, upper, lower, defer]
  | took queue upper lower defer =>
    have shorter : s.engine.queue.length = t.engine.queue.length + 1 := by rw [queue, List.length_cons]
    refine ⟨by simpa only [upper, lower], fun h => ?_, fun h => ?_⟩
    · rw [defer, Bool.and_eq_true, decide_eq_true_eq] at h
      rw [lower]
      exact h.2
    · rw [defer, Bool.and_eq_false_iff, decide_eq_false_iff_not] at h
      rw [upper]
      rcases h with h | h
      · have := off h
        omega
      · omega
  | joined room queue upper lower defer =>
    have longer : t.engine.queue.length = s.engine.queue.length + 1 := by rw [queue, enqueue_length]
    refine ⟨by simpa only [upper, lower], fun h => ?_, fun h => ?_⟩
    · rw [defer, Bool.or_eq_true, decide_eq_true_eq] at h
      rw [lower]
      rcases h with h | h
      · have := on h
        omega
      · omega
    · rw [defer, Bool.or_eq_false_iff, decide_eq_false_iff_not] at h
      rw [upper]
      omega
  | emptied queue upper lower defer =>
    refine ⟨by simpa only [upper, lower], fun h => by simp [defer] at h, fun _ => ?_⟩
    rw [queue, upper]
    exact thresholds.1
  | reset engine =>
    rw [engine]
    exact { thresholds := by decide, off := fun _ => by decide, on := fun h => nomatch h }

theorem StationsChange.ranges {s t : State} (h : StationsChange s t)
    (hs : ∀ r st, s.stations.read r = some st → 1 ≤ st.address ∧ st.address ≤ 31 ∧ 1 ≤ st.ceiling ∧ st.ceiling ≤ 64) :
    ∀ r st, t.stations.read r = some st → 1 ≤ st.address ∧ st.address ≤ 31 ∧ 1 ≤ st.ceiling ∧ st.ceiling ≤ 64 := by
  intro r st' ht
  cases h with
  | kept k =>
    obtain ⟨st, hr, same⟩ := k.before ht
    rw [same.address, same.ceiling]
    exact hs r st hr
  | cleared none => simp [none] at ht
  | written write sound =>
    rw [write, Table.read_write] at ht
    split_ifs at ht
    · obtain ⟨⟨a1, a2⟩, c1, c2⟩ : (1 ≤ st'.address ∧ st'.address ≤ 31) ∧ 1 ≤ st'.ceiling ∧ st'.ceiling ≤ 64 :=
        ⟨(sound st' ht).address, (sound st' ht).ceiling⟩
      exact ⟨a1, a2, c1, c2⟩
    · exact hs r st' ht

/-- The settings that no change but a quiet one and the reset writes. -/
structure SettingsKept (s t : State) : Prop where
  timing : t.timing = s.timing
  config : t.sweep.config = s.sweep.config
  branches : ∀ b, (s.branches.read b).inRange → (t.branches.read b).inRange

/-- The station records' polls orphaned, each branch keeps its settings. -/
theorem orphanPolls_inRange (r : Fin 48) (s : State) (b : Fin 4) (h : (s.branches.read b).inRange) :
    ((orphanPolls r s).branches.read b).inRange := by
  unfold orphanPolls
  rw [Table.read_each]
  exact h

theorem storeStation_inRange (r : Fin 48) (new : StationSettings) (s : State) (b : Fin 4)
    (h : (s.branches.read b).inRange) : ((storeStation r new s).branches.read b).inRange := by
  unfold storeStation
  split
  · exact h
  · split
    · exact orphanPolls_inRange r _ b h
    · exact h

theorem Change.settingsKept {s t : State} (h : Change s t) (notQuiet : ¬ Quiet s t) (running : t ≠ resetPart s) :
    SettingsKept s t := by
  cases h with
  | quiet q => exact absurd q notQuiet
  | reset => exact absurd rfl running
  | store => exact ⟨by simp, by simp, fun b => storeStation_inRange _ _ s b⟩
  | remove => exact ⟨rfl, rfl, fun b => orphanPolls_inRange _ _ b⟩
  | poll =>
    refine ⟨rfl, rfl, fun b h => ?_⟩
    show (((changeBranch _ _ s).branches).read b).inRange
    rw [changeBranch_branches, Table.read_change]
    split
    · exact h
    · exact h
  | profile | zone | coupling | addBand | removeBand | guards | retire | pin | handover | confirmMove | openHost |
    openRequest | openMove | take | turnAway | refill | goOn | close | grant | target | spare | finishHost | takePin |
    takeAudit | pinGoesOn | auditGoesOn | closeHost | abandon | empty | confirmed =>
    exact ⟨by simp [setForeground], by simp [setForeground], fun b h => by simpa [setForeground] using h⟩

/-- The settings after reset are sound. -/
theorem settingsSound_reset (s : State) : SettingsSound (resetPart s) where
  lease := by show 1 ≤ 30 ∧ 30 ≤ 255; decide
  hold := by show 0 ≤ 65535; decide
  moveTime := by show 1 ≤ 60 ∧ 60 ≤ 255; decide
  thresholds := by show 1 ≤ 18 ∧ 18 ≤ 24 ∧ 10 < 18; decide
  deferOn h := by cases h
  deferOff _ := by show 0 < 18; decide
  stations r st h := by simp [show (resetPart s).stations.read r = none from reset_stations_read r] at h
  sweep := by
    show SweepConfig.reset.inRange
    unfold SweepConfig.inRange
    decide
  branches b := by
    show ((s.branches.each resetBranch).read b).inRange
    rw [Table.read_each]
    show 1 ≤ 4 ∧ 4 ≤ 15 ∧ 10 ≤ 255 ∧ 1 ≤ 20 ∧ 20 ≤ 255
    decide

/-- Every change keeps the settings outside the plan sound. -/
theorem Change.settingsSound {s t : State} (h : Change s t) (hs : SettingsSound s) : SettingsSound t := by
  by_cases quiet : Quiet s t
  · exact quiet.settings hs
  by_cases reset : t = resetPart s
  · exact reset ▸ settingsSound_reset s
  obtain ⟨timing, config, branches⟩ := h.settingsKept quiet reset
  obtain ⟨thresholds, on, off⟩ := h.queue.deferSound quiet ⟨hs.thresholds, hs.deferOn, hs.deferOff⟩
  exact
    { lease := timing ▸ hs.lease
      hold := timing ▸ hs.hold
      moveTime := timing ▸ hs.moveTime
      thresholds := thresholds
      deferOn := on
      deferOff := off
      stations := h.stations.ranges hs.stations
      sweep := config ▸ hs.sweep
      branches := fun b => branches b (hs.branches b) }

/-- Settles O49, by what every change keeps of the plan and of the settings. -/
theorem planAndSettingsStaySound : Obligations.PlanAndSettingsStaySound :=
  ⟨fun _ _ => step_keeps (P := fun s => PlanSound s.plan) fun _ _ => Change.planSound,
    fun _ _ => step_keeps fun _ _ => Change.settingsSound⟩

end Sys2Proof.Machine
end

section
/-! ## Proofs: the spare lists stay sound

The spare lists against the SPARE slots, the zones' depths and the refill that is held (R127, R131, R132), kept by every
change. -/

namespace Sys2Proof.Machine

/-! ### What the spare lists rest on -/

/-- The zone and the profile of a SPARE slot. -/
def Slot.spare? (x : Slot) : Option (Fin 16 × Fin 16) :=
  match x with
  | .spare r => some (r.zone, r.profile)
  | .free => none
  | .owned _ => none
  | .pinned _ => none

/-- A SPARE slot of a zone by its zone and profile. -/
theorem spareIn_iff {z : Fin 16} {x : Slot} : x.spareIn z ↔ ∃ p, x.spare? = some (z, p) := by
  cases x <;> simp [Slot.spareIn, Slot.spare?]

theorem Slot.Still.spare_eq {x y : Slot} (h : x.Still y) : y.spare? = x.spare? := by
  cases h with
  | spare profile zone => simp [Slot.spare?, profile, zone]
  | free | owned | pinned => rfl

/-- The spare lists hold the SPARE slots of their zones, each once. -/
structure SpareLists (s : State) : Prop where
  members : ∀ z i, i ∈ (s.zones.read z).spares ↔ ∃ p, (s.slots.read i).spare? = some (z, p)
  once : ∀ z, (s.zones.read z).spares.Nodup

theorem SparesSound.lists {s : State} (h : SparesSound s) : SpareLists s where
  members z i := (h.members z i).trans spareIn_iff
  once := h.once

/-- A SPARE slot's profile, with the zone that it is kept for. -/
theorem SparesSound.profile_eq {s : State} (h : SparesSound s) {i : Fin 384} {z p : Fin 16}
    (hi : (s.slots.read i).spare? = some (z, p)) : p = (s.plan.zones.read z).spareProfile := by
  cases hx : s.slots.read i with
  | spare r =>
    rw [hx] at hi
    cases hi
    exact h.profile i r hx
  | free | owned | pinned => simp [hx, Slot.spare?] at hi

/-- The spare lists are sound from the SPARE slots' zones and profiles, the depths, and the zone of the refill. -/
theorem SpareLists.sound {s : State} (h : SpareLists s)
    (depth : ∀ z, (s.zones.read z).spares.length ≤ (s.plan.zones.read z).depth)
    (profile : ∀ i z p, (s.slots.read i).spare? = some (z, p) → p = (s.plan.zones.read z).spareProfile)
    (refill : ∀ b, s.engine.background = some b → (s.zones.read b.zone).spares.length < (s.plan.zones.read b.zone).depth) :
    SparesSound s where
  members z i := (h.members z i).trans spareIn_iff.symm
  once := h.once
  depth := depth
  profile i r hi := profile i r.zone r.profile (by rw [hi]; rfl)
  refill b hb := decide_eq_true (refill b hb)

/-- The zone for which a refill is held. -/
def refillZone (e : Engine) : Option (Fin 16) := e.background.map Refill.zone

/-- Spare lists, SPARE slots, depths and spare profiles that are the same, with no refill but for the same zone. -/
structure SparesSame (s t : State) : Prop where
  slots : ∀ i, (t.slots.read i).spare? = (s.slots.read i).spare? := by exact fun _ => rfl
  lists : ∀ z, (t.zones.read z).spares = (s.zones.read z).spares := by exact fun _ => rfl
  depth : ∀ z, (t.plan.zones.read z).depth = (s.plan.zones.read z).depth := by exact fun _ => rfl
  profile : ∀ z, (t.plan.zones.read z).spareProfile = (s.plan.zones.read z).spareProfile := by exact fun _ => rfl
  refill : ∀ z, refillZone t.engine = some z → refillZone s.engine = some z := by exact fun _ h => h

theorem SparesSound.wants {s : State} (h : SparesSound s) {z : Fin 16} (hz : refillZone s.engine = some z) :
    (s.zones.read z).spares.length < (s.plan.zones.read z).depth := by
  obtain ⟨b, hb, rfl⟩ := Option.map_eq_some_iff.1 hz
  exact of_decide_eq_true (h.refill b hb)

theorem SparesSame.sound {s t : State} (h : SparesSame s t) (hs : SparesSound s) : SparesSound t := by
  have lists : SpareLists t :=
    { members := fun z i => by rw [h.lists, h.slots]; exact hs.lists.members z i
      once := fun z => by rw [h.lists]; exact hs.once z }
  refine lists.sound (fun z => ?_) (fun i z p hi => ?_) fun b hb => ?_
  · rw [h.lists, h.depth]
    exact hs.depth z
  · rw [h.slots] at hi
    rw [h.profile]
    exact hs.profile_eq hi
  · rw [h.lists, h.depth]
    exact hs.wants (h.refill b.zone (by rw [refillZone, hb]; rfl))

theorem SparesSame.trans {s t u : State} (h : SparesSame s t) (k : SparesSame t u) : SparesSame s u where
  slots i := (k.slots i).trans (h.slots i)
  lists z := (k.lists z).trans (h.lists z)
  depth z := (k.depth z).trans (h.depth z)
  profile z := (k.profile z).trans (h.profile z)
  refill z hz := h.refill z (k.refill z hz)

theorem Quiet.sparesSame {s t : State} (h : Quiet s t) : SparesSame s t where
  slots i := (h.slots i).spare_eq
  lists := h.spares
  depth z := by rw [h.plan]
  profile z := by rw [h.plan]
  refill z hz := by rwa [refillZone, ← h.background]

/-- A slot that was no spare and is none is written. -/
theorem sparesSame_setSlot {s : State} {i : Fin 384} {x : Slot} (before : (s.slots.read i).spare? = none)
    (after : x.spare? = none) : SparesSame s (setSlot i x s) where
  slots j := by
    rw [setSlot_slots, Table.read_write]
    split
    · rename_i hij
      rw [after, ← hij, before]
    · rfl

/-- The epoch advances without a change of zones. -/
theorem sparesSame_advanceEpoch (s : State) : SparesSame s (advanceEpoch s) where
  refill z hz := by
    cases hb : s.engine.background with
    | none => simp [refillZone, hb] at hz
    | some b => simpa [refillZone, advanceEpoch, hb] using hz

/-! ### Spares retired -/

/-- The spare lists and SPARE slots of `t` are those of `s` without the slots of a list. -/
structure SparesWithout (is : List (Fin 384)) (s t : State) : Prop where
  slots : ∀ i, (t.slots.read i).spare? = if i ∈ is then none else (s.slots.read i).spare?
  lists : ∀ z, (t.zones.read z).spares = (s.zones.read z).spares.filter (· ∉ is)

theorem SparesWithout.spareLists {is : List (Fin 384)} {s t : State} (h : SparesWithout is s t) (hs : SpareLists s) :
    SpareLists t where
  members z i := by
    rw [h.lists, h.slots, List.mem_filter, hs.members]
    by_cases hi : i ∈ is <;> simp [hi]
  once z := by
    rw [h.lists]
    exact (hs.once z).filter _

theorem SparesWithout.length_le {is : List (Fin 384)} {s t : State} (h : SparesWithout is s t) (z : Fin 16) :
    (t.zones.read z).spares.length ≤ (s.zones.read z).spares.length := by
  rw [h.lists]
  exact List.length_filter_le _ _

theorem SparesWithout.subset {is : List (Fin 384)} {s t : State} (h : SparesWithout is s t) {i : Fin 384}
    {q : Fin 16 × Fin 16} (hi : (t.slots.read i).spare? = some q) : i ∉ is ∧ (s.slots.read i).spare? = some q := by
  rw [h.slots] at hi
  split_ifs at hi with hm
  exact ⟨hm, hi⟩

theorem retireSlot_sparesWithout {s : State} (hs : SpareLists s) (cause : Option RetireCause) (i : Fin 384) :
    SparesWithout [i] s (retireSlot cause i s) := by
  have slots : ∀ j, ((retireSlot cause i s).slots.read j).spare? =
      if j ∈ [i] then none else (s.slots.read j).spare? := by
    intro j
    rw [retireSlot_slots_read]
    by_cases hij : i = j
    · simp [hij, Slot.spare?]
    · simp [hij, Ne.symm hij]
  have unlisted : ∀ z, i ∉ (s.zones.read z).spares →
      (s.zones.read z).spares = (s.zones.read z).spares.filter (· ∉ [i]) := fun z hi => by
    rw [eq_comm, List.filter_eq_self]
    intro j hj
    simpa using fun hij : j = i => hi (hij ▸ hj)
  have noSpare : (s.slots.read i).spare? = none → ∀ z, i ∉ (s.zones.read z).spares := fun h z hi => by
    obtain ⟨p, hp⟩ := (hs.members z i).1 hi
    simp [h] at hp
  refine ⟨slots, fun z => ?_⟩
  cases h : s.slots.read i with
  | free =>
    rw [retireSlot_free cause h]
    exact unlisted z (noSpare (by rw [h]; rfl) z)
  | pinned p =>
    rw [(retireSlot_pinned cause h).spares]
    exact unlisted z (noSpare (by rw [h]; rfl) z)
  | owned o =>
    rw [(retireSlot_owned cause h).spares]
    exact unlisted z (noSpare (by rw [h]; rfl) z)
  | spare r =>
    rw [(retireSlot_spare cause h).spares, changeZone_zones, Table.read_change]
    split
    · simp
    · rename_i hz
      refine unlisted z fun hi => ?_
      obtain ⟨p, hp⟩ := (hs.members z i).1 hi
      rw [h] at hp
      exact hz (Prod.mk.inj (Option.some.inj hp)).1

theorem retireSlots_sparesWithout {s : State} (hs : SpareLists s) (cause : Option RetireCause) (is : List (Fin 384)) :
    SparesWithout is s (retireSlots cause is s) := by
  induction is generalizing s with
  | nil => exact ⟨fun i => by simp [retireSlots], fun z => by simp [retireSlots]⟩
  | cons i rest ih =>
    have first := retireSlot_sparesWithout hs cause i
    have others := ih (first.spareLists hs)
    have run : retireSlots cause (i :: rest) s = retireSlots cause rest (retireSlot cause i s) := rfl
    rw [run]
    refine ⟨fun j => ?_, fun z => ?_⟩
    · rw [others.slots, first.slots]
      by_cases hi : j = i <;> by_cases hr : j ∈ rest <;> simp [hi, hr]
    · rw [others.lists, first.lists, List.filter_filter]
      congr 1
      funext j
      simp [Bool.and_comm]

/-- Spares that are retired leave the lists sound. -/
theorem SparesWithout.sound {is : List (Fin 384)} {s t : State} (h : SparesWithout is s t) (hs : SparesSound s)
    (plan : t.plan = s.plan) (background : t.engine.background = s.engine.background) : SparesSound t := by
  refine (h.spareLists hs.lists).sound (fun z => ?_) (fun i z p hi => ?_) fun b hb => ?_
  · rw [plan]
    exact (h.length_le z).trans (hs.depth z)
  · rw [plan]
    exact hs.profile_eq (h.subset hi).2
  · rw [plan]
    exact (h.length_le _).trans_lt (of_decide_eq_true (hs.refill b (background ▸ hb)))

/-! ### A zone written -/

/-- Discarding a refill leaves the plan. -/
theorem discardRefill_plan (z : Fin 16) (s : State) : (discardRefill z s).plan = s.plan := by simp

/-- Discarding a refill leaves the slots. -/
theorem discardRefill_slots (z : Fin 16) (s : State) : (discardRefill z s).slots = s.slots := by simp

/-- Discarding a refill leaves the spare lists. -/
theorem discardRefill_zones (z : Fin 16) (s : State) : (discardRefill z s).zones = s.zones := by simp

/-- The refill that is left once a zone's refill is discarded (R11). -/
theorem refillZone_discardRefill {s : State} {z y : Fin 16} (h : refillZone (discardRefill z s).engine = some y) :
    refillZone s.engine = some y ∧ y ≠ z := by
  unfold discardRefill at h
  split at h
  · rename_i b hb
    split_ifs at h with hz
    · cases h
    · refine ⟨h, fun hy => hz ?_⟩
      simpa [refillZone, hb, hy] using h
  · rename_i hb
    simp [refillZone, hb] at h

/-- The refill that is left after a plan write. -/
theorem refillZone_writePlan (plan : Plan) (tightens : Bool) (s : State) :
    refillZone (writePlan plan tightens s).engine = refillZone s.engine := by
  cases tightens
  · rfl
  · show Option.map _ (Option.map _ s.engine.background) = _
    rw [Option.map_map]
    rfl

/-- A list without those beyond its first `d` holds at most `d`. -/
theorem filter_sparesBeyond_length (d : Nat) (l : List (Fin 384)) :
    (l.filter (· ∉ sparesBeyond d l)).length ≤ d := by
  have beyond : (l.drop d).filter (· ∉ sparesBeyond d l) = [] := by
    rw [List.filter_eq_nil_iff]
    intro i hi
    simpa [sparesBeyond] using hi
  calc (l.filter (· ∉ sparesBeyond d l)).length
      = ((l.take d ++ l.drop d).filter (· ∉ sparesBeyond d l)).length := by rw [List.take_append_drop]
    _ = ((l.take d).filter (· ∉ sparesBeyond d l)).length := by rw [List.filter_append, beyond, List.append_nil]
    _ ≤ (l.take d).length := List.length_filter_le _ _
    _ ≤ d := List.length_take_le d l

/-- A zone's settings as they stand after the zone is written. -/
theorem zone_written {s t : State} {z y : Fin 16} {new : ZonePlan}
    (plan : t.plan = { s.plan with zones := s.plan.zones.write z new }) :
    t.plan.zones.read y = if z = y then new else s.plan.zones.read y := by
  rw [plan, Table.read_write]

/-- Spares retired where a zone is written: the lists are sound again when the zone's list fits its new depth and keeps no
spare of another profile. -/
theorem SparesWithout.sound_writeZone {s v t : State} {z : Fin 16} {new : ZonePlan} {is : List (Fin 384)}
    (h : SparesWithout is v t) (hs : SparesSound s) (slots : v.slots = s.slots) (zones : v.zones = s.zones)
    (plan : t.plan = { s.plan with zones := s.plan.zones.write z new })
    (refill : ∀ y, refillZone t.engine = some y → refillZone s.engine = some y ∧ y ≠ z)
    (fits : ((s.zones.read z).spares.filter (· ∉ is)).length ≤ new.depth)
    (profile : ∀ i ∈ (s.zones.read z).spares, i ∉ is → (s.plan.zones.read z).spareProfile = new.spareProfile) :
    SparesSound t := by
  have lists : SpareLists v := ⟨fun y i => by rw [zones, slots]; exact hs.lists.members y i, fun y => by
    rw [zones]; exact hs.once y⟩
  have kept : ∀ y, (t.zones.read y).spares.length ≤ (s.zones.read y).spares.length := fun y => by
    rw [← zones]
    exact h.length_le y
  refine (h.spareLists lists).sound (fun y => ?_) (fun i y p hi => ?_) fun b hb => ?_
  · rw [zone_written plan]
    split_ifs with hy
    · rw [h.lists, zones, ← hy]
      exact fits
    · exact (kept y).trans (hs.depth y)
  · obtain ⟨stays, hi⟩ := h.subset hi
    rw [slots] at hi
    rw [hs.profile_eq hi, zone_written plan]
    split_ifs with hy
    · rw [← hy] at hi ⊢
      exact profile i ((hs.lists.members z i).2 ⟨p, hi⟩) stays
    · rfl
  · obtain ⟨held, other⟩ := refill b.zone (by rw [refillZone, hb]; rfl)
    rw [zone_written plan, if_neg (Ne.symm other)]
    exact (kept _).trans_lt (hs.wants held)

/-- The engine's refill through retirements. -/
theorem retireSlots_background (cause : Option RetireCause) (is : List (Fin 384)) (s : State) :
    (retireSlots cause is s).engine.background = s.engine.background :=
  foldl_ind (fun t => t.engine.background = s.engine.background) _ (fun t i h => by simpa using h) is s rfl

/-- The plan through retirements. -/
theorem retireSlots_plan (cause : Option RetireCause) (is : List (Fin 384)) (s : State) :
    (retireSlots cause is s).plan = s.plan :=
  foldl_ind (fun t => t.plan = s.plan) _ (fun t i h => by simpa using h) is s rfl

/-- A zone written and its spares settled leave the spare lists sound (R10, R11, R131, R132). -/
theorem sparesSound_writeZone {s : State} (hs : SparesSound s) (z : Fin 16) (new : ZonePlan) (tightens : Bool) :
    SparesSound (applySpareSettings z (s.plan.zones.read z) new
      (writePlan { s.plan with zones := s.plan.zones.write z new } tightens s)) := by
  have background := refillZone_writePlan { s.plan with zones := s.plan.zones.write z new } tightens s
  have plan := writePlan_plan { s.plan with zones := s.plan.zones.write z new } tightens s
  have slots : (writePlan { s.plan with zones := s.plan.zones.write z new } tightens s).slots = s.slots := by simp
  have zones : (writePlan { s.plan with zones := s.plan.zones.write z new } tightens s).zones = s.zones := by simp
  generalize writePlan { s.plan with zones := s.plan.zones.write z new } tightens s = u at *
  have lists : SpareLists (discardRefill z u) :=
    ⟨fun y i => by rw [discardRefill_slots, discardRefill_zones, slots, zones]; exact hs.lists.members y i,
      fun y => by rw [discardRefill_zones, zones]; exact hs.once y⟩
  have retired : ∀ is : List (Fin 384), ((s.zones.read z).spares.filter (· ∉ is)).length ≤ new.depth →
      (∀ i ∈ (s.zones.read z).spares, i ∉ is → (s.plan.zones.read z).spareProfile = new.spareProfile) →
      SparesSound (retireSlots none is (discardRefill z u)) := fun is =>
    (retireSlots_sparesWithout lists none is).sound_writeZone hs ((discardRefill_slots z u).trans slots)
      ((discardRefill_zones z u).trans zones) (by rw [retireSlots_plan, discardRefill_plan, plan]) fun y hy => by
        rw [refillZone, retireSlots_background] at hy
        rw [← background]
        exact refillZone_discardRefill hy
  unfold applySpareSettings
  dsimp only
  rw [discardRefill_zones, zones]
  split_ifs with same other
  · have same : SparesSame s u :=
      { slots := fun i => by rw [slots]
        lists := fun y => by rw [zones]
        depth := fun y => by
          rw [zone_written plan]
          split_ifs with hy
          · rw [← hy, same.1]
          · rfl
        profile := fun y => by
          rw [zone_written plan]
          split_ifs with hy
          · rw [← hy, same.2]
          · rfl
        refill := fun y hy => by rwa [← background] }
    exact same.sound hs
  · have none_left : (s.zones.read z).spares.filter (· ∉ (s.zones.read z).spares) = [] :=
      List.filter_eq_nil_iff.2 fun i hi => by simpa using hi
    exact retired _ (by rw [none_left]; exact Nat.zero_le _) fun i hi stays => absurd hi stays
  · exact retired _ (filter_sparesBeyond_length _ _) fun _ _ _ => not_ne_iff.1 other

/-! ### Every change -/

/-- Spare lists, slots and plan that are equal, with no refill but for the same zone. -/
theorem sparesSame_of_eq {s t : State} (slots : t.slots = s.slots) (zones : t.zones = s.zones) (plan : t.plan = s.plan)
    (refill : ∀ z, refillZone t.engine = some z → refillZone s.engine = some z) : SparesSame s t where
  slots i := by rw [slots]
  lists z := by rw [zones]
  depth z := by rw [plan]
  profile z := by rw [plan]
  refill := refill

/-- A work answered leaves the spares. -/
theorem sparesSame_answerWork (r : Fin 48) (a : Answer) (s : State) : SparesSame s (answerWork r a s) :=
  sparesSame_of_eq (by simp) (by simp) (by simp) fun z hz => by simpa [refillZone] using hz

/-- A held count raised leaves the spares. -/
theorem sparesSame_raiseHeld (r : Fin 48) (s : State) : SparesSame s (raiseHeld r s) :=
  sparesSame_of_eq rfl rfl rfl fun _ h => h

/-- A plan write that leaves the zones' depths and spare profiles. -/
theorem sparesSame_writePlan {s : State} {plan : Plan} (zones : plan.zones = s.plan.zones) (tightens : Bool) :
    SparesSame s (writePlan plan tightens s) where
  slots i := by simp
  lists z := by simp
  depth z := by rw [writePlan_plan, zones]
  profile z := by rw [writePlan_plan, zones]
  refill z hz := by rwa [refillZone_writePlan] at hz

/-- With no spare list and no SPARE slot there is nothing to keep. -/
theorem sparesSound_of_empty {s : State} (slots : ∀ i, s.slots.read i = .free) (lists : ∀ z, (s.zones.read z).spares = [])
    (background : s.engine.background = none) : SparesSound s where
  members z i := by simp [slots, lists, Slot.spareIn]
  once z := by simp [lists]
  depth z := by simp [lists]
  profile i r h := by simp [slots] at h
  refill b h := by simp [background] at h

/-- A search that ends leaves the refills of other searches (R83). -/
theorem refillZone_closeSearch (job : Job) (why : RefuseReason) (s : State) (z : Fin 16)
    (h : refillZone (closeSearch job why s).engine = some z) : refillZone s.engine = some z := by
  cases job with
  | request w => simpa [refillZone, closeSearch] using h
  | move w => simpa [refillZone, closeSearch] using h
  | refill y => cases h

/-- A context that a search goes on with is for the same zone. -/
theorem refillZone_setContext {s : State} {job : Job} {c c' : SearchContext} (held : holdsSearch s.engine job c)
    (z : Fin 16) (h : refillZone (setContext job c' s).engine = some z) : refillZone s.engine = some z := by
  cases job with
  | request w => exact h
  | move w => exact h
  | refill y =>
    have held : s.engine.background = some { zone := y, context := c } := held
    rw [refillZone, held]
    exact h

/-- The context of a station's search is not the background. -/
theorem refillZone_setContext_entry {s : State} {job : Job} {w : Work} (entry : job.entry = some w) (c : SearchContext) :
    refillZone (setContext job c s).engine = refillZone s.engine := by
  cases job with
  | request w => rfl
  | move w => rfl
  | refill y => cases entry

/-- A spare recorded for a zone that wants one (R32, R83). -/
theorem sparesSound_recordSpare {s : State} (hs : SparesSound s) {z : Fin 16} {c : SearchContext} {f : Nat} {i : Fin 384}
    (held : s.engine.background = some { zone := z, context := c }) (free : s.slots.read i = .free) :
    SparesSound (leaveBackground (advanceEpoch (changeZone z (fun zs => { zs with spares := zs.spares ++ [i] })
      (setSlot i (.spare { frequency := f, profile := (s.plan.zones.read z).spareProfile, zone := z, conflict := false })
        s)))) := by
  have slots : ∀ j, ((s.slots.write i
      (.spare { frequency := f, profile := (s.plan.zones.read z).spareProfile, zone := z, conflict := false })).read
        j).spare? = if i = j then some (z, (s.plan.zones.read z).spareProfile) else (s.slots.read j).spare? := by
    intro j
    rw [Table.read_write]
    split_ifs <;> rfl
  have lists : ∀ y, ((s.zones.change z fun zs => { zs with spares := zs.spares ++ [i] }).read y).spares =
      if z = y then (s.zones.read y).spares ++ [i] else (s.zones.read y).spares := by
    intro y
    rw [Table.read_change]
    split_ifs with hy <;> rfl
  have unlisted : ∀ y, i ∉ (s.zones.read y).spares := fun y hi => by
    obtain ⟨p, hp⟩ := (hs.lists.members y i).1 hi
    simp [free, Slot.spare?] at hp
  have wants : (s.zones.read z).spares.length < (s.plan.zones.read z).depth := hs.wants (by rw [refillZone, held]; rfl)
  refine SpareLists.sound ⟨fun y j => ?_, fun y => ?_⟩ (fun y => ?_) (fun j y p hj => ?_) fun b hb => nomatch hb
  · show j ∈ ((s.zones.change z _).read y).spares ↔ ∃ p, ((s.slots.write i _).read j).spare? = some (y, p)
    rw [lists, slots]
    by_cases hij : i = j
    · subst hij
      have := unlisted y
      by_cases hz : z = y <;> simp [hz, this]
    · rw [if_neg hij, ← hs.lists.members]
      split_ifs <;> simp [Ne.symm hij]
  · show ((s.zones.change z _).read y).spares.Nodup
    rw [lists]
    split_ifs
    · exact (hs.once y).append (by simp) (by simpa using unlisted y)
    · exact hs.once y
  · show ((s.zones.change z _).read y).spares.length ≤ (s.plan.zones.read y).depth
    rw [lists]
    split_ifs with hy
    · subst hy
      simpa using wants
    · exact hs.depth y
  · have hj : ((s.slots.write i _).read j).spare? = some (y, p) := hj
    show p = (s.plan.zones.read y).spareProfile
    rw [slots] at hj
    split_ifs at hj
    · cases hj
      rfl
    · exact hs.profile_eq hj

/-- Every change keeps the spare lists sound. -/
theorem Change.sparesSound {s t : State} (h : Change s t) (hs : SparesSound s) : SparesSound t := by
  cases h with
  | quiet q => exact q.sparesSame.sound hs
  | reset => exact sparesSound_of_empty reset_slots_read (fun z => by simp [resetPart]) rfl
  | profile => exact SparesSame.sound (sparesSame_writePlan (by rfl) _) hs
  | coupling => exact SparesSame.sound (sparesSame_writePlan (by rfl) _) hs
  | addBand => exact SparesSame.sound (sparesSame_writePlan (by rfl) _) hs
  | removeBand => exact SparesSame.sound (sparesSame_writePlan (by rfl) _) hs
  | guards => exact SparesSame.sound (sparesSame_writePlan (by rfl) _) hs
  | zone => exact sparesSound_writeZone hs _ _ _
  | retire cause i => exact (retireSlot_sparesWithout hs.lists cause i).sound hs (by simp) (by simp)
  | pin free =>
    exact ((sparesSame_setSlot (by rw [free]; rfl) rfl).trans (sparesSame_advanceEpoch _)).sound hs
  | @handover _ i j o r _ _ moving _ spare =>
    have retired := (retireSlot_sparesWithout hs.lists none j).sound hs (by simp) (by simp)
    have apart : j ≠ i := fun h => by rw [h, moving] at spare; cases spare
    have moving : ((retireSlot none j s).slots.read i) = .owned o := by rw [retireSlot_slots_read, if_neg apart, moving]
    exact (sparesSame_setSlot (by rw [moving]; rfl) rfl).sound retired
  | confirmMove moving => exact (sparesSame_setSlot (by rw [moving]; rfl) rfl).sound hs
  | take _ _ entry =>
    refine (sparesSame_of_eq (by simp) (by simp) (by simp) fun z hz => ?_).sound hs
    rw [refillZone_setContext_entry entry] at hz
    simpa [refillZone] using hz
  | turnAway =>
    refine (sparesSame_of_eq (by simp) (by simp) (by simp) fun z hz => ?_).sound hs
    simpa [refillZone] using refillZone_closeSearch _ _ _ z hz
  | refill empty wants =>
    refine SpareLists.sound ⟨hs.lists.members, hs.lists.once⟩ hs.depth (fun i z p => hs.profile_eq) fun b hb => ?_
    cases hb
    exact of_decide_eq_true wants
  | goOn held =>
    exact (sparesSame_of_eq (by simp) (by simp) (by simp) (refillZone_setContext held)).sound hs
  | close =>
    exact (sparesSame_of_eq (by simp) (by simp) (by simp) (refillZone_closeSearch _ _ _)).sound hs
  | @grant _ w _ f i _ _ free =>
    have set : SparesSame s (setSlot i (grantSlot s w f) s) := sparesSame_setSlot (by rw [free]; rfl) (by rfl)
    exact (((set.trans (sparesSame_raiseHeld _ _)).trans (sparesSame_advanceEpoch _)).trans
      (sparesSame_answerWork _ _ _)).sound hs
  | @target _ w c f _ _ moving =>
    obtain ⟨o, ho, -, -⟩ := (stillMoving_iff s _).1 moving
    have set : SparesSame s (setSlot w.slot (Machine.openMove f s.timing.moveTime (s.slots.read w.slot)) s) :=
      sparesSame_setSlot (by rw [ho]; rfl) (by rw [ho]; rfl)
    exact ((set.trans (sparesSame_advanceEpoch _)).trans (sparesSame_answerWork _ _ _)).sound hs
  | spare held _ free => exact sparesSound_recordSpare hs held free
  | abandon => exact (sparesSame_of_eq (by simp) (by simp) (by simp) fun z hz => by cases hz).sound hs
  | empty _ _ background =>
    exact sparesSound_of_empty (Table.read_filled _) (fun z => by simp [emptyTables, setForeign, emptyBarred])
      (by simpa using background)
  | @confirmed _ l =>
    have set : SparesSame s (setForeign l s) := sparesSame_of_eq rfl rfl rfl fun _ h => h
    exact (set.trans (sparesSame_advanceEpoch _)).sound hs
  | openHost | openRequest | openMove | finishHost | takePin | takeAudit | pinGoesOn | auditGoesOn | closeHost | store |
    remove | poll =>
    exact (sparesSame_of_eq (by simp [setForeground]) (by simp [setForeground]) (by simp [setForeground])
      fun z hz => by simpa [refillZone, setForeground, leaveForeground] using hz).sound hs

end Sys2Proof.Machine
end

section
/-! ## Proofs: the owners and the open requests stay sound

Open requests counted against the work that is queued or in the foreground (R65, R67), held counts against owned slots (R31,
R36), kept by every change. -/

namespace Sys2Proof.Machine

/-! ### Open requests and held counts as numbers -/

/-- The slots that a station holds by its record; an absent station holds none. -/
def heldCount (s : State) (r : Fin 48) : Nat :=
  match s.stations.read r with
  | some st => st.held
  | none => 0

/-- The owner of a slot. -/
def Slot.owner? (x : Slot) : Option (Fin 48 × Fin 64) :=
  match x with
  | .owned o => some (o.station, o.channel)
  | .free => none
  | .pinned _ => none
  | .spare _ => none

theorem ownedBy_iff {r : Fin 48} {ch : Fin 64} {x : Slot} : x.ownedBy r ch = true ↔ x.owner? = some (r, ch) := by
  cases x <;> simp [Slot.ownedBy, Slot.owner?]

/-- Whether a slot is a station's, by its owner. -/
theorem ownedByStation_eq (r : Fin 48) (x : Slot) :
    x.ownedByStation r = x.owner?.any fun owner => owner.1 == r := by
  cases x <;> rfl

theorem Slot.Still.owner_eq {x y : Slot} (h : x.Still y) : y.owner? = x.owner? := by
  cases h with
  | owned station channel => simp [Slot.owner?, station, channel]
  | free | pinned | spare => rfl

/-- Every poll in progress whose station is not gone has a present record on its branch. -/
def PolledSound (s : State) : Prop :=
  ∀ b r, (s.branches.read b).activity.polled? = some r → ∃ st, s.stations.read r = some st ∧ st.branch = b

/-- The open requests are counted soundly. -/
structure WorkSound (s : State) : Prop where
  stations : ∀ r, stationWork s.engine r = (requestOpen s r).toNat
  host : hostWork s.engine = s.console.openRequest.toNat
  polled : PolledSound s

/-- The slots owned are counted soundly, one owner each, none for which a REQUEST is open. -/
structure HoldersSound (s : State) : Prop where
  held : ∀ r, s.slots.countWith (Slot.ownedByStation r) = heldCount s r
  unique : ∀ r ch i j, (s.slots.read i).owner? = some (r, ch) → (s.slots.read j).owner? = some (r, ch) → i = j
  fresh : ∀ r ch i, requestOpenFor s.engine r ch → (s.slots.read i).owner? ≠ some (r, ch)

/-- The open-request flag of a present record. -/
theorem requestOpen_some {s : State} {r : Fin 48} {st : Station} (h : s.stations.read r = some st) :
    requestOpen s r = st.openRequest := by
  unfold requestOpen
  rw [h]

/-- An absent record has no open request. -/
theorem requestOpen_none {s : State} {r : Fin 48} (h : s.stations.read r = none) : requestOpen s r = false := by
  unfold requestOpen
  rw [h]

/-- The held count of a present record. -/
theorem heldCount_some {s : State} {r : Fin 48} {st : Station} (h : s.stations.read r = some st) :
    heldCount s r = st.held := by
  unfold heldCount
  rw [h]

/-- An absent record holds no slot. -/
theorem heldCount_none {s : State} {r : Fin 48} (h : s.stations.read r = none) : heldCount s r = 0 := by
  unfold heldCount
  rw [h]

/-- A flag as a count. -/
theorem toNat_eq_ite (b : Bool) : b.toNat = if b then 1 else 0 := by cases b <;> rfl

theorem openSound_iff {s : State} : OpenSound s ↔ WorkSound s := by
  constructor
  · intro h
    refine ⟨fun r => ?_, by rw [h.host, toNat_eq_ite], h.polled⟩
    cases hr : s.stations.read r with
    | none => rw [requestOpen_none hr, h.absent r hr, Bool.toNat_false]
    | some st => rw [requestOpen_some hr, h.present r st hr, toNat_eq_ite]
  · intro h
    refine ⟨fun r st hr => ?_, fun r hr => ?_, by rw [h.host, toNat_eq_ite], h.polled⟩
    · rw [h.stations, requestOpen_some hr, toNat_eq_ite]
    · rw [h.stations, requestOpen_none hr, Bool.toNat_false]

/-- No entry of a table has a property that is counted zero times. -/
theorem countWith_eq_zero {α : Type} {n : Nat} {t : Table α n} {p : α → Bool} :
    t.countWith p = 0 ↔ ∀ i, p (t.read i) = false := by
  rw [Table.countWith_eq, List.countP_eq_zero]
  simp

theorem ownersSound_iff {s : State} : OwnersSound s ↔ WorkSound s ∧ HoldersSound s := by
  constructor
  · intro h
    refine ⟨openSound_iff.1 h.requests, fun r => ?_, fun r ch i j hi hj => ?_, fun r ch i hr hi => ?_⟩
    · cases hr : s.stations.read r with
      | none => rw [heldCount_none hr, countWith_eq_zero.2 fun i => h.absent r i hr]
      | some st => rw [heldCount_some hr, h.held r st hr]
    · exact h.unique r ch i j (ownedBy_iff.2 hi) (ownedBy_iff.2 hj)
    · have free := h.fresh r ch i hr
      rw [ownedBy_iff.2 hi] at free
      cases free
  · rintro ⟨work, holders⟩
    refine ⟨openSound_iff.2 work, fun r st hr => ?_, fun r i hr => ?_, fun r ch i j hi hj => ?_, fun r ch i hr => ?_⟩
    · rw [holders.held, heldCount_some hr]
    · refine countWith_eq_zero.1 ?_ i
      rw [holders.held, heldCount_none hr]
    · exact holders.unique r ch i j (ownedBy_iff.1 hi) (ownedBy_iff.1 hj)
    · exact Bool.eq_false_iff.2 fun hi => holders.fresh r ch i hr (ownedBy_iff.1 hi)

/-- The entries of a table that are counted, after one is written. -/
theorem countWith_write {α : Type} {n : Nat} (t : Table α n) (i : Fin n) (x : α) (p : α → Bool) :
    (t.write i x).countWith p + (p (t.read i)).toNat = t.countWith p + (p x).toNat := by
  have split : ∀ u : Table α n, u.countWith p =
      ((List.finRange n).erase i).countP (fun j => p (u.read j)) + (p (u.read i)).toNat := fun u => by
    rw [Table.countWith_eq, (List.perm_cons_erase (List.mem_finRange i)).countP_eq, List.countP_cons]
    cases p (u.read i) <;> rfl
  have others : ((List.finRange n).erase i).countP (fun j => p ((t.write i x).read j)) =
      ((List.finRange n).erase i).countP (fun j => p (t.read j)) := by
    refine List.countP_congr fun j hj => ?_
    rw [Table.read_write, if_neg]
    exact fun hij => (List.nodup_finRange n).not_mem_erase (hij ▸ hj)
  rw [split, split t, others, Table.read_write, if_pos rfl]
  omega

/-- Two tables whose entries agree on a property count it alike. -/
theorem countWith_congr {α : Type} {n : Nat} {t u : Table α n} {p : α → Bool} (h : ∀ i, p (t.read i) = p (u.read i)) :
    t.countWith p = u.countWith p := by
  simp only [Table.countWith_eq, h]

/-! ### The work counted -/

/-- The work of a station in the foreground and in the queue. -/
theorem stationWork_eq (e : Engine) (r : Fin 48) :
    stationWork e r = (e.foreground.bind Foreground.station?).toList.count r + (e.queue.filterMap Work.station?).count r := by
  unfold stationWork openStations
  rw [List.count_append]

/-- The console's work in the foreground and in the queue. -/
theorem hostWork_eq (e : Engine) :
    hostWork e = (e.foreground.bind Foreground.hostKind?).toList.length + (e.queue.filterMap Work.hostKind?).length := by
  unfold hostWork openHostKinds
  rw [List.length_append]

/-- Whether a work is a station's. -/
def Work.isOf (r : Fin 48) (w : Work) : Bool := w.station? == some r

/-- The work that is queued of a station, one entry added. -/
theorem filterMap_station_cons_count (w : Work) (q : List Work) (r : Fin 48) :
    ((w :: q).filterMap Work.station?).count r = (w.isOf r).toNat + (q.filterMap Work.station?).count r := by
  unfold Work.isOf
  cases h : w.station? with
  | none => simp [h]
  | some x =>
    rw [List.filterMap_cons_some h, List.count_cons, Nat.add_comm]
    by_cases hx : x = r <;> simp [hx]

/-- The console work that is queued, one entry added. -/
theorem filterMap_host_cons_length (w : Work) (q : List Work) :
    ((w :: q).filterMap Work.hostKind?).length = w.hostKind?.isSome.toNat + (q.filterMap Work.hostKind?).length := by
  cases h : w.hostKind? with
  | none => simp [h]
  | some x => simp [List.filterMap_cons_some h, Nat.add_comm]

/-- An engine that has one entry more in its queue. -/
theorem stationWork_enqueue {e e' : Engine} {w : Work} (foreground : e'.foreground = e.foreground)
    (queue : e'.queue = enqueue w e.queue) (r : Fin 48) :
    stationWork e' r = (w.isOf r).toNat + stationWork e r := by
  have queued : (e'.queue.filterMap Work.station?).count r = ((w :: e.queue).filterMap Work.station?).count r := by
    rw [queue]
    exact (enqueue_perm.filterMap _).count_eq r
  rw [stationWork_eq, stationWork_eq, foreground, queued, filterMap_station_cons_count]
  omega

theorem hostWork_enqueue {e e' : Engine} {w : Work} (foreground : e'.foreground = e.foreground)
    (queue : e'.queue = enqueue w e.queue) : hostWork e' = w.hostKind?.isSome.toNat + hostWork e := by
  have queued : (e'.queue.filterMap Work.hostKind?).length = ((w :: e.queue).filterMap Work.hostKind?).length := by
    rw [queue]
    exact (enqueue_perm.filterMap _).length_eq
  rw [hostWork_eq, hostWork_eq, foreground, queued, filterMap_host_cons_length]
  omega

/-- An engine without foreground whose front entry is counted apart. -/
theorem stationWork_front {e : Engine} {w : Work} {rest : List Work} (free : e.foreground = none)
    (front : e.queue = w :: rest) (r : Fin 48) :
    stationWork e r = (w.isOf r).toNat + (rest.filterMap Work.station?).count r := by
  rw [stationWork_eq, free, front, filterMap_station_cons_count]
  simp

theorem hostWork_front {e : Engine} {w : Work} {rest : List Work} (free : e.foreground = none)
    (front : e.queue = w :: rest) :
    hostWork e = w.hostKind?.isSome.toNat + (rest.filterMap Work.hostKind?).length := by
  rw [hostWork_eq, free, front, filterMap_host_cons_length]
  simp

/-- A REQUEST that is open for a channel is work of its station. -/
theorem requestOpenFor_isOf {e : Engine} {r : Fin 48} {ch : Fin 64} (h : requestOpenFor e r ch) : 0 < stationWork e r := by
  rw [stationWork_eq]
  rcases h with ⟨w, hw, hr, -⟩ | ⟨w, c, hw, hr, -⟩
  · have : r ∈ e.queue.filterMap Work.station? := List.mem_filterMap.2 ⟨_, hw, congrArg some hr⟩
    exact Nat.add_pos_right _ (List.count_pos_iff.2 this)
  · rw [hw]
    exact Nat.add_pos_left (List.count_pos_iff.2 (by simp [Foreground.station?, hr])) _

/-- With no work there is no REQUEST open. -/
theorem stationWork_empty {e : Engine} (queue : e.queue = []) (foreground : e.foreground = none) (r : Fin 48) :
    stationWork e r = 0 := by
  rw [stationWork_eq, queue, foreground]
  rfl

theorem hostWork_empty {e : Engine} (queue : e.queue = []) (foreground : e.foreground = none) : hostWork e = 0 := by
  rw [hostWork_eq, queue, foreground]
  rfl

/-! ### Nothing that is counted changes -/

/-- The open requests and the work that they are counted against are the same. -/
structure WorkSame (s t : State) : Prop where
  work : ∀ r, stationWork t.engine r = stationWork s.engine r := by exact fun _ => rfl
  flags : ∀ r, requestOpen t r = requestOpen s r := by exact fun _ => rfl
  host : hostWork t.engine = hostWork s.engine := by rfl
  console : t.console.openRequest = s.console.openRequest := by rfl
  polled : PolledSound s → PolledSound t := by exact id

/-- The owners and the counts of owned slots are the same, and no REQUEST is open that was not. -/
structure HoldersSame (s t : State) : Prop where
  owners : ∀ i, (t.slots.read i).owner? = (s.slots.read i).owner? := by exact fun _ => rfl
  held : ∀ r, heldCount t r = heldCount s r := by exact fun _ => rfl
  requests : ∀ r ch, requestOpenFor t.engine r ch → requestOpenFor s.engine r ch := by exact fun _ _ h => h

/-- A property of slots that asks for the owner alone. -/
theorem countWith_owner_congr {s t : State} (h : ∀ i, (t.slots.read i).owner? = (s.slots.read i).owner?) (r : Fin 48) :
    t.slots.countWith (Slot.ownedByStation r) = s.slots.countWith (Slot.ownedByStation r) :=
  countWith_congr fun i => by rw [ownedByStation_eq, ownedByStation_eq, h]

theorem WorkSame.sound {s t : State} (h : WorkSame s t) (hs : WorkSound s) : WorkSound t where
  stations r := by
    rw [h.work, h.flags]
    exact hs.stations r
  host := by
    rw [h.host, h.console]
    exact hs.host
  polled := h.polled hs.polled

theorem HoldersSame.sound {s t : State} (h : HoldersSame s t) (hs : HoldersSound s) : HoldersSound t where
  held r := by
    rw [countWith_owner_congr h.owners, h.held]
    exact hs.held r
  unique r ch i j hi hj := by
    rw [h.owners] at hi hj
    exact hs.unique r ch i j hi hj
  fresh r ch i hr hi := by
    rw [h.owners] at hi
    exact hs.fresh r ch i (h.requests r ch hr) hi

/-- With the same open requests and the same owners, the counts stay sound. -/
theorem OwnersSound.same {s t : State} (hs : OwnersSound s) (work : WorkSame s t) (holders : HoldersSame s t) :
    OwnersSound t := by
  obtain ⟨w, h⟩ := ownersSound_iff.1 hs
  exact ownersSound_iff.2 ⟨work.sound w, holders.sound h⟩

/-- Polls are sound where the records are kept and no branch polls another station. -/
theorem PolledSound.kept {s t : State} (hs : PolledSound s) (stations : StationsKept s t)
    (polled : ∀ b r, (t.branches.read b).activity.polled? = some r → (s.branches.read b).activity.polled? = some r) :
    PolledSound t := by
  intro b r h
  obtain ⟨st, hst, hb⟩ := hs b r (polled b r h)
  obtain ⟨st', ht, same⟩ := stations.after hst
  exact ⟨st', ht, same.branch.trans hb⟩

/-- A record that is present before a change that leaves the records still is present and still after it. -/
theorem StationsStill.after {s t : State} (h : StationsStill s t) {r : Fin 48} {st : Station}
    (hs : s.stations.read r = some st) : ∃ st', t.stations.read r = some st' ∧ st.Still st' := by
  have hr := h r
  rw [hs] at hr
  generalize t.stations.read r = x at hr
  cases hr with
  | some k => exact ⟨_, rfl, k⟩

/-- Open-request flags of records that are still. -/
theorem StationsStill.requestOpen_eq {s t : State} (h : StationsStill s t) (r : Fin 48) :
    requestOpen t r = requestOpen s r := by
  cases hr : s.stations.read r with
  | none => rw [requestOpen_none hr, requestOpen_none (h.kept.absent.2 hr)]
  | some st =>
    obtain ⟨st', ht, still⟩ := h.after hr
    rw [requestOpen_some hr, requestOpen_some ht, still.openRequest]

/-- Held counts of records that are still. -/
theorem StationsStill.heldCount_eq {s t : State} (h : StationsStill s t) (r : Fin 48) : heldCount t r = heldCount s r := by
  cases hr : s.stations.read r with
  | none => rw [heldCount_none hr, heldCount_none (h.kept.absent.2 hr)]
  | some st =>
    obtain ⟨st', ht, still⟩ := h.after hr
    rw [heldCount_some hr, heldCount_some ht, still.held]

theorem Quiet.workSame {s t : State} (h : Quiet s t) : WorkSame s t where
  work r := by rw [stationWork_eq, stationWork_eq, h.foreground, h.queue]
  flags := h.stations.requestOpen_eq
  host := by rw [hostWork_eq, hostWork_eq, h.foreground, h.queue]
  console := h.openRequest
  polled hs := hs.kept h.stations.kept h.polled

theorem Quiet.holdersSame {s t : State} (h : Quiet s t) : HoldersSame s t where
  owners i := (h.slots i).owner_eq
  held := h.stations.heldCount_eq
  requests r ch hr := by rwa [requestOpenFor, ← h.foreground, ← h.queue]

theorem Quiet.ownersSound {s t : State} (h : Quiet s t) (hs : OwnersSound s) : OwnersSound t :=
  hs.same h.workSame h.holdersSame

end Sys2Proof.Machine
end

section
namespace Sys2Proof.Machine

/-! ### One station's record changed -/

section
variable {s t : State} {r : Fin 48} {f : Station → Station}

/-- The open-request flags after one record is changed. -/
theorem requestOpen_change (h : t.stations = s.stations.change r (Option.map f)) (q : Fin 48) :
    requestOpen t q = if r = q then ((s.stations.read r).map f).any Station.openRequest else requestOpen s q := by
  unfold requestOpen
  rw [h, Table.read_change]
  split_ifs with hq
  · subst hq
    cases s.stations.read r <;> rfl
  · rfl

/-- The held counts after one record is changed. -/
theorem heldCount_change (h : t.stations = s.stations.change r (Option.map f)) (q : Fin 48) :
    heldCount t q = if r = q then (((s.stations.read r).map f).map Station.held).getD 0 else heldCount s q := by
  unfold heldCount
  rw [h, Table.read_change]
  split_ifs with hq
  · subst hq
    cases s.stations.read r <;> rfl
  · rfl

/-- A record changed but for its open-request flag. -/
theorem requestOpen_change_same (hf : ∀ st, (f st).openRequest = st.openRequest)
    (h : t.stations = s.stations.change r (Option.map f)) (q : Fin 48) : requestOpen t q = requestOpen s q := by
  rw [requestOpen_change h]
  split_ifs with hq
  · subst hq
    unfold requestOpen
    cases s.stations.read r with
    | none => rfl
    | some st => exact hf st
  · rfl

/-- A record changed so that its request is no longer open. -/
theorem requestOpen_change_false (hf : ∀ st, (f st).openRequest = false)
    (h : t.stations = s.stations.change r (Option.map f)) (q : Fin 48) :
    requestOpen t q = if r = q then false else requestOpen s q := by
  rw [requestOpen_change h]
  split_ifs
  · cases s.stations.read r with
    | none => rfl
    | some st => exact hf st
  · rfl

/-- A record changed but for its held count. -/
theorem heldCount_change_same (hf : ∀ st, (f st).held = st.held)
    (h : t.stations = s.stations.change r (Option.map f)) (q : Fin 48) : heldCount t q = heldCount s q := by
  rw [heldCount_change h]
  split_ifs with hq
  · subst hq
    unfold heldCount
    cases s.stations.read r with
    | none => rfl
    | some st => exact hf st
  · rfl

end

/-! ### A slot released and a slot granted -/

/-- A station that owns a slot has a present record. -/
theorem HoldersSound.present {s : State} (h : HoldersSound s) {r : Fin 48} {ch : Fin 64} {i : Fin 384}
    (hi : (s.slots.read i).owner? = some (r, ch)) : 0 < heldCount s r := by
  rw [← h.held]
  refine Nat.pos_of_ne_zero fun none => ?_
  have := countWith_eq_zero.1 none i
  rw [ownedByStation_eq, hi] at this
  simp at this

/-- The slots of a station, one slot written. -/
theorem countWith_setSlot {s t : State} {i : Fin 384} {owner : Option (Fin 48 × Fin 64)}
    (slots : ∀ j, (t.slots.read j).owner? = if i = j then owner else (s.slots.read j).owner?) (r : Fin 48) :
    t.slots.countWith (Slot.ownedByStation r) + ((s.slots.read i).owner?.any fun o => o.1 == r).toNat =
      s.slots.countWith (Slot.ownedByStation r) + (owner.any fun o => o.1 == r).toNat := by
  have written : t.slots.countWith (Slot.ownedByStation r) =
      (s.slots.write i (t.slots.read i)).countWith (Slot.ownedByStation r) := countWith_congr fun j => by
    rw [Table.read_write]
    split_ifs with hij
    · rw [hij]
    · rw [ownedByStation_eq, ownedByStation_eq, slots, if_neg hij]
  have counted := countWith_write s.slots i (t.slots.read i) (Slot.ownedByStation r)
  rw [ownedByStation_eq, ownedByStation_eq, slots, if_pos rfl] at counted
  rw [written, counted]

/-- A slot that loses its owner, with the owner's held count lowered (R36). -/
theorem HoldersSound.released {s t : State} (hs : HoldersSound s) {i : Fin 384}
    (slots : ∀ j, (t.slots.read j).owner? = if i = j then none else (s.slots.read j).owner?)
    (held : ∀ r, heldCount t r = heldCount s r - ((s.slots.read i).owner?.any fun o => o.1 == r).toNat)
    (requests : ∀ r ch, requestOpenFor t.engine r ch → requestOpenFor s.engine r ch) : HoldersSound t where
  held r := by
    have counted := countWith_setSlot slots r
    rw [hs.held] at counted
    rw [held]
    exact Nat.eq_sub_of_add_eq counted
  unique r ch j k hj hk := by
    rw [slots] at hj hk
    split_ifs at hj hk
    exact hs.unique r ch j k hj hk
  fresh r ch j hr hj := by
    rw [slots] at hj
    split_ifs at hj
    exact hs.fresh r ch j (requests r ch hr) hj

/-- A slot without owner that becomes a station's, with the held count raised (R31). -/
theorem HoldersSound.granted {s t : State} (hs : HoldersSound s) {i : Fin 384} {r : Fin 48} {ch : Fin 64}
    (free : (s.slots.read i).owner? = none) (unowned : ∀ j, (s.slots.read j).owner? ≠ some (r, ch))
    (slots : ∀ j, (t.slots.read j).owner? = if i = j then some (r, ch) else (s.slots.read j).owner?)
    (held : ∀ q, heldCount t q = heldCount s q + (decide (r = q)).toNat)
    (requests : ∀ q c, requestOpenFor t.engine q c → requestOpenFor s.engine q c ∧ q ≠ r) : HoldersSound t where
  held q := by
    have counted := countWith_setSlot slots q
    rw [hs.held, free] at counted
    rw [held]
    simpa [beq_eq_decide] using counted
  unique q c j k hj hk := by
    rw [slots] at hj hk
    split_ifs at hj hk with hij hik hik
    · exact hij.symm.trans hik
    · cases hj
      exact absurd hk (unowned k)
    · cases hk
      exact absurd hj (unowned j)
    · exact hs.unique q c j k hj hk
  fresh q c j hr hj := by
    obtain ⟨before, other⟩ := requests q c hr
    rw [slots] at hj
    split_ifs at hj with hij
    · cases hj
      exact other rfl
    · exact hs.fresh q c j before hj

theorem retireSlot_ownersSound (cause : Option RetireCause) (i : Fin 384) {s : State} (hs : OwnersSound s) :
    OwnersSound (retireSlot cause i s) := by
  have ownerless : ∀ {u : State}, (s.slots.read i).owner? = none → Quiet u (retireSlot cause i s) →
      u.stations = s.stations → OwnersSound (retireSlot cause i s) := fun {u} none q stations =>
    hs.same
      { work := fun r => by simp [stationWork_eq]
        flags := fun r => (q.stations.requestOpen_eq r).trans (by unfold requestOpen; rw [stations])
        host := by simp [hostWork_eq]
        console := by simp
        polled := fun p => p.kept (retireSlot_stationsKept cause i s) fun b r h => by simpa using h }
      { owners := fun j => by
          rw [retireSlot_slots_read]
          split_ifs with hij
          · rw [← hij, none]
            rfl
          · rfl
        held := fun r => (q.stations.heldCount_eq r).trans (by unfold heldCount; rw [stations])
        requests := fun r ch h => by simpa [requestOpenFor] using h }
  cases h : s.slots.read i with
  | free => rw [retireSlot_free cause h]; exact hs
  | pinned p => exact ownerless (by rw [h]; rfl) (retireSlot_pinned cause h) rfl
  | spare r => exact ownerless (by rw [h]; rfl) (retireSlot_spare cause h) rfl
  | owned o =>
    obtain ⟨work, holders⟩ := ownersSound_iff.1 hs
    have lowered : (lowerHeld o.station (setSlot i .free s)).stations =
        s.stations.change o.station (Option.map fun st => { st with held := st.held - 1 }) := rfl
    have q := retireSlot_owned cause h
    refine ownersSound_iff.2 ⟨WorkSame.sound ?_ work, holders.released (i := i) (fun j => ?_) (fun r => ?_) fun r ch k => ?_⟩
    · exact
        { work := fun r => by simp [stationWork_eq]
          flags := fun r => (q.stations.requestOpen_eq r).trans (requestOpen_change_same (by exact fun _ => rfl) lowered r)
          host := by simp [hostWork_eq]
          console := by simp
          polled := fun p => p.kept (retireSlot_stationsKept cause i s) fun b r h => by simpa using h }
    · rw [retireSlot_slots_read]
      split_ifs <;> rfl
    · rw [q.stations.heldCount_eq, heldCount_change lowered, h]
      by_cases hr : o.station = r
      · subst hr
        rw [if_pos rfl]
        cases hst : s.stations.read o.station with
        | none => simp [heldCount_none hst]
        | some st => simp [heldCount_some hst, Slot.owner?]
      · have other : (o.station == r) = false := beq_eq_false_iff_ne.2 hr
        simp [hr, other, Slot.owner?]
    · simpa [requestOpenFor] using k

theorem retireSlots_ownersSound (cause : Option RetireCause) (is : List (Fin 384)) {s : State} (hs : OwnersSound s) :
    OwnersSound (retireSlots cause is s) :=
  foldl_ind OwnersSound _ (fun _ i k => retireSlot_ownersSound cause i k) is s hs

/-! ### Work opened and work answered -/

/-- The work of an engine whose foreground is empty is what is queued. -/
theorem stationWork_idle {e : Engine} (free : e.foreground = none) (r : Fin 48) :
    stationWork e r = (e.queue.filterMap Work.station?).count r := by
  rw [stationWork_eq, free]
  simp

theorem hostWork_idle {e : Engine} (free : e.foreground = none) :
    hostWork e = (e.queue.filterMap Work.hostKind?).length := by
  rw [hostWork_eq, free]
  simp

/-- The work of an engine whose foreground is a station's. -/
theorem stationWork_foreground {e : Engine} {f : Foreground} {q : Fin 48} (held : e.foreground = some f)
    (station : f.station? = some q) (r : Fin 48) :
    stationWork e r = (decide (q = r)).toNat + (e.queue.filterMap Work.station?).count r := by
  rw [stationWork_eq, held]
  by_cases h : q = r <;> simp [station, h]

theorem hostWork_foreground {e : Engine} {f : Foreground} {q : Fin 48} (held : e.foreground = some f)
    (station : f.station? = some q) : hostWork e = (e.queue.filterMap Work.hostKind?).length := by
  rw [hostWork_eq, held]
  cases f with
  | request | move => simp [Foreground.hostKind?]
  | pin | audit => cases station

/-- Work of a station is not the console's. -/
theorem Work.host_of_station {w : Work} {q : Fin 48} (h : w.station? = some q) : w.hostKind?.isSome = false := by
  cases w with
  | request | move => rfl
  | check | pin | audit => cases h

/-- The console's work is no station's. -/
theorem Work.isOf_of_host {w : Work} (h : w.hostKind?.isSome = true) (r : Fin 48) : w.isOf r = false := by
  cases w with
  | request | move => cases h
  | check | pin | audit => rfl

/-- Whether a work is a station's, by its station. -/
theorem Work.isOf_eq {w : Work} {q : Fin 48} (h : w.station? = some q) (r : Fin 48) : w.isOf r = decide (q = r) := by
  unfold Work.isOf
  rw [h]
  by_cases hq : q = r <;> simp [hq]

/-- A station's work answered: its one open request is closed with it (R67). -/
theorem answerWork_workSound {s u : State} (hs : WorkSound s) (r : Fin 48) (a : Answer)
    (flags : ∀ q, requestOpen u q = requestOpen s q) (polled : PolledSound u)
    (console : u.console.openRequest = s.console.openRequest)
    (work : ∀ q, stationWork s.engine q = (decide (r = q)).toNat + (u.engine.queue.filterMap Work.station?).count q)
    (host : hostWork s.engine = (u.engine.queue.filterMap Work.hostKind?).length) : WorkSound (answerWork r a u) where
  stations q := by
    have counted := hs.stations q
    have closed : requestOpen (answerWork r a u) q = if r = q then false else requestOpen u q :=
      requestOpen_change_false (f := fun st => { st with answers := st.answers ++ [a], openRequest := false })
        (fun _ => rfl) (by rw [answerWork_eq]) q
    rw [stationWork_idle (by rw [answerWork_eq]), closed, (answerWork_frame r a u).2.2.2.1]
    rw [work] at counted
    split_ifs with hq
    · have := Bool.toNat_le (requestOpen s q)
      simp only [hq, decide_true, Bool.toNat_true] at counted
      simp only [Bool.toNat_false]
      omega
    · simpa [hq, flags] using counted
  host := by
    rw [hostWork_idle (by rw [answerWork_eq]), (answerWork_frame r a u).2.2.2.1, ← host, hs.host]
    simp [console]
  polled := polled.kept (answerWork_stationsKept r a u) fun b q h => by simpa using h

/-- A station's work answered leaves the owners. -/
theorem answerWork_holdersSame {s u : State} (r : Fin 48) (a : Answer)
    (owners : ∀ i, (u.slots.read i).owner? = (s.slots.read i).owner?) (held : ∀ q, heldCount u q = heldCount s q)
    (queue : ∀ w ∈ u.engine.queue, w ∈ s.engine.queue) : HoldersSame s (answerWork r a u) where
  owners i := by simpa using owners i
  held q := by
    have same : heldCount (answerWork r a u) q = heldCount u q :=
      heldCount_change_same (f := fun st => { st with answers := st.answers ++ [a], openRequest := false })
        (fun _ => rfl) (by rw [answerWork_eq]) q
    rw [same, held]
  requests q ch h := by
    rcases h with ⟨w, hw, hq⟩ | ⟨w, c, hw, -⟩
    · exact .inl ⟨w, queue _ (by simpa using hw), hq⟩
    · rw [answerWork_eq] at hw
      cases hw

/-- A station's work answered, of an engine `u` that counts it no longer or holds it in the foreground. -/
theorem answerWork_ownersSound {s u : State} (hs : OwnersSound s) (q : Fin 48) (a : Answer)
    (stations : u.stations = s.stations) (slots : u.slots = s.slots) (branches : u.branches = s.branches)
    (console : u.console = s.console) (queue : ∀ w ∈ u.engine.queue, w ∈ s.engine.queue)
    (work : ∀ r, stationWork s.engine r = (decide (q = r)).toNat + (u.engine.queue.filterMap Work.station?).count r)
    (host : hostWork s.engine = (u.engine.queue.filterMap Work.hostKind?).length) : OwnersSound (answerWork q a u) := by
  obtain ⟨counted, holders⟩ := ownersSound_iff.1 hs
  exact ownersSound_iff.2
    ⟨answerWork_workSound counted q a (fun r => by unfold requestOpen; rw [stations])
        (fun b r h => by rw [branches] at h; rw [stations]; exact counted.polled b r h) (by rw [console]) work host,
      (answerWork_holdersSame q a (fun i => by rw [slots]) (fun r => by unfold heldCount; rw [stations]) queue).sound
        holders⟩

/-- The work of a station in the foreground answered. -/
theorem answerForeground_ownersSound {s : State} (hs : OwnersSound s) {f : Foreground} {q : Fin 48}
    (held : s.engine.foreground = some f) (station : f.station? = some q) (a : Answer) :
    OwnersSound (answerWork q a s) :=
  answerWork_ownersSound hs q a rfl rfl rfl rfl (fun _ h => h) (stationWork_foreground held station)
    (hostWork_foreground held station)

/-- Work of a station that joins the queue while it has none open (R67). -/
theorem openStationWork_ownersSound {s : State} (hs : OwnersSound s) {r : Fin 48} {w : Work} {st : Station}
    (station : w.station? = some r) (present : s.stations.read r = some st) (closed : requestOpen s r = false)
    (fresh : ∀ v, w = .request v → ∀ i, (s.slots.read i).owner? ≠ some (v.station, v.channel)) :
    OwnersSound (openStationWork r w s) := by
  obtain ⟨counted, holders⟩ := ownersSound_iff.1 hs
  have change : (openStationWork r w s).stations =
      s.stations.change r (Option.map fun st => { st with openRequest := true }) := by
    rw [openStationWork, joinQueue_eq]
    rfl
  have foreground : (openStationWork r w s).engine.foreground = s.engine.foreground := by simp
  have queue : (openStationWork r w s).engine.queue = enqueue w s.engine.queue := by
    rw [openStationWork, joinQueue_eq]
    rfl
  refine ownersSound_iff.2 ⟨⟨fun q => ?_, ?_, ?_⟩, ?_⟩
  · rw [stationWork_enqueue foreground queue, counted.stations, requestOpen_change change, Work.isOf_eq station]
    split_ifs with hq
    · rw [← hq, closed]
      simp [present]
    · simp [hq]
  · rw [hostWork_enqueue foreground queue, counted.host, Work.host_of_station station]
    simp
  · exact counted.polled.kept (openStationWork_stationsKept r w s) fun b q h => by simpa using h
  · constructor
    · intro q
      have same : (openStationWork r w s).slots = s.slots := by simp
      rw [same, holders.held]
      exact (heldCount_change_same (by exact fun _ => rfl) change q).symm
    · intro q ch i j hi hj
      exact holders.unique q ch i j (by simpa using hi) (by simpa using hj)
    · intro q ch i h
      have same : (openStationWork r w s).slots = s.slots := by simp
      rw [same]
      rcases h with ⟨v, hv, rfl, rfl⟩ | ⟨v, c, hv, hq⟩
      · rw [queue, enqueue_perm.mem_iff, List.mem_cons] at hv
        rcases hv with hv | hv
        · exact fresh v hv.symm i
        · exact holders.fresh _ _ i (.inl ⟨v, hv, rfl, rfl⟩)
      · exact holders.fresh q ch i (.inr ⟨v, c, foreground ▸ hv, hq⟩)

/-- A grant recorded for the REQUEST in the foreground (R31, R79). -/
theorem grant_ownersSound {s : State} (hs : OwnersSound s) {w : RequestWork} {c : SearchContext} (f : Nat) {i : Fin 384}
    (held : s.engine.foreground = some (.request w c)) (free : s.slots.read i = .free) (a : Answer) :
    OwnersSound (answerWork w.station a (advanceEpoch (raiseHeld w.station (setSlot i (grantSlot s w f) s)))) := by
  obtain ⟨counted, holders⟩ := ownersSound_iff.1 hs
  have change : (raiseHeld w.station (setSlot i (grantSlot s w f) s)).stations =
      s.stations.change w.station (Option.map fun st => { st with held := st.held + 1 }) := rfl
  have work := stationWork_foreground held (q := w.station) rfl
  have one : stationWork s.engine w.station ≤ 1 := by
    rw [counted.stations]
    exact Bool.toNat_le _
  have present : ∃ st, s.stations.read w.station = some st := by
    cases hst : s.stations.read w.station with
    | some st => exact ⟨st, rfl⟩
    | none =>
      have := counted.stations w.station
      rw [requestOpen_none hst, work] at this
      simp at this
  obtain ⟨st, hst⟩ := present
  refine ownersSound_iff.2 ⟨answerWork_workSound counted w.station a (fun r => ?_)
    (counted.polled.kept (raiseHeld_stationsKept w.station s) fun b q h => by simpa using h) (by simp)
    (by simpa using work) (by simpa using hostWork_foreground held (q := w.station) rfl),
    holders.granted (i := i) (r := w.station) (ch := w.channel) (by rw [free]; rfl) (fun j => ?_) (fun j => ?_) (fun r => ?_)
      fun r ch h => ?_⟩
  · exact requestOpen_change_same (by exact fun _ => rfl) change r
  · exact holders.fresh _ _ j (.inr ⟨w, c, held, rfl, rfl⟩)
  · have slots : (answerWork w.station a (advanceEpoch (raiseHeld w.station (setSlot i (grantSlot s w f) s)))).slots =
        s.slots.write i (grantSlot s w f) := by simp
    rw [slots, Table.read_write]
    split_ifs <;> rfl
  · have answered : heldCount (answerWork w.station a (advanceEpoch (raiseHeld w.station (setSlot i (grantSlot s w f) s)))) r
        = heldCount (raiseHeld w.station (setSlot i (grantSlot s w f) s)) r :=
      heldCount_change_same (f := fun st => { st with answers := st.answers ++ [a], openRequest := false })
        (fun _ => rfl) (by rw [answerWork_eq]; rfl) r
    rw [answered, heldCount_change change, hst]
    split_ifs with hr
    · rw [← hr, heldCount_some hst]
      simp
    · simp [hr]
  · rcases h with ⟨v, hv, hq⟩ | ⟨v, d, hv, -⟩
    · have hv : .request v ∈ s.engine.queue := by simpa using hv
      refine ⟨.inl ⟨v, hv, hq⟩, fun same => ?_⟩
      have queued : 0 < (s.engine.queue.filterMap Work.station?).count w.station :=
        List.count_pos_iff.2 (List.mem_filterMap.2 ⟨_, hv, by rw [← same, ← hq.1]; rfl⟩)
      rw [work] at one
      simp at one
      omega
    · rw [answerWork_eq] at hv
      cases hv

end Sys2Proof.Machine
end

section
namespace Sys2Proof.Machine

/-! ### No work left -/

/-- With no engine work there are no open requests; the slots and their counts are as they were, or none is owned. -/
theorem ownersSound_of_idle {t : State} (queue : t.engine.queue = []) (foreground : t.engine.foreground = none)
    (flags : ∀ r, requestOpen t r = false) (console : t.console.openRequest = false) (polled : PolledSound t)
    (held : ∀ r, t.slots.countWith (Slot.ownedByStation r) = heldCount t r)
    (unique : ∀ r ch i j, (t.slots.read i).owner? = some (r, ch) → (t.slots.read j).owner? = some (r, ch) → i = j) :
    OwnersSound t :=
  ownersSound_iff.2
    ⟨⟨fun r => by rw [stationWork_empty queue foreground, flags, Bool.toNat_false],
        by rw [hostWork_empty queue foreground, console, Bool.toNat_false], polled⟩, held, unique,
      fun r ch i h => absurd (requestOpenFor_isOf h) (by rw [stationWork_empty queue foreground]; exact lt_irrefl 0)⟩

/-- With no slot owned and no count of one. -/
theorem ownersSound_of_unowned {t : State} (queue : t.engine.queue = []) (foreground : t.engine.foreground = none)
    (flags : ∀ r, requestOpen t r = false) (console : t.console.openRequest = false) (polled : PolledSound t)
    (slots : ∀ i, t.slots.read i = .free) (held : ∀ r, heldCount t r = 0) : OwnersSound t :=
  ownersSound_of_idle queue foreground flags console polled
    (fun r => by rw [held, countWith_eq_zero]; exact fun i => by rw [slots]; rfl)
    fun r ch i j hi => by rw [slots] at hi; cases hi

/-- Closing requests station by station: a flag is set after it where it was and the station is not among them. -/
theorem closeRequests_flags (rs : List (Fin 48)) (s : State) (r : Fin 48) :
    requestOpen (rs.foldl (fun t q => closeRequest q t) s) r = (requestOpen s r && decide (r ∉ rs)) := by
  induction rs generalizing s with
  | nil => simp
  | cons q rest ih =>
    have closed : requestOpen (closeRequest q s) r = if q = r then false else requestOpen s r :=
      requestOpen_change_false (f := fun st => { st with openRequest := false }) (fun _ => rfl) rfl r
    rw [List.foldl_cons, ih, closed]
    by_cases hq : q = r
    · simp [hq]
    · simp [hq, Ne.symm hq]

/-- Closing requests leaves the held counts. -/
theorem closeRequests_held (rs : List (Fin 48)) (s : State) (r : Fin 48) :
    heldCount (rs.foldl (fun t q => closeRequest q t) s) r = heldCount s r :=
  foldl_ind (fun t => heldCount t r = heldCount s r) _
    (fun t q h => (heldCount_change_same (f := fun st => { st with openRequest := false }) (fun _ => rfl)
      (t := closeRequest q t) rfl r).trans h) rs s rfl

/-- Results placed leave the stations. -/
theorem placeResults_stations (ks : List HostKind) (o : HostOutcome) (s : State) :
    (ks.foldl (fun t k => placeResult k o t) s).stations = s.stations :=
  foldl_ind (fun t => t.stations = s.stations) (fun t k => placeResult k o t) (fun _ _ h => h) ks s rfl

/-- A result placed closes the console's request. -/
theorem placeResults_openRequest (ks : List HostKind) (o : HostOutcome) (s : State) :
    (ks.foldl (fun t k => placeResult k o t) s).console.openRequest = (s.console.openRequest && decide (ks = [])) := by
  induction ks generalizing s with
  | nil => simp
  | cons k rest ih =>
    rw [List.foldl_cons, ih]
    simp [placeResult, raise]

/-- The stations' records when the work is abandoned. -/
theorem abandonWork_stations (s : State) :
    (abandonWork s).stations = ((openStations s.engine).foldl (fun t r => closeRequest r t) s).stations :=
  placeResults_stations _ _ _

theorem abandonWork_ownersSound {s : State} (hs : OwnersSound s) : OwnersSound (abandonWork s) := by
  obtain ⟨work, holders⟩ := ownersSound_iff.1 hs
  have slots : (abandonWork s).slots = s.slots := by simp
  have closed : ((openStations s.engine).foldl (fun t r => closeRequest r t) s).console = s.console :=
    foldl_ind (fun t => t.console = s.console) (fun t r => closeRequest r t) (fun _ _ h => h) _ s rfl
  refine ownersSound_of_idle rfl rfl (fun r => ?_) ?_ ?_ (fun r => ?_) fun r ch i j => ?_
  · have flag := closeRequests_flags (openStations s.engine) s r
    unfold requestOpen at flag ⊢
    rw [abandonWork_stations, flag, ← requestOpen, Bool.and_eq_false_iff]
    by_cases hr : r ∈ openStations s.engine
    · exact .inr (by simpa using hr)
    · refine .inl ?_
      have none := work.stations r
      rw [stationWork, List.count_eq_zero_of_not_mem hr] at none
      cases hq : requestOpen s r with
      | false => rfl
      | true => rw [hq] at none; cases none
  · have flag := placeResults_openRequest (openHostKinds s.engine) .abandoned
      ((openStations s.engine).foldl (fun t r => closeRequest r t) s)
    refine flag.trans ?_
    rw [closed, Bool.and_eq_false_iff]
    by_cases hk : openHostKinds s.engine = []
    · refine .inl ?_
      have none := work.host
      rw [hostWork, hk] at none
      cases hq : s.console.openRequest with
      | false => rfl
      | true => rw [hq] at none; cases none
    · exact .inr (by simpa using hk)
  · exact work.polled.kept (abandonWork_stationsKept s) fun b r h => by simpa using h
  · have count := closeRequests_held (openStations s.engine) s r
    unfold heldCount at count ⊢
    rw [slots, abandonWork_stations, count, holders.held, heldCount]
  · rw [slots]
    exact holders.unique r ch i j

/-- The tables emptied, with no engine work left (R178). -/
theorem emptyTables_ownersSound {s : State} (hs : OwnersSound s) (queue : s.engine.queue = [])
    (foreground : s.engine.foreground = none) : OwnersSound (emptyTables s) := by
  obtain ⟨work, -⟩ := ownersSound_iff.1 hs
  have fresh : ∀ r, (emptyTables s).stations.read r = (s.stations.read r).map Station.fresh := fun r =>
    Table.read_each _ _ _
  refine ownersSound_of_unowned queue foreground (fun r => ?_) ?_ ?_ (Table.read_filled _) fun r => ?_
  · unfold requestOpen
    rw [fresh]
    cases s.stations.read r <;> rfl
  · have none := work.host
    rw [hostWork_empty queue foreground] at none
    show s.console.openRequest = false
    cases hq : s.console.openRequest with
    | false => rfl
    | true => rw [hq] at none; cases none
  · exact work.polled.kept (emptyTables_stationsKept s) fun b r h => h
  · unfold heldCount
    rw [fresh]
    cases s.stations.read r <;> rfl

theorem resetPart_ownersSound (s : State) : OwnersSound (resetPart s) := by
  have none : ∀ r, (resetPart s).stations.read r = none := reset_stations_read
  refine ownersSound_of_unowned rfl rfl (fun r => requestOpen_none (none r)) rfl (fun b r h => ?_) reset_slots_read
    fun r => heldCount_none (none r)
  have idle : ((resetPart s).branches.read b).activity = .idle := by
    show ((s.branches.each resetBranch).read b).activity = .idle
    rw [Table.read_each]
    rfl
  rw [idle] at h
  cases h

/-! ### Station records written and removed -/

/-- The station polled after a record's polls are orphaned (R166, R167). -/
theorem orphanPolls_polled {r q : Fin 48} {s : State} {b : Fin 4}
    (h : ((orphanPolls r s).branches.read b).activity.polled? = some q) :
    q ≠ r ∧ (s.branches.read b).activity.polled? = some q := by
  unfold orphanPolls at h
  rw [Table.read_each] at h
  cases ha : (s.branches.read b).activity with
  | sending p | listening p =>
    rw [ha] at h
    by_cases hr : p.station = r
    · simp [Activity.polled?, hr] at h
    · simp only [Activity.polled?, hr, if_false] at h ⊢
      refine ⟨fun hq => ?_, h⟩
      split_ifs at h
      exact hr ((Option.some.inj h).trans hq)
  | idle | inRound | quiet | gap =>
    rw [ha] at h
    cases h

/-- One record written that has no request open and holds nothing, in place of one that has and holds the same, with no
branch left polling its station. -/
theorem OwnersSound.recordWritten {s t : State} (hs : OwnersSound s) {r : Fin 48} {x : Option Station}
    (stations : t.stations = s.stations.write r x) (slots : t.slots = s.slots) (engine : t.engine = s.engine)
    (console : t.console = s.console)
    (same : x.any Station.openRequest = requestOpen s r ∧ (x.map Station.held).getD 0 = heldCount s r)
    (polled : ∀ b q, (t.branches.read b).activity.polled? = some q →
      (s.branches.read b).activity.polled? = some q ∧
        (q = r → ∀ st, s.stations.read r = some st → ∃ st', x = some st' ∧ st'.branch = st.branch)) : OwnersSound t := by
  refine hs.same
    { work := fun q => by rw [engine]
      flags := fun q => ?_
      host := by rw [engine]
      console := by rw [console]
      polled := fun p b q h => ?_ }
    { owners := fun i => by rw [slots]
      held := fun q => ?_
      requests := fun q ch h => by rwa [engine] at h }
  · by_cases hq : r = q
    · subst hq
      rw [← same.1]
      unfold requestOpen
      rw [stations, Table.read_write, if_pos rfl]
      cases x <;> rfl
    · unfold requestOpen
      rw [stations, Table.read_write, if_neg hq]
  · obtain ⟨before, branch⟩ := polled b q h
    obtain ⟨st, hst, hb⟩ := p b q before
    rw [stations, Table.read_write]
    split_ifs with hq
    · subst hq
      obtain ⟨st', hx, hb'⟩ := branch rfl st hst
      exact ⟨st', hx, hb'.trans hb⟩
    · exact ⟨st, hst, hb⟩
  · by_cases hq : r = q
    · subst hq
      rw [← same.2]
      unfold heldCount
      rw [stations, Table.read_write, if_pos rfl]
      cases x <;> rfl
    · unfold heldCount
      rw [stations, Table.read_write, if_neg hq]

/-- A station that is not in use has no request open and holds nothing. -/
theorem stationInUse_eq_false {st : Station} (h : stationInUse st = false) : st.openRequest = false ∧ st.held = 0 := by
  simp [stationInUse] at h
  exact ⟨h.2, h.1⟩

theorem removeStation_ownersSound {s : State} (hs : OwnersSound s) {r : Fin 48} {st : Station}
    (present : s.stations.read r = some st) (unused : stationInUse st = false) :
    OwnersSound (orphanPolls r (setStation r none s)) := by
  obtain ⟨closed, none⟩ := stationInUse_eq_false unused
  refine hs.recordWritten (r := r) (x := Option.none) rfl rfl rfl rfl ⟨?_, ?_⟩ fun b q h => ?_
  · rw [requestOpen_some present, closed]
    rfl
  · rw [heldCount_some present, none]
    rfl
  · obtain ⟨other, before⟩ := orphanPolls_polled h
    exact ⟨before, fun hq => absurd hq other⟩

theorem storeStation_ownersSound {s : State} (hs : OwnersSound s) {r : Fin 48} {new : StationSettings}
    (unlocked : stationLocked new (s.stations.read r) = false) : OwnersSound (storeStation r new s) := by
  unfold storeStation
  cases hst : s.stations.read r with
  | none =>
    exact hs.recordWritten (r := r) (x := some (newStation new)) rfl rfl rfl rfl
      ⟨(requestOpen_none hst).symm, (heldCount_none hst).symm⟩ fun b q h =>
        ⟨h, fun _ st k => by rw [hst] at k; cases k⟩
  | some st =>
    rw [hst] at unlocked
    dsimp only
    split
    · rename_i moves
      have unused : stationInUse st = false := by simpa [stationLocked, moves] using unlocked
      obtain ⟨closed, none⟩ := stationInUse_eq_false unused
      refine hs.recordWritten (r := r) (x := some (newStation new)) rfl rfl rfl rfl ⟨?_, ?_⟩ fun b q h => ?_
      · rw [requestOpen_some hst, closed]
        rfl
      · rw [heldCount_some hst, none]
        rfl
      · obtain ⟨other, before⟩ := orphanPolls_polled h
        exact ⟨before, fun hq => absurd hq other⟩
    · exact hs.recordWritten rfl rfl rfl rfl ⟨(requestOpen_some hst).symm, (heldCount_some hst).symm⟩
        fun b q h => ⟨h, fun _ st' k => ⟨_, rfl, by rw [hst] at k; cases k; rfl⟩⟩

/-- A poll formed for a present station on its branch (R160). -/
theorem formPoll_ownersSound {s : State} (hs : OwnersSound s) {b : Fin 4} {r : Fin 48} {st : Station}
    (present : s.stations.read r = some st) (branch : st.branch = b) : OwnersSound (formPoll b r st s) := by
  have still : StationsStill s (formPoll b r st s) := stationsStill_change markCarried_still rfl
  refine hs.same
    { flags := still.requestOpen_eq
      polled := fun p c q h => ?_ }
    { held := still.heldCount_eq }
  have read : (formPoll b r st s).branches.read c = (changeBranch b _ s).branches.read c := rfl
  rw [read, changeBranch_branches, Table.read_change] at h
  split_ifs at h with hc
  · cases h
    obtain ⟨st', hst', same⟩ := still.after present
    exact ⟨st', hst', same.branch.trans (branch.trans hc)⟩
  · obtain ⟨st, hst, hb⟩ := p c q h
    obtain ⟨st', hst', same⟩ := still.after hst
    exact ⟨st', hst', same.branch.trans hb⟩

/-! ### Engine work passed on -/

/-- The slots, the records and the branches the same, and the same work counted in the engine. -/
theorem OwnersSound.sameTables {s t : State} (hs : OwnersSound s) (stations : t.stations = s.stations)
    (slots : ∀ i, (t.slots.read i).owner? = (s.slots.read i).owner?) (branches : t.branches = s.branches)
    (console : t.console.openRequest = s.console.openRequest)
    (work : ∀ r, stationWork t.engine r = stationWork s.engine r) (host : hostWork t.engine = hostWork s.engine)
    (requests : ∀ r ch, requestOpenFor t.engine r ch → requestOpenFor s.engine r ch) : OwnersSound t :=
  hs.same
    { work := work
      flags := fun r => by unfold requestOpen; rw [stations]
      host := host
      console := console
      polled := fun p b r h => by rw [branches] at h; rw [stations]; exact p b r h }
    { owners := slots
      held := fun r => by unfold heldCount; rw [stations]
      requests := requests }

/-- The work that an engine counts by its foreground's station, kind and REQUEST. -/
theorem sameWork_of_foreground {e e' : Engine} (queue : e'.queue = e.queue)
    (station : e'.foreground.bind Foreground.station? = e.foreground.bind Foreground.station?)
    (kind : e'.foreground.bind Foreground.hostKind? = e.foreground.bind Foreground.hostKind?) :
    (∀ r, stationWork e' r = stationWork e r) ∧ hostWork e' = hostWork e :=
  ⟨fun r => by rw [stationWork_eq, stationWork_eq, queue, station], by rw [hostWork_eq, hostWork_eq, queue, kind]⟩

/-- The epoch advances without a change of owners or work (R30). -/
theorem advanceEpoch_ownersSound {s : State} (hs : OwnersSound s) : OwnersSound (advanceEpoch s) := by
  have foreground : (advanceEpoch s).engine.foreground = s.engine.foreground.map Foreground.marked := rfl
  obtain ⟨work, host⟩ := sameWork_of_foreground (e := s.engine) (e' := (advanceEpoch s).engine) rfl
    (by rw [foreground]; cases s.engine.foreground with | none => rfl | some f => cases f <;> rfl)
    (by rw [foreground]; cases s.engine.foreground with | none => rfl | some f => cases f <;> rfl)
  refine hs.sameTables rfl (fun _ => rfl) rfl rfl work host fun r ch h => ?_
  rcases h with queued | ⟨w, c, hw, hr⟩
  · exact .inl queued
  · rw [foreground] at hw
    obtain ⟨f, hf, hm⟩ := Option.map_eq_some_iff.1 hw
    cases f with
    | request v d => cases hm; exact .inr ⟨_, d, hf, hr⟩
    | move | pin | audit => cases hm

/-- A plan write leaves owners and work (R87). -/
theorem writePlan_ownersSound {s : State} (hs : OwnersSound s) (plan : Plan) (tightens : Bool) :
    OwnersSound (writePlan plan tightens s) := by
  have stored : OwnersSound (writePlan plan false s) :=
    hs.sameTables rfl (fun _ => rfl) rfl rfl (fun _ => rfl) rfl fun _ _ h => h
  rw [writePlan_eq]
  split
  · exact advanceEpoch_ownersSound stored
  · exact stored

theorem applySpareSettings_ownersSound {s : State} (hs : OwnersSound s) (z : Fin 16) (old new : ZonePlan) :
    OwnersSound (applySpareSettings z old new s) := by
  have discarded : OwnersSound (discardRefill z s) :=
    hs.sameTables (by simp) (by simp) (by simp) (by simp) (fun r => by simp [stationWork_eq]) (by simp [hostWork_eq])
      fun r ch h => by simpa [requestOpenFor] using h
  unfold applySpareSettings
  dsimp only
  split_ifs
  · exact hs
  · exact retireSlots_ownersSound none _ discarded
  · exact retireSlots_ownersSound none _ discarded

/-- A slot written whose owner stays (R31). -/
theorem setSlot_ownersSound {s : State} (hs : OwnersSound s) {i : Fin 384} {x : Slot}
    (owner : x.owner? = (s.slots.read i).owner?) : OwnersSound (setSlot i x s) := by
  refine hs.sameTables rfl (fun j => ?_) rfl rfl (fun _ => rfl) rfl fun _ _ h => h
  rw [setSlot_slots, Table.read_write]
  split_ifs with hij
  · rw [owner, hij]
  · rfl

/-- The foreground's context goes on as another of the same work. -/
theorem setForeground_ownersSound {s : State} (hs : OwnersSound s) {f g : Foreground} (held : s.engine.foreground = some f)
    (station : g.station? = f.station?) (kind : g.hostKind? = f.hostKind?)
    (request : ∀ w c, g = .request w c → ∃ d, f = .request w d) : OwnersSound (setForeground g s) := by
  obtain ⟨work, host⟩ := sameWork_of_foreground (e := s.engine) (e' := (setForeground g s).engine) rfl
    (by rw [held]; exact station) (by rw [held]; exact kind)
  refine hs.sameTables rfl (fun _ => rfl) rfl rfl work host fun r ch h => ?_
  rcases h with queued | ⟨w, c, hw, hr⟩
  · exact .inl queued
  · obtain ⟨d, hd⟩ := request w c (Option.some.inj hw)
    exact .inr ⟨w, d, held.trans (congrArg some hd), hr⟩

/-- The front entry becomes the foreground's work (R66). -/
theorem takeFront_ownersSound {s : State} (hs : OwnersSound s) {w : Work} {rest : List Work} {f : Foreground}
    (free : s.engine.foreground = none) (front : s.engine.queue = w :: rest) (station : f.station? = w.station?)
    (kind : f.hostKind? = w.hostKind?) (request : ∀ v c, f = .request v c → w = .request v) :
    OwnersSound (setForeground f (dequeue rest s)) := by
  have queue : (setForeground f (dequeue rest s)).engine.queue = rest := by
    show (dequeue rest s).engine.queue = rest
    rw [dequeue_eq]
  have foreground : (setForeground f (dequeue rest s)).engine.foreground = some f := rfl
  refine hs.sameTables (dequeue_frame rest s).2.2.2.2.2.2.2.2.2.2.1 (fun i => by simp [setForeground])
    (by simp [setForeground]) (by simp [setForeground]) (fun r => ?_) ?_ fun r ch h => ?_
  · rw [stationWork_front free front, stationWork_eq, queue, foreground]
    unfold Work.isOf
    rw [← station]
    cases hf : f.station? with
    | none => simp [hf]
    | some q => by_cases hq : q = r <;> simp [hf, hq]
  · rw [hostWork_front free front, hostWork_eq, queue, foreground, ← kind]
    cases hf : f.hostKind? <;> simp [hf]
  · rcases h with ⟨v, hv, hr⟩ | ⟨v, c, hv, hr⟩
    · rw [queue] at hv
      exact .inl ⟨v, by rw [front]; exact List.mem_cons_of_mem _ hv, hr⟩
    · rw [foreground] at hv
      exact .inl ⟨v, by rw [front, request v c (Option.some.inj hv)]; exact List.mem_cons_self, hr⟩

/-- Console work joins the queue while none is open (R72). -/
theorem openHostWork_ownersSound {s : State} (hs : OwnersSound s) {w : Work} (host : w.hostKind?.isSome = true)
    (closed : s.console.openRequest = false) : OwnersSound (openHostWork w s) := by
  obtain ⟨work, holders⟩ := ownersSound_iff.1 hs
  have foreground : (openHostWork w s).engine.foreground = s.engine.foreground := by simp
  have queue : (openHostWork w s).engine.queue = enqueue w s.engine.queue := by
    rw [openHostWork, joinQueue_eq]
  have stations : (openHostWork w s).stations = s.stations := by simp
  refine ownersSound_iff.2 ⟨⟨fun r => ?_, ?_, ?_⟩, HoldersSame.sound ⟨?_, ?_, fun r ch h => ?_⟩ holders⟩
  · rw [stationWork_enqueue foreground queue, Work.isOf_of_host host, work.stations]
    unfold requestOpen
    rw [stations]
    simp
  · rw [hostWork_enqueue foreground queue, host, work.host, closed, openHostWork, joinQueue_eq]
    rfl
  · exact work.polled.kept (stationsStill_of_eq stations).kept fun b r h => by simpa using h
  · simp
  · intro r
    unfold heldCount
    rw [stations]
  · rcases h with ⟨v, hv, hr⟩ | ⟨v, c, hv, hr⟩
    · rw [queue, enqueue_perm.mem_iff, List.mem_cons] at hv
      rcases hv with hv | hv
      · rw [← hv] at host
        cases host
      · exact .inl ⟨v, hv, hr⟩
    · exact .inr ⟨v, c, foreground ▸ hv, hr⟩

/-- Console work ends with its result (R88 to R91). -/
theorem placeResult_ownersSound {s t : State} (hs : OwnersSound s) (stations : t.stations = s.stations)
    (slots : t.slots = s.slots) (branches : t.branches = s.branches) (closed : t.console.openRequest = false)
    (work : ∀ r, stationWork t.engine r = stationWork s.engine r) (host : hostWork s.engine = hostWork t.engine + 1)
    (requests : ∀ r ch, requestOpenFor t.engine r ch → requestOpenFor s.engine r ch) : OwnersSound t := by
  obtain ⟨counted, holders⟩ := ownersSound_iff.1 hs
  refine ownersSound_iff.2 ⟨⟨fun r => ?_, ?_, ?_⟩, HoldersSame.sound ⟨?_, ?_, requests⟩ holders⟩
  · rw [work, counted.stations]
    unfold requestOpen
    rw [stations]
  · have one := counted.host
    have := Bool.toNat_le s.console.openRequest
    rw [closed, Bool.toNat_false]
    omega
  · exact counted.polled.kept (stationsStill_of_eq stations).kept fun b r h => by rwa [branches] at h
  · intro i
    rw [slots]
  · intro r
    unfold heldCount
    rw [stations]

/-! ### Every change -/

/-- A search's foreground context goes on (R74 to R77). -/
theorem setContext_ownersSound {s : State} (hs : OwnersSound s) {job : Job} {c c' : SearchContext}
    (held : holdsSearch s.engine job c) : OwnersSound (setContext job c' s) := by
  cases job with
  | request w =>
    exact setForeground_ownersSound hs (f := .request w c) held rfl rfl fun v d h => ⟨c, by cases h; rfl⟩
  | move w => exact setForeground_ownersSound hs (f := .move w c) held rfl rfl fun v d h => nomatch h
  | refill z => exact hs.sameTables rfl (fun _ => rfl) rfl rfl (fun _ => rfl) rfl fun _ _ h => h

/-- A search that is held ends (R78, R80, R83). -/
theorem close_ownersSound {s : State} (hs : OwnersSound s) {job : Job} {c : SearchContext} (why : RefuseReason)
    (held : holdsSearch s.engine job c) : OwnersSound (closeSearch job why s) := by
  cases job with
  | request w => exact answerForeground_ownersSound hs (f := .request w c) held rfl _
  | move w => exact answerForeground_ownersSound hs (f := .move w c) held rfl _
  | refill z => exact hs.sameTables rfl (fun _ => rfl) rfl rfl (fun _ => rfl) rfl fun _ _ h => h

/-- A station's work at the front answered in the event that takes it. -/
theorem answerFront_ownersSound {s : State} (hs : OwnersSound s) {w : Work} {q : Fin 48} {rest : List Work}
    (free : s.engine.foreground = none) (front : s.engine.queue = w :: rest) (station : w.station? = some q) (a : Answer) :
    OwnersSound (answerWork q a (dequeue rest s)) := by
  have queue : (dequeue rest s).engine.queue = rest := by rw [dequeue_eq]
  refine answerWork_ownersSound hs q a (by simp) (by simp) (by simp) (by simp) (fun v hv => ?_) (fun r => ?_) ?_
  · rw [front]
    exact List.mem_cons_of_mem _ (queue ▸ hv)
  · rw [queue, stationWork_front free front, Work.isOf_eq station]
  · rw [queue, hostWork_front free front, Work.host_of_station station]
    simp

/-- The front entry ends in the event that takes it (R78, R80). -/
theorem turnAway_ownersSound {s : State} (hs : OwnersSound s) {job : Job} {w : Work} {rest : List Work}
    (why : RefuseReason) (free : s.engine.foreground = none) (front : s.engine.queue = w :: rest)
    (entry : job.entry = some w) : OwnersSound (closeSearch job why (dequeue rest s)) := by
  cases job with
  | request v => cases entry; exact answerFront_ownersSound hs free front rfl _
  | move v => cases entry; exact answerFront_ownersSound hs free front rfl _
  | refill z => cases entry

/-- Console work at the front ends in the event that takes it (R88, R89). -/
theorem finishHost_ownersSound {s : State} (hs : OwnersSound s) {w : Work} {rest : List Work} (kind : HostKind)
    (outcome : HostOutcome) (free : s.engine.foreground = none) (front : s.engine.queue = w :: rest)
    (host : w.hostKind?.isSome = true) : OwnersSound (placeResult kind outcome (dequeue rest s)) := by
  have queue : (placeResult kind outcome (dequeue rest s)).engine.queue = rest := by
    rw [(placeResult_frame kind outcome (dequeue rest s)).2.2.2.1, dequeue_eq]
  have idle : (placeResult kind outcome (dequeue rest s)).engine.foreground = none := by
    rw [(placeResult_frame kind outcome (dequeue rest s)).2.2.2.1]
    simpa using free
  refine placeResult_ownersSound hs (by simp) (by simp) (by simp) rfl (fun r => ?_) ?_ fun r ch h => ?_
  · rw [stationWork_idle idle, queue, stationWork_front free front, Work.isOf_of_host host]
    simp
  · rw [hostWork_idle idle, queue, hostWork_front free front, host, Bool.toNat_true, Nat.add_comm]
  · rcases h with ⟨v, hv, hr⟩ | ⟨v, c, hv, -⟩
    · rw [queue] at hv
      exact .inl ⟨v, by rw [front]; exact List.mem_cons_of_mem _ hv, hr⟩
    · rw [idle] at hv
      cases hv

/-- Console work in the foreground ends (R89, R91). -/
theorem closeHost_ownersSound {s : State} (hs : OwnersSound s) {f : Foreground} (kind : HostKind) (outcome : HostOutcome)
    (held : s.engine.foreground = some f) (host : f.hostKind?.isSome = true) :
    OwnersSound (leaveForeground (placeResult kind outcome s)) := by
  have station : f.station? = none := by
    cases f with
    | request | move => cases host
    | pin | audit => rfl
  refine placeResult_ownersSound hs rfl rfl rfl rfl (fun r => ?_) ?_ fun r ch h => ?_
  · rw [stationWork_idle rfl, stationWork_eq, held]
    simp [station, placeResult, raise, leaveForeground]
  · obtain ⟨k, hk⟩ := Option.isSome_iff_exists.1 host
    rw [hostWork_idle (e := (leaveForeground (placeResult kind outcome s)).engine) rfl, hostWork_eq, held]
    simp [hk, placeResult, raise, leaveForeground, Nat.add_comm]
  · rcases h with queued | ⟨v, c, hv, -⟩
    · exact .inl queued
    · cases hv

/-- Every change keeps the owners and the open requests sound. -/
theorem Change.ownersSound {s t : State} (h : Change s t) (hs : OwnersSound s) : OwnersSound t := by
  cases h with
  | quiet q => exact q.ownersSound hs
  | reset => exact resetPart_ownersSound s
  | profile | coupling | addBand | removeBand | guards => exact writePlan_ownersSound hs _ _
  | zone => exact applySpareSettings_ownersSound (writePlan_ownersSound hs _ _) _ _ _
  | retire cause i => exact retireSlot_ownersSound cause i hs
  | pin free => exact advanceEpoch_ownersSound (setSlot_ownersSound hs (by rw [free]; rfl))
  | @handover _ i j o _ _ _ moving _ spare =>
    refine setSlot_ownersSound (retireSlot_ownersSound none j hs) ?_
    have apart : j ≠ i := fun h => by rw [h, moving] at spare; cases spare
    rw [retireSlot_slots_read, if_neg apart, moving]
    rfl
  | confirmMove moving => exact setSlot_ownersSound hs (by rw [moving]; rfl)
  | openHost host closed => exact openHostWork_ownersSound hs host closed
  | @openRequest _ w st present closed fresh =>
    refine openStationWork_ownersSound hs (st := st) rfl present ((requestOpen_some present).trans closed) fun v hv i ho => ?_
    cases hv
    have := fresh i
    rw [ownedBy_iff.2 ho] at this
    cases this
  | @openMove _ w o closed slot station =>
    obtain ⟨-, holders⟩ := ownersSound_iff.1 hs
    have owner : (s.slots.read w.slot).owner? = some (w.station, o.channel) := by
      rw [slot, ← station]
      rfl
    cases hst : s.stations.read w.station with
    | none => exact absurd (holders.present owner) (by rw [heldCount_none hst]; exact lt_irrefl 0)
    | some st => exact openStationWork_ownersSound hs rfl hst closed fun v hv => nomatch hv
  | @take _ job w rest c free front entry =>
    cases job with
    | request v =>
      cases entry
      exact takeFront_ownersSound hs free front rfl rfl fun u d h => by cases h; rfl
    | move v =>
      cases entry
      exact takeFront_ownersSound hs free front rfl rfl fun u d h => nomatch h
    | refill z => cases entry
  | turnAway free front entry => exact turnAway_ownersSound hs _ free front entry
  | refill => exact hs.sameTables rfl (fun _ => rfl) rfl rfl (fun _ => rfl) rfl fun _ _ h => h
  | goOn held => exact setContext_ownersSound hs held
  | close held => exact close_ownersSound hs _ held
  | grant held _ free => exact grant_ownersSound hs _ held free _
  | @target _ w c f held _ moving =>
    obtain ⟨o, ho, -, -⟩ := (stillMoving_iff s _).1 moving
    have set : OwnersSound (setSlot w.slot (Machine.openMove f s.timing.moveTime (s.slots.read w.slot)) s) :=
      setSlot_ownersSound hs (by rw [ho]; rfl)
    have advanced := advanceEpoch_ownersSound set
    have held : (advanceEpoch (setSlot w.slot (Machine.openMove f s.timing.moveTime (s.slots.read w.slot)) s)).engine.foreground
        = some (.move w c.marked) := by
      show s.engine.foreground.map Foreground.marked = _
      rw [held]
      rfl
    exact answerForeground_ownersSound advanced held rfl _
  | @spare _ z c f i _ _ free =>
    have set := setSlot_ownersSound hs (i := i)
      (x := .spare { frequency := f, profile := (s.plan.zones.read z).spareProfile, zone := z, conflict := false })
      (by rw [free]; rfl)
    have listed : OwnersSound (changeZone z (fun zs => { zs with spares := zs.spares ++ [i] }) (setSlot i _ s)) :=
      set.sameTables rfl (fun _ => rfl) rfl rfl (fun _ => rfl) rfl fun _ _ h => h
    exact (advanceEpoch_ownersSound listed).sameTables rfl (fun _ => rfl) rfl rfl (fun _ => rfl) rfl fun _ _ h => h
  | finishHost free front host => exact finishHost_ownersSound hs _ _ free front host
  | takePin free front => exact takeFront_ownersSound hs free front rfl rfl fun v c h => nomatch h
  | takeAudit free front => exact takeFront_ownersSound hs free front rfl rfl fun v c h => nomatch h
  | pinGoesOn held => exact setForeground_ownersSound hs held rfl rfl fun v c h => nomatch h
  | auditGoesOn held => exact setForeground_ownersSound hs held rfl rfl fun v c h => nomatch h
  | closeHost held host => exact closeHost_ownersSound hs _ _ held host
  | abandon => exact abandonWork_ownersSound hs
  | empty queue foreground => exact emptyTables_ownersSound hs queue foreground
  | store _ _ unlocked => exact storeStation_ownersSound hs unlocked
  | remove present unused => exact removeStation_ownersSound hs present unused
  | poll present branch => exact formPoll_ownersSound hs present branch
  | confirmed =>
    exact advanceEpoch_ownersSound (hs.sameTables rfl (fun _ => rfl) rfl rfl (fun _ => rfl) rfl fun _ _ h => h)

end Sys2Proof.Machine
end

section
/-! ## Proofs: found candidates keep passing

What an evaluation that passes says, when it goes on passing as the tables change (R30, R44), and what each change does to
the candidates that are ready to be recorded (R75). -/

namespace Sys2Proof.Machine

/-! ### A passing evaluation -/

/-- An index passes T1 to T6 for a profile in a zone, with a slot's own carriers left out (R55 to R61). -/
structure Passes (s : State) (p z : Fin 16) (leftOut : Option (Fin 384)) (f : Nat) : Prop where
  window : testWindow s p z f = true
  exclusions : ∀ b ∈ s.plan.exclusions, inGuardedBand s.plan.g f b = false
  foreign : ∀ e ∈ s.sweep.foreign, e.confirmed = true → s.plan.fg ≤ distance f e.index
  spacing : ∀ e, isCarrier s leftOut e → tooNear s p z f e = false
  products : ∀ a b, isCarrier s leftOut a → isCarrier s leftOut b → pairCounts s z a b = true →
    productOnto s p f a b = false
  harm : ∀ e v, isCarrier s leftOut e → isCarrier s leftOut v → pairCounts s z e v = true → harms s f e v = false

theorem evaluate_eq_none {s : State} {p z : Fin 16} {leftOut : Option (Fin 384)} {f : Nat} :
    evaluate s p z leftOut f = none ↔ Passes s p z leftOut f := by
  have pairs : ∀ q : Carrier → Carrier → Bool,
      (∀ a ∈ carriersBut s leftOut, ∀ b ∈ carriersBut s leftOut, (pairCounts s z a b && q a b) = false) ↔
        ∀ a b, isCarrier s leftOut a → isCarrier s leftOut b → pairCounts s z a b = true → q a b = false := fun q => by
    simp only [mem_carriersBut, Bool.and_eq_false_imp]
    exact ⟨fun h a b ha hb => h a ha b hb, fun h a ha b hb => h a b ha hb⟩
  have exclusions : testExclusion s f = none ↔ ∀ b ∈ s.plan.exclusions, inGuardedBand s.plan.g f b = false := by
    simp [testExclusion, List.findIdx?_eq_none_iff]
  have foreign : testForeign s f = none ↔ ∀ e ∈ s.sweep.foreign, e.confirmed = true → s.plan.fg ≤ distance f e.index := by
    simp [testForeign]
  have spacing : testSpacing s p z (carriersBut s leftOut) f = none ↔
      ∀ e, isCarrier s leftOut e → tooNear s p z f e = false := by
    simp [testSpacing, mem_carriersBut]
  have products := (findSome?_none_iff (fun a b => pairCounts s z a b && productOnto s p f a b)
    (fun a b => (a.slot, b.slot)) (carriersBut s leftOut)).trans (pairs (productOnto s p f))
  have harm := (findSome?_none_iff (fun e v => pairCounts s z e v && harms s f e v)
    (fun e v => (e.slot, v.slot)) (carriersBut s leftOut)).trans (pairs (harms s f))
  constructor
  · intro h
    unfold evaluate at h
    dsimp only at h
    split_ifs at h with t1
    split at h
    · cases h
    rename_i t2
    split at h
    · cases h
    rename_i t3
    split at h
    · cases h
    rename_i t4
    split at h
    · cases h
    rename_i t5
    split at h
    · cases h
    rename_i t6
    exact ⟨by simpa using t1, exclusions.1 t2, foreign.1 t3, spacing.1 t4, products.1 t5, harm.1 t6⟩
  · intro h
    have t5 : testProducts s p z (carriersBut s leftOut) f = none := products.2 h.products
    have t6 : testHarm s z (carriersBut s leftOut) f = none := harm.2 h.harm
    unfold evaluate
    simp only [h.window, exclusions.2 h.exclusions, foreign.2 h.foreign, spacing.2 h.spacing, t5, t6,
      Bool.true_eq_false, if_false]

/-! ### Tables that only ease -/

/-- Every carrier of `t` stands in `s` with its index, zone and profile, and carriers of two slots in two slots. -/
structure CarriersEased (s t : State) (leftOut : Option (Fin 384)) (back : Carrier → Carrier) : Prop where
  carrier : ∀ e, isCarrier t leftOut e → isCarrier s leftOut (back e)
  index : ∀ e, isCarrier t leftOut e → (back e).index = e.index
  zone : ∀ e, isCarrier t leftOut e → (back e).zone = e.zone
  profile : ∀ e, isCarrier t leftOut e → (back e).profile = e.profile
  apart : ∀ a b, isCarrier t leftOut a → isCarrier t leftOut b → a.slot ≠ b.slot → (back a).slot ≠ (back b).slot

/-- The plan and the foreign list of `t` ask of an index no more than those of `s` do, for a profile in a zone. -/
structure PlanEased (s t : State) (p z : Fin 16) (leftOut : Option (Fin 384)) : Prop where
  profile : t.plan.profiles.read p = s.plan.profiles.read p := by rfl
  carriers : ∀ e, isCarrier t leftOut e → t.plan.profiles.read e.profile = s.plan.profiles.read e.profile := by
    exact fun _ _ => rfl
  zlo : (t.plan.zones.read z).zlo ≤ (s.plan.zones.read z).zlo := by exact le_refl _
  zhi : (s.plan.zones.read z).zhi ≤ (t.plan.zones.read z).zhi := by exact le_refl _
  bands : ∀ b ∈ t.plan.exclusions, b ∈ s.plan.exclusions := by exact fun _ h => h
  coupling : ∀ x y, (couplingOf t x y).rank ≤ (couplingOf s x y).rank := by exact fun _ _ => le_refl _
  g : t.plan.g ≤ s.plan.g := by exact le_refl _
  fg : t.plan.fg ≤ s.plan.fg := by exact le_refl _
  foreign : ∀ e ∈ t.sweep.foreign, e.confirmed = true →
    ∃ e' ∈ s.sweep.foreign, e'.confirmed = true ∧ e'.index = e.index := by exact fun e h k => ⟨e, h, k, rfl⟩

/-- A guarded band that holds an index holds it with a wider guard. -/
theorem inGuardedBand_mono {g g' f : Nat} {b : Band} (h : g ≤ g') (hb : inGuardedBand g f b = true) :
    inGuardedBand g' f b = true := by
  rw [inGuardedBand_iff] at hb ⊢
  omega

section
variable {s t : State} {p z : Fin 16} {leftOut : Option (Fin 384)} {back : Carrier → Carrier}

/-- Zones that are coupled at all were so before. -/
theorem PlanEased.coupled (h : PlanEased s t p z leftOut) {x y : Fin 16}
    (hc : (t.plan.coupling.read x).read y ≠ .isolated) : (s.plan.coupling.read x).read y ≠ .isolated := by
  intro hi
  have := h.coupling x y
  unfold couplingOf at this
  rw [hi] at this
  cases hv : (t.plan.coupling.read x).read y with
  | isolated => exact hc hv
  | near | shared => rw [hv] at this; simp [Coupling.rank] at this

/-- Zones that are SHARED were so before. -/
theorem PlanEased.shared (h : PlanEased s t p z leftOut) {x y : Fin 16}
    (hc : (t.plan.coupling.read x).read y = .shared) : (s.plan.coupling.read x).read y = .shared := by
  have := h.coupling x y
  unfold couplingOf at this
  rw [hc] at this
  cases hv : (s.plan.coupling.read x).read y with
  | shared => rfl
  | near | isolated => rw [hv] at this; simp [Coupling.rank] at this

/-- Carriers that count as a pair did so before. -/
theorem PlanEased.pairCounts (h : PlanEased s t p z leftOut) (k : CarriersEased s t leftOut back) {a b : Carrier}
    (ha : isCarrier t leftOut a) (hb : isCarrier t leftOut b) (hc : pairCounts t z a b = true) :
    pairCounts s z (back a) (back b) = true := by
  rw [pairCounts_iff] at hc ⊢
  obtain ⟨slots, ab, az, bz⟩ := hc
  rw [k.zone a ha, k.zone b hb]
  exact ⟨k.apart a b ha hb slots, h.shared ab, h.shared az, h.shared bz⟩

/-- An index that passes goes on passing where plan, foreign list and carriers only ease (R30). -/
theorem Passes.eased {f : Nat} (h : Passes s p z leftOut f) (plan : PlanEased s t p z leftOut)
    (carriers : CarriersEased s t leftOut back) : Passes t p z leftOut f where
  window := by
    have before := h.window
    rw [testWindow_iff] at before ⊢
    obtain ⟨low, zlo, high, zhi, step⟩ := before
    rw [plan.profile]
    exact ⟨low, plan.zlo.trans zlo, high, zhi.trans plan.zhi, step⟩
  exclusions b hb := by
    have before := h.exclusions b (plan.bands b hb)
    rw [Bool.eq_false_iff] at before ⊢
    exact fun now => before (inGuardedBand_mono plan.g now)
  foreign e he confirmed := by
    obtain ⟨e', he', confirmed', index⟩ := plan.foreign e he confirmed
    rw [← index]
    exact plan.fg.trans (h.foreign e' he' confirmed')
  spacing e he := by
    have before := h.spacing (back e) (carriers.carrier e he)
    rw [Bool.eq_false_iff, ne_eq] at before ⊢
    intro now
    rw [tooNear_iff] at now before
    rw [plan.profile, plan.carriers e he] at now
    rw [carriers.index e he, carriers.profile e he, carriers.zone e he] at before
    exact before ⟨plan.coupled now.1, now.2⟩
  products a b ha hb counts := by
    have before := h.products _ _ (carriers.carrier a ha) (carriers.carrier b hb) (plan.pairCounts carriers ha hb counts)
    rw [Bool.eq_false_iff, ne_eq] at before ⊢
    intro now
    rw [productOnto_iff] at now before
    rw [plan.profile] at now
    rw [carriers.index a ha, carriers.index b hb] at before
    exact before now
  harm e v he hv counts := by
    have before := h.harm _ _ (carriers.carrier e he) (carriers.carrier v hv) (plan.pairCounts carriers he hv counts)
    rw [Bool.eq_false_iff, ne_eq] at before ⊢
    intro now
    rw [harms_iff] at now before
    rw [plan.carriers v hv] at now
    rw [carriers.index e he, carriers.index v hv, carriers.profile v hv] at before
    exact before now

end

/-! ### Carriers that stay where they are -/

/-- Carriers that are carriers of `s` as they stand. -/
theorem carriersEased_id {s t : State} {leftOut : Option (Fin 384)} (h : ∀ e, isCarrier t leftOut e → isCarrier s leftOut e) :
    CarriersEased s t leftOut id where
  carrier := h
  index _ _ := rfl
  zone _ _ := rfl
  profile _ _ := rfl
  apart _ _ _ _ hs := hs

/-- The slots' carriers one by one. -/
theorem isCarrier_iff {s : State} {leftOut : Option (Fin 384)} {e : Carrier} :
    isCarrier s leftOut e ↔ some e.slot ≠ leftOut ∧ e ∈ slotCarriers e.slot (s.slots.read e.slot) := by
  rw [mem_slotCarriers]
  exact ⟨fun h => ⟨h.1, rfl, h.2⟩, fun h => ⟨h.1, h.2.2⟩⟩

/-- Slots whose carriers are among those that they had. -/
theorem carriersEased_of_slots {s t : State} (h : ∀ i, ∀ e ∈ slotCarriers i (t.slots.read i), e ∈ slotCarriers i (s.slots.read i))
    (leftOut : Option (Fin 384)) : CarriersEased s t leftOut id :=
  carriersEased_id fun e he => by
    rw [isCarrier_iff] at he ⊢
    exact ⟨he.1, h _ e he.2⟩

/-- A slot that stays still has no new carrier. -/
theorem Slot.Still.carriers {x y : Slot} (h : x.Still y) {i : Fin 384} {e : Carrier} (he : e ∈ slotCarriers i y) :
    e ∈ slotCarriers i x := by
  rw [mem_slotCarriers] at he ⊢
  obtain ⟨slot, he⟩ := he
  refine ⟨slot, ?_⟩
  cases h with
  | free => exact he
  | owned _ _ profile zone frequency move =>
    obtain ⟨hz, hp, hi⟩ := he
    refine ⟨hz.trans zone, hp.trans profile, ?_⟩
    split_ifs at hi ⊢
    · obtain ⟨w, hw, hi⟩ := hi
      obtain ⟨v, hv, same⟩ := move w hw
      exact ⟨v, hv, hi.trans same.symm⟩
    · exact hi.trans frequency
  | pinned profile zone frequency =>
    obtain ⟨hz, hp, hn, hi⟩ := he
    exact ⟨hz.trans zone, hp.trans profile, hn, hi.trans frequency⟩
  | spare profile zone frequency =>
    obtain ⟨hz, hp, hn, hi⟩ := he
    exact ⟨hz.trans zone, hp.trans profile, hn, hi.trans frequency⟩

/-- A slot retired takes its carriers with it. -/
theorem retireSlot_carriers (cause : Option RetireCause) (i j : Fin 384) (s : State) {e : Carrier}
    (he : e ∈ slotCarriers j ((retireSlot cause i s).slots.read j)) : e ∈ slotCarriers j (s.slots.read j) := by
  rw [retireSlot_slots_read] at he
  split_ifs at he
  · cases he
  · exact he

end Sys2Proof.Machine
end

section
namespace Sys2Proof.Machine

/-! ### Carriers that move to another slot -/

/-- A carrier of a slot that a confirmed move left stands as its pending index before (R110). -/
def backFromConfirm (i : Fin 384) (e : Carrier) : Carrier := if e.slot = i then { e with isPending := true } else e

theorem confirmMove_eased {s : State} {i : Fin 384} {o : Owned} {w : MoveWindow} (moving : s.slots.read i = .owned o)
    (window : o.move = some w) (leftOut : Option (Fin 384)) :
    CarriersEased s (setSlot i (confirmSlot s o w.pending) s) leftOut (backFromConfirm i) where
  carrier e he := by
    rw [isCarrier_iff, setSlot_slots, Table.read_write] at he
    obtain ⟨stays, he⟩ := he
    rw [isCarrier_iff]
    by_cases hi : i = e.slot
    · rw [if_pos hi, mem_slotCarriers] at he
      obtain ⟨-, hz, hp, hidx⟩ := he
      have idx : e.index = w.pending := by
        split_ifs at hidx
        · obtain ⟨v, hv, -⟩ := hidx
          cases hv
        · exact hidx
      rw [backFromConfirm, if_pos hi.symm]
      refine ⟨stays, ?_⟩
      rw [← hi, moving, mem_slotCarriers]
      exact ⟨rfl, hz, hp, by simpa [window] using idx⟩
    · rw [backFromConfirm, if_neg (Ne.symm hi)]
      rw [if_neg hi] at he
      exact ⟨stays, he⟩
  index e _ := by unfold backFromConfirm; split_ifs <;> rfl
  zone e _ := by unfold backFromConfirm; split_ifs <;> rfl
  profile e _ := by unfold backFromConfirm; split_ifs <;> rfl
  apart a b _ _ h := by
    have slot : ∀ e, (backFromConfirm i e).slot = e.slot := fun e => by unfold backFromConfirm; split_ifs <;> rfl
    rw [slot, slot]
    exact h

/-- The pending index of a handed-over spare stands in the spare's slot before (R25, R108). -/
def backFromHandover (i j : Fin 384) (e : Carrier) : Carrier :=
  if e.slot = i ∧ e.isPending = true then { e with slot := j, isPending := false } else e

theorem handover_eased {s : State} {i j : Fin 384} {o : Owned} {r : Spare} (ticks : Nat)
    (moving : s.slots.read i = .owned o) (spare : s.slots.read j = .spare r) (profile : r.profile = o.profile)
    (zone : r.zone = o.zone) {leftOut : Option (Fin 384)} (kept : some j ≠ leftOut) :
    CarriersEased s (setSlot i (openMove r.frequency ticks (.owned o)) (retireSlot none j s)) leftOut
      (backFromHandover i j) := by
  have slots : ∀ k, (setSlot i (openMove r.frequency ticks (.owned o)) (retireSlot none j s)).slots.read k =
      if i = k then openMove r.frequency ticks (.owned o) else if j = k then .free else s.slots.read k := fun k => by
    rw [setSlot_slots, Table.read_write, retireSlot_slots_read]
  have other : ∀ e, isCarrier (setSlot i (openMove r.frequency ticks (.owned o)) (retireSlot none j s)) leftOut e →
      e.slot ≠ j := fun e he hj => by
    have apart : i ≠ j := fun h => by rw [h, spare] at moving; cases moving
    rw [isCarrier_iff, hj, slots, if_neg apart, if_pos rfl] at he
    cases he.2
  refine ⟨fun e he => ?_, fun e _ => ?_, fun e _ => ?_, fun e _ => ?_, fun a b ha hb h => ?_⟩
  · have notJ := other e he
    rw [isCarrier_iff, slots] at he
    obtain ⟨stays, he⟩ := he
    by_cases hi : i = e.slot
    · rw [if_pos hi, mem_slotCarriers] at he
      obtain ⟨-, hz, hp, hidx⟩ := he
      unfold backFromHandover
      by_cases pending : e.isPending = true
      · rw [if_pos ⟨hi.symm, pending⟩, isCarrier_iff]
        refine ⟨kept, ?_⟩
        rw [spare, mem_slotCarriers]
        rw [if_pos pending] at hidx
        obtain ⟨v, hv, hidx⟩ := hidx
        cases hv
        exact ⟨rfl, hz.trans zone.symm, hp.trans profile.symm, rfl, hidx⟩
      · rw [if_neg fun h => pending h.2, isCarrier_iff]
        refine ⟨stays, ?_⟩
        rw [← hi, moving, mem_slotCarriers]
        rw [if_neg pending] at hidx
        exact ⟨hi.symm, hz, hp, by rwa [if_neg pending]⟩
    · rw [if_neg hi, if_neg (Ne.symm notJ)] at he
      rw [backFromHandover, if_neg fun h => hi h.1.symm, isCarrier_iff]
      exact ⟨stays, he⟩
  · unfold backFromHandover; split_ifs <;> rfl
  · unfold backFromHandover; split_ifs <;> rfl
  · unfold backFromHandover; split_ifs <;> rfl
  · have notJ := other a ha
    have notJ' := other b hb
    unfold backFromHandover
    split_ifs with pa pb pb
    · exact absurd (pa.1.trans pb.1.symm) h
    · exact Ne.symm notJ'
    · exact notJ
    · exact h

/-! ### The candidates that are ready to be recorded -/

/-- A search of the state holds a candidate that it is ready to record: the profile, the zone, the slot left out and the index
that it was tested with (R44, R75). -/
inductive Tested (s : State) : Fin 16 → Fin 16 → Option (Fin 384) → Nat → Prop
  | request {w : RequestWork} {c : SearchContext} {f : Nat} (held : s.engine.foreground = some (.request w c))
      (ready : c.ready? = some f) : Tested s w.profile (stationZone s w.station) none f
  | move {w : MoveWork} {c : SearchContext} {f : Nat} (held : s.engine.foreground = some (.move w c))
      (ready : c.ready? = some f) (moving : stillMoving s w = true) : Tested s w.profile w.zone (some w.slot) f
  | refill {b : Refill} {f : Nat} (held : s.engine.background = some b) (ready : b.context.ready? = some f) :
      Tested s (s.plan.zones.read b.zone).spareProfile b.zone none f
  | pin {w : PinWork} {c : SearchContext} {f : Nat} (held : s.engine.foreground = some (.pin w c))
      (ready : c.ready? = some f) : Tested s w.profile w.zone none w.index

/-- A MOVE that is queued or in the foreground is of its slot's profile and zone. -/
def MovesSound (s : State) : Prop :=
  ∀ w o, openMoveWork s.engine w → s.slots.read w.slot = .owned o → o.station = w.station → o.channel = w.channel →
    o.profile = w.profile ∧ o.zone = w.zone

/-- The searches' contexts and candidates are sound. -/
structure SearchesSound (s : State) : Prop where
  marks : ∀ c, holdsContext s.engine c → c.moved = false → c.e0 = s.epoch
  moving : MovesSound s
  tested : ∀ p z leftOut f, Tested s p z leftOut f → Passes s p z leftOut f

theorem passingSound_iff {s : State} :
    PassingSound s ↔ PlanSound s.plan ∧ OwnersSound s ∧ SparesSound s ∧ SearchesSound s := by
  constructor
  · intro h
    refine ⟨h.plan, h.owners, h.spares, h.marks, h.moving, fun p z leftOut f k => evaluate_eq_none.1 ?_⟩
    cases k with
    | request held ready => exact h.request _ _ f held ready
    | move held ready moving => exact h.move _ _ f held ready moving
    | refill held ready => exact h.refill _ f held ready
    | pin held ready => exact h.pin _ _ _ held ready
  · rintro ⟨plan, owners, spares, searches⟩
    exact
      { plan := plan
        owners := owners
        spares := spares
        marks := searches.marks
        moving := searches.moving
        request := fun w c f held ready => evaluate_eq_none.2 (searches.tested _ _ _ _ (.request held ready))
        move := fun w c f held ready moving => evaluate_eq_none.2 (searches.tested _ _ _ _ (.move held ready moving))
        refill := fun b f held ready => evaluate_eq_none.2 (searches.tested _ _ _ _ (.refill held ready))
        pin := fun w c f held ready => evaluate_eq_none.2 (searches.tested _ _ _ _ (.pin held ready)) }

/-! ### Moves -/

/-- Every owned slot was owned by the same station for the same channel, under the same profile and zone. -/
def OwnedKept (s t : State) : Prop :=
  ∀ i o', t.slots.read i = .owned o' → ∃ o, s.slots.read i = .owned o ∧ o.station = o'.station ∧
    o.channel = o'.channel ∧ o.profile = o'.profile ∧ o.zone = o'.zone

theorem ownedKept_of_eq {s t : State} (h : t.slots = s.slots) : OwnedKept s t :=
  fun _ o ho => ⟨o, h ▸ ho, rfl, rfl, rfl, rfl⟩

theorem MovesSound.kept {s t : State} (hs : MovesSound s) (slots : OwnedKept s t)
    (work : ∀ w, openMoveWork t.engine w → openMoveWork s.engine w) : MovesSound t := by
  intro w o' hw ho station channel
  obtain ⟨o, hs', hst, hch, hp, hz⟩ := slots _ o' ho
  rw [← hp, ← hz]
  exact hs w o (work w hw) hs' (hst.trans station) (hch.trans channel)

/-- A slot that is still MOVING was so before. -/
theorem OwnedKept.stillMoving {s t : State} (h : OwnedKept s t) {w : MoveWork} (k : stillMoving t w = true) :
    stillMoving s w = true := by
  obtain ⟨o', ho, station, channel⟩ := (stillMoving_iff t w).1 k
  obtain ⟨o, hs, hst, hch, -⟩ := h _ o' ho
  exact (stillMoving_iff s w).2 ⟨o, hs, hst.trans station, hch.trans channel⟩

/-- The MOVE work of an engine whose queue and foreground are parts of another's. -/
theorem openMoveWork_sub {e e' : Engine} (queue : ∀ w ∈ e'.queue, w ∈ e.queue)
    (foreground : ∀ f, e'.foreground = some f → e.foreground = some f) {w : MoveWork} (h : openMoveWork e' w) :
    openMoveWork e w := by
  rcases h with queued | ⟨c, hc⟩
  · exact .inl (queue _ queued)
  · exact .inr ⟨c, foreground _ hc⟩

/-! ### Contexts that are kept -/

/-- The contexts of `t` are contexts of `s`, for the same zones, with the slots owned as they were. -/
structure SearchesKept (s t : State) : Prop where
  epoch : t.epoch = s.epoch := by rfl
  foreground : ∀ f, t.engine.foreground = some f → s.engine.foreground = some f := by exact fun _ h => h
  background : ∀ b, t.engine.background = some b → s.engine.background = some b := by exact fun _ h => h
  zone : ∀ w c, s.engine.foreground = some (.request w c) → stationZone t w.station = stationZone s w.station := by
    exact fun _ _ _ => rfl
  owned : OwnedKept s t := by exact ownedKept_of_eq rfl
  refill : ∀ b, t.engine.background = some b →
    (t.plan.zones.read b.zone).spareProfile = (s.plan.zones.read b.zone).spareProfile := by exact fun _ _ => rfl

theorem SearchesKept.context {s t : State} (h : SearchesKept s t) {c : SearchContext} (k : holdsContext t.engine c) :
    holdsContext s.engine c := by
  rcases k with ⟨w, hw⟩ | ⟨w, hw⟩ | ⟨w, hw⟩ | ⟨z, hz⟩
  · exact .inl ⟨w, h.foreground _ hw⟩
  · exact .inr (.inl ⟨w, h.foreground _ hw⟩)
  · exact .inr (.inr (.inl ⟨w, h.foreground _ hw⟩))
  · exact .inr (.inr (.inr ⟨z, h.background _ hz⟩))

theorem SearchesKept.tested {s t : State} (h : SearchesKept s t) {p z : Fin 16} {leftOut : Option (Fin 384)} {f : Nat}
    (k : Tested t p z leftOut f) : Tested s p z leftOut f := by
  cases k with
  | request held ready =>
    rw [h.zone _ _ (h.foreground _ held)]
    exact .request (h.foreground _ held) ready
  | move held ready moving => exact .move (h.foreground _ held) ready (h.owned.stillMoving moving)
  | refill held ready =>
    rw [h.refill _ held]
    exact .refill (h.background _ held) ready
  | pin held ready => exact .pin (h.foreground _ held) ready

/-- With the contexts kept, candidates go on passing where the tables only ease. -/
theorem SearchesSound.kept {s t : State} (hs : SearchesSound s) (h : SearchesKept s t) (moving : MovesSound t)
    (eased : ∀ p z leftOut f, Tested t p z leftOut f →
      PlanEased s t p z leftOut ∧ ∃ back, CarriersEased s t leftOut back) : SearchesSound t where
  marks c k unmoved := by
    rw [h.epoch]
    exact hs.marks c (h.context k) unmoved
  moving := moving
  tested p z leftOut f k := by
    obtain ⟨plan, back, carriers⟩ := eased p z leftOut f k
    exact (hs.tested p z leftOut f (h.tested k)).eased plan carriers

/-- With every context marked, no candidate is ready (R30, R75). -/
theorem searchesSound_of_allMoved {t : State} (h : AllMoved t.engine) (moving : MovesSound t) : SearchesSound t where
  marks c k unmoved := by
    rw [h c k] at unmoved
    cases unmoved
  moving := moving
  tested p z leftOut f k := by
    have stale : ∀ {c : SearchContext} {g : Nat}, holdsContext t.engine c → c.ready? ≠ some g := fun held ready => by
      have := (ready?_eq_some.1 ready).1
      rw [h _ held] at this
      cases this
    cases k with
    | request held ready => exact absurd ready (stale (.inl ⟨_, held⟩))
    | move held ready => exact absurd ready (stale (.inr (.inl ⟨_, held⟩)))
    | refill held ready => exact absurd ready (stale (.inr (.inr (.inr ⟨_, held⟩))))
    | pin held ready => exact absurd ready (stale (.inr (.inr (.inl ⟨_, held⟩))))

/-- The MOVE work after an advance of the epoch is what it was. -/
theorem openMoveWork_advanceEpoch {s : State} {w : MoveWork} (h : openMoveWork (advanceEpoch s).engine w) :
    openMoveWork s.engine w := by
  rcases h with queued | ⟨c, hc⟩
  · exact .inl queued
  · obtain ⟨f, hf, hm⟩ := Option.map_eq_some_iff.1 (show s.engine.foreground.map Foreground.marked = _ from hc)
    cases f with
    | move v d => cases hm; exact .inr ⟨d, hf⟩
    | request | pin | audit => cases hm

end Sys2Proof.Machine
end

section
namespace Sys2Proof.Machine

/-! ### Changes that keep the contexts -/

section
variable {s t : State}

/-- The zone of a station whose record is kept. -/
theorem StationsKept.stationZone_eq (h : StationsKept s t) (r : Fin 48) : stationZone t r = stationZone s r := by
  unfold stationZone
  cases hr : s.stations.read r with
  | none => rw [h.absent.2 hr]
  | some st =>
    obtain ⟨st', ht, same⟩ := h.after hr
    rw [ht]
    exact same.zone

/-- Plan and foreign list that ask for no more, the plan being the same. -/
theorem planEased_of_eq (plan : t.plan = s.plan)
    (foreign : ∀ e ∈ t.sweep.foreign, e.confirmed = true → ∃ e' ∈ s.sweep.foreign, e'.confirmed = true ∧ e'.index = e.index)
    (p z : Fin 16) (leftOut : Option (Fin 384)) : PlanEased s t p z leftOut where
  profile := by rw [plan]
  carriers _ _ := by rw [plan]
  zlo := by rw [plan]
  zhi := by rw [plan]
  bands := by rw [plan]; exact fun _ h => h
  coupling _ _ := by rw [couplingOf, couplingOf, plan]
  g := by rw [plan]
  fg := by rw [plan]
  foreign := foreign

/-- With plan and foreign list the same, candidates go on passing where carriers only go. -/
theorem SearchesSound.keptTables (hs : SearchesSound s) (h : SearchesKept s t) (moving : MovesSound t)
    (plan : t.plan = s.plan) (foreign : t.sweep.foreign = s.sweep.foreign)
    (slots : ∀ i, ∀ e ∈ slotCarriers i (t.slots.read i), e ∈ slotCarriers i (s.slots.read i)) : SearchesSound t :=
  hs.kept h moving fun p z leftOut _ _ =>
    ⟨planEased_of_eq plan (fun e he hc => ⟨e, foreign ▸ he, hc, rfl⟩) p z leftOut, id, carriersEased_of_slots slots leftOut⟩

/-- The contexts, the tables and the records kept while the engine's contexts may end. -/
theorem SearchesSound.ended (hs : SearchesSound s) (stations : StationsKept s t) (slots : t.slots = s.slots)
    (plan : t.plan = s.plan) (foreign : t.sweep.foreign = s.sweep.foreign) (epoch : t.epoch = s.epoch)
    (moving : MovesSound t) (foreground : ∀ f, t.engine.foreground = some f → s.engine.foreground = some f)
    (background : ∀ b, t.engine.background = some b → s.engine.background = some b) : SearchesSound t :=
  hs.keptTables
    { epoch := epoch
      foreground := foreground
      background := background
      zone := fun w _ _ => stations.stationZone_eq w.station
      owned := ownedKept_of_eq slots
      refill := fun b _ => by rw [plan] } moving plan foreign fun i e he => by rwa [slots] at he

/-- With no engine work there is nothing to keep. -/
theorem searchesSound_idle (queue : t.engine.queue = []) (foreground : t.engine.foreground = none)
    (background : t.engine.background = none) : SearchesSound t where
  marks c held := by
    rcases held with ⟨w, hw⟩ | ⟨w, hw⟩ | ⟨w, hw⟩ | ⟨z, hz⟩
    · rw [foreground] at hw; cases hw
    · rw [foreground] at hw; cases hw
    · rw [foreground] at hw; cases hw
    · rw [background] at hz; cases hz
  moving w o hw := by
    rcases hw with hw | ⟨c, hw⟩
    · rw [queue] at hw; cases hw
    · rw [foreground] at hw; cases hw
  tested p z leftOut f k := by
    cases k with
    | request held => rw [foreground] at held; cases held
    | move held => rw [foreground] at held; cases held
    | refill held => rw [background] at held; cases held
    | pin held => rw [foreground] at held; cases held

/-- A slot that stays still keeps its owner, profile and zone. -/
theorem Quiet.ownedKept (h : Quiet s t) : OwnedKept s t := by
  intro i o' ho
  have still := h.slots i
  rw [ho] at still
  generalize s.slots.read i = x at still
  cases still with
  | owned station channel profile zone => exact ⟨_, rfl, station.symm, channel.symm, profile.symm, zone.symm⟩

theorem Quiet.searchesSound (h : Quiet s t) (hs : SearchesSound s) : SearchesSound t :=
  hs.kept
    { epoch := h.epoch
      foreground := fun f hf => h.foreground ▸ hf
      background := fun b hb => h.background ▸ hb
      zone := fun w _ _ => h.stations.kept.stationZone_eq w.station
      owned := h.ownedKept
      refill := fun b _ => by rw [h.plan] }
    (hs.moving.kept h.ownedKept fun w hw =>
      openMoveWork_sub (fun v hv => h.queue ▸ hv) (fun f hf => h.foreground ▸ hf) hw)
    fun p z leftOut _ _ =>
      ⟨planEased_of_eq h.plan h.foreign p z leftOut, id, carriersEased_of_slots (fun i _ he => (h.slots i).carriers he) leftOut⟩

end

/-! ### Plan writes -/

section
variable {s : State}

/-- A plan write that tightens marks every context (R30, R87). -/
theorem searchesSound_tightened (hs : SearchesSound s) (plan : Plan) : SearchesSound (writePlan plan true s) :=
  searchesSound_of_allMoved (allMoved_advanceEpoch (writePlan plan false s))
    (hs.moving.kept (ownedKept_of_eq rfl) fun _ h => openMoveWork_advanceEpoch (s := writePlan plan false s) h)

/-- A plan write that does not tighten eases. -/
theorem searchesSound_loosened (hs : SearchesSound s) {plan : Plan}
    (zones : ∀ z, (plan.zones.read z).spareProfile = (s.plan.zones.read z).spareProfile)
    (eased : ∀ p z leftOut f, Tested (writePlan plan false s) p z leftOut f →
      PlanEased s (writePlan plan false s) p z leftOut) : SearchesSound (writePlan plan false s) :=
  hs.kept { refill := fun b _ => zones b.zone } (hs.moving.kept (ownedKept_of_eq rfl) fun _ h => h)
    fun p z leftOut f k => ⟨eased p z leftOut f k, id, carriersEased_id fun _ h => h⟩

/-- A carrier's profile is its slot's. -/
theorem isCarrier_profile {leftOut : Option (Fin 384)} {e : Carrier} (h : isCarrier s leftOut e) :
    (s.slots.read e.slot).names e.profile = true := by
  obtain ⟨-, h⟩ := h
  unfold Slot.names Slot.profile?
  cases hx : s.slots.read e.slot with
  | free => rw [hx] at h; exact h.elim
  | owned | pinned | spare =>
    rw [hx] at h
    simpa using h.2.1.symm

/-- The profile of a candidate that is ready is in use (R7). -/
theorem tested_profile_inUse (hs : PassingSound s) {p q z : Fin 16} {leftOut : Option (Fin 384)} {f : Nat}
    (k : Tested s p z leftOut f) (unused : ProfileUnused s q) : p ≠ q := by
  rintro rfl
  cases k with
  | request held => simpa [Foreground.namesProfile] using unused.foreground _ held
  | @move w c _ held _ moving =>
    obtain ⟨o, ho, station, channel⟩ := (stillMoving_iff s w).1 moving
    obtain ⟨profile, -⟩ := hs.moving w o (.inr ⟨c, held⟩) ho station channel
    have := unused.slots w.slot
    rw [ho] at this
    simp [Slot.names, Slot.profile?, profile] at this
  | @refill b _ held =>
    have wants := of_decide_eq_true (hs.spares.refill b held)
    exact unused.zones b.zone (by omega) rfl
  | pin held => simpa [Foreground.namesProfile] using unused.foreground _ held

theorem searchesSound_writeProfile (hs : PassingSound s) {q : Fin 16} (r : Profile) (unused : profileInUse s q = false) :
    SearchesSound (writePlan { s.plan with profiles := s.plan.profiles.write q r } false s) := by
  obtain ⟨-, -, -, searches⟩ := passingSound_iff.1 hs
  have unused := profileInUse_eq_false unused
  have read : ∀ p, p ≠ q → (s.plan.profiles.write q r).read p = s.plan.profiles.read p := fun p hp => by
    rw [Table.read_write, if_neg (Ne.symm hp)]
  refine searchesSound_loosened searches (fun _ => rfl) fun p z leftOut f k => ?_
  have before : Tested s p z leftOut f := SearchesKept.tested {} k
  exact
    { profile := read p (tested_profile_inUse hs before unused)
      carriers := fun e he => read e.profile fun same => by
        have named := isCarrier_profile (s := s) he
        rw [same, unused.slots] at named
        cases named }

/-- A coupling lowered eases every pair of zones (R13). -/
theorem coupling_lowered (symmetric : ∀ a b, (s.plan.coupling.read a).read b = (s.plan.coupling.read b).read a)
    {x y : Fin 16} {v : Coupling} (lowered : v.rank ≤ (couplingOf s x y).rank) (a b : Fin 16) :
    (((coupleBoth x y v s.plan.coupling).read a).read b).rank ≤ (couplingOf s a b).rank := by
  rw [coupleBoth_read]
  split_ifs with h
  · rcases h with ⟨rfl, rfl⟩ | ⟨rfl, rfl⟩
    · exact lowered
    · rw [couplingOf, symmetric]
      exact lowered
  · exact le_refl _

theorem searchesSound_writeCoupling (hs : SearchesSound s) (plan : PlanSound s.plan) (x y : Fin 16) (v : Coupling) :
    SearchesSound (writePlan { s.plan with coupling := coupleBoth x y v s.plan.coupling }
      (decide ((couplingOf s x y).rank < v.rank)) s) := by
  by_cases raised : (couplingOf s x y).rank < v.rank
  · rw [decide_eq_true raised]
    exact searchesSound_tightened hs _
  · rw [decide_eq_false raised]
    exact searchesSound_loosened hs (fun _ => rfl) fun p z leftOut f _ =>
      { coupling := fun a b => coupling_lowered plan.symmetric (Nat.not_lt.1 raised) a b }

theorem searchesSound_removeBand (hs : SearchesSound s) (b : Band) :
    SearchesSound (writePlan { s.plan with exclusions := s.plan.exclusions.erase b } false s) :=
  searchesSound_loosened hs (fun _ => rfl) fun _ _ _ _ _ => { bands := fun _ h => List.mem_of_mem_erase h }

theorem searchesSound_writeGuards (hs : SearchesSound s) (g fg : Nat) :
    SearchesSound (writePlan { s.plan with g := g, fg := fg } (decide (s.plan.g < g ∨ s.plan.fg < fg)) s) := by
  by_cases raised : s.plan.g < g ∨ s.plan.fg < fg
  · rw [decide_eq_true raised]
    exact searchesSound_tightened hs _
  · rw [decide_eq_false raised]
    obtain ⟨hg, hfg⟩ := not_or.1 raised
    exact searchesSound_loosened hs (fun _ => rfl) fun _ _ _ _ _ => { g := Nat.not_lt.1 hg, fg := Nat.not_lt.1 hfg }

end

/-! ### A zone written -/

/-- Spares retired: a slot is as it was or FREE. -/
theorem retireSlots_slots (cause : Option RetireCause) (is : List (Fin 384)) (s : State) (j : Fin 384) :
    (retireSlots cause is s).slots.read j = s.slots.read j ∨ (retireSlots cause is s).slots.read j = .free :=
  foldl_ind (fun t => t.slots.read j = s.slots.read j ∨ t.slots.read j = .free) _
    (fun t i h => by
      rw [retireSlot_slots_read]
      split_ifs
      · exact .inr rfl
      · exact h) is s (.inl rfl)

section
variable (z : Fin 16) (old new : ZonePlan) (u : State)

theorem applySpareSettings_slots (j : Fin 384) :
    (applySpareSettings z old new u).slots.read j = u.slots.read j ∨
      (applySpareSettings z old new u).slots.read j = .free := by
  unfold applySpareSettings
  dsimp only
  rw [← discardRefill_slots z u]
  split_ifs
  · exact .inl (by rw [discardRefill_slots])
  · exact retireSlots_slots _ _ _ j
  · exact retireSlots_slots _ _ _ j

theorem applySpareSettings_ownedKept : OwnedKept u (applySpareSettings z old new u) := by
  intro i o ho
  rcases applySpareSettings_slots z old new u i with h | h
  · exact ⟨o, h ▸ ho, rfl, rfl, rfl, rfl⟩
  · rw [ho] at h
    cases h

theorem applySpareSettings_carriers (i : Fin 384) (e : Carrier)
    (he : e ∈ slotCarriers i ((applySpareSettings z old new u).slots.read i)) : e ∈ slotCarriers i (u.slots.read i) := by
  rcases applySpareSettings_slots z old new u i with h | h
  · rwa [h] at he
  · rw [h] at he
    cases he

end

/-- A zone written that widens its window eases, with its spares and its refill settled (R10, R11). -/
theorem SearchesSound.widened {s t : State} (hs : SearchesSound s) {z : Fin 16} {new : ZonePlan}
    (wider : new.zlo ≤ (s.plan.zones.read z).zlo ∧ (s.plan.zones.read z).zhi ≤ new.zhi)
    (plan : t.plan = { s.plan with zones := s.plan.zones.write z new }) (sweep : t.sweep = s.sweep)
    (epoch : t.epoch = s.epoch) (queue : t.engine.queue = s.engine.queue)
    (foreground : t.engine.foreground = s.engine.foreground) (stations : StationsKept s t) (owned : OwnedKept s t)
    (background : ∀ b, t.engine.background = some b → s.engine.background = some b ∧
      (b.zone = z → (s.plan.zones.read z).spareProfile = new.spareProfile))
    (carriers : ∀ i, ∀ e ∈ slotCarriers i (t.slots.read i), e ∈ slotCarriers i (s.slots.read i)) : SearchesSound t := by
  have zone := fun y => zone_written (y := y) plan
  refine hs.kept
    { epoch := epoch
      foreground := fun f hf => foreground ▸ hf
      background := fun b hb => (background b hb).1
      zone := fun w _ _ => stations.stationZone_eq w.station
      owned := owned
      refill := fun b hb => by
        rw [zone]
        split_ifs with hz
        · rw [← hz]
          exact ((background b hb).2 hz.symm).symm
        · rfl }
    (hs.moving.kept owned fun w hw => openMoveWork_sub (fun v hv => queue ▸ hv) (fun f hf => foreground ▸ hf) hw)
    fun p y leftOut f _ => ⟨?_, id, carriersEased_of_slots carriers leftOut⟩
  exact
    { profile := by rw [plan]
      carriers := fun _ _ => by rw [plan]
      zlo := by
        rw [zone]
        split_ifs with hz
        · exact hz ▸ wider.1
        · exact le_refl _
      zhi := by
        rw [zone]
        split_ifs with hz
        · exact hz ▸ wider.2
        · exact le_refl _
      bands := by rw [plan]; exact fun _ h => h
      coupling := fun _ _ => by rw [couplingOf, couplingOf, plan]
      g := by rw [plan]
      fg := by rw [plan]
      foreign := by rw [sweep]; exact fun e he hc => ⟨e, he, hc, rfl⟩ }

/-- A zone's spares settled leave every context marked that was. -/
theorem searchesSound_settled {u : State} (marked : AllMoved u.engine) (moving : MovesSound u) (z : Fin 16)
    (old new : ZonePlan) : SearchesSound (applySpareSettings z old new u) :=
  searchesSound_of_allMoved
    (marked.sub (by simp) fun _ hb => (applySpareSettings_background hb).1)
    (moving.kept (applySpareSettings_ownedKept _ _ _ _) fun _ hw => openMoveWork_sub (by simp) (by simp) hw)

theorem searchesSound_writeZone {s : State} (hs : SearchesSound s) (z : Fin 16) (new : ZonePlan) :
    SearchesSound (applySpareSettings z (s.plan.zones.read z) new
      (writePlan { s.plan with zones := s.plan.zones.write z new } (zoneTightens (s.plan.zones.read z) new) s)) := by
  cases tightens : zoneTightens (s.plan.zones.read z) new with
  | true =>
    exact searchesSound_settled (allMoved_advanceEpoch (writePlan { s.plan with zones := s.plan.zones.write z new } false s))
      (searchesSound_tightened hs { s.plan with zones := s.plan.zones.write z new }).moving z _ new
  | false =>
    have wider : new.zlo ≤ (s.plan.zones.read z).zlo ∧ (s.plan.zones.read z).zhi ≤ new.zhi := by
      simpa [zoneTightens] using tightens
    obtain ⟨plan, engine, epoch⟩ : (writePlan { s.plan with zones := s.plan.zones.write z new } false s).plan =
        { s.plan with zones := s.plan.zones.write z new } ∧
          (writePlan { s.plan with zones := s.plan.zones.write z new } false s).engine = (emptyBarred s).engine ∧
            (writePlan { s.plan with zones := s.plan.zones.write z new } false s).epoch = s.epoch := ⟨rfl, rfl, rfl⟩
    obtain ⟨slots, -, -, -, -, -, -, stations, -, sweep, -⟩ :=
      writePlan_frame { s.plan with zones := s.plan.zones.write z new } false s
    generalize writePlan { s.plan with zones := s.plan.zones.write z new } false s = u at *
    refine hs.widened wider (by simp [plan]) (by simp [sweep]) (by simp [epoch]) (by simp [engine]) (by simp [engine])
      ((stationsStill_of_eq stations).kept.trans (applySpareSettings_stationsKept z _ new u)) (fun i o ho => ?_)
      (fun b hb => ?_) (fun i e he => ?_)
    · rw [← slots]
      exact applySpareSettings_ownedKept z _ new u i o ho
    · have held := applySpareSettings_background hb
      simpa [engine] using held
    · rw [← slots]
      exact applySpareSettings_carriers z _ new u i e he

end Sys2Proof.Machine
end

section
namespace Sys2Proof.Machine

/-! ### Slots written -/

section
variable {s t : State}

/-- One slot written that is not owned after, or owned as before. -/
theorem ownedKept_setSlot {i : Fin 384} {x : Slot} (slots : t.slots = s.slots.write i x)
    (h : ∀ o', x = .owned o' → ∃ o, s.slots.read i = .owned o ∧ o.station = o'.station ∧ o.channel = o'.channel ∧
      o.profile = o'.profile ∧ o.zone = o'.zone) : OwnedKept s t := by
  intro j o' ho
  rw [slots, Table.read_write] at ho
  split_ifs at ho with hij
  · exact hij ▸ h o' ho
  · exact ⟨o', ho, rfl, rfl, rfl, rfl⟩

theorem ownedKept_retireSlot (cause : Option RetireCause) (i : Fin 384) (s : State) : OwnedKept s (retireSlot cause i s) := by
  intro j o ho
  rw [retireSlot_slots_read] at ho
  split_ifs at ho
  exact ⟨o, ho, rfl, rfl, rfl, rfl⟩

theorem OwnedKept.trans {u : State} (h : OwnedKept s t) (k : OwnedKept t u) : OwnedKept s u := by
  intro i o'' ho
  obtain ⟨o', ho', station', channel', profile', zone'⟩ := k i o'' ho
  obtain ⟨o, hs, station, channel, profile, zone⟩ := h i o' ho'
  exact ⟨o, hs, station.trans station', channel.trans channel', profile.trans profile', zone.trans zone'⟩

theorem searchesSound_retire (hs : SearchesSound s) (cause : Option RetireCause) (i : Fin 384) :
    SearchesSound (retireSlot cause i s) := by
  have owned := ownedKept_retireSlot cause i s
  exact hs.keptTables
    { epoch := by simp
      foreground := fun f hf => by simpa using hf
      background := fun b hb => by simpa using hb
      zone := fun w _ _ => (retireSlot_stationsKept cause i s).stationZone_eq w.station
      owned := owned
      refill := fun b _ => by simp }
    (hs.moving.kept owned fun w hw => openMoveWork_sub (by simp) (by simp) hw) (by simp) (by simp)
    fun j e he => retireSlot_carriers cause i j s he

theorem searchesSound_confirmMove (hs : SearchesSound s) {i : Fin 384} {o : Owned} {w : MoveWindow}
    (moving : s.slots.read i = .owned o) (window : o.move = some w) :
    SearchesSound (setSlot i (confirmSlot s o w.pending) s) := by
  have owned : OwnedKept s (setSlot i (confirmSlot s o w.pending) s) :=
    ownedKept_setSlot rfl fun o' ho => ⟨o, moving, by cases ho; exact ⟨rfl, rfl, rfl, rfl⟩⟩
  exact hs.kept { owned := owned } (hs.moving.kept owned fun _ h => h) fun _ _ leftOut _ _ =>
    ⟨{}, _, confirmMove_eased moving window leftOut⟩

/-- A slot left out of a candidate's carriers is a MOVING station's. -/
theorem tested_leftOut {p z : Fin 16} {j : Fin 384} {f : Nat} (h : Tested s p z (some j) f) :
    ∃ o, s.slots.read j = .owned o := by
  cases h with
  | move held ready moving =>
    obtain ⟨o, ho, -⟩ := (stillMoving_iff s _).1 moving
    exact ⟨o, ho⟩

theorem searchesSound_handover (hs : SearchesSound s) {i j : Fin 384} {o : Owned} {r : Spare} (ticks : Nat)
    (moving : s.slots.read i = .owned o) (spare : s.slots.read j = .spare r) (profile : r.profile = o.profile)
    (zone : r.zone = o.zone) :
    SearchesSound (setSlot i (openMove r.frequency ticks (.owned o)) (retireSlot none j s)) := by
  have apart : j ≠ i := fun h => by rw [h, moving] at spare; cases spare
  have there : (retireSlot none j s).slots.read i = .owned o := by rw [retireSlot_slots_read, if_neg apart, moving]
  have opened : OwnedKept (retireSlot none j s)
      (setSlot i (openMove r.frequency ticks (.owned o)) (retireSlot none j s)) :=
    ownedKept_setSlot rfl fun o' ho => ⟨o, there, by cases ho; exact ⟨rfl, rfl, rfl, rfl⟩⟩
  have owned := (ownedKept_retireSlot none j s).trans opened
  refine hs.kept
    { epoch := by simp
      foreground := fun f hf => by simpa using hf
      background := fun b hb => by simpa using hb
      zone := fun w _ _ => (retireSlot_stationsKept none j s).stationZone_eq w.station
      owned := owned
      refill := fun b _ => by simp }
    (hs.moving.kept owned fun w hw => openMoveWork_sub (e := s.engine) (by simp) (by simp) hw)
    fun p z leftOut f k => ⟨planEased_of_eq (by simp) (fun e he hc => ⟨e, by simpa using he, hc, rfl⟩) p z leftOut, _,
      handover_eased ticks moving spare profile zone fun same => ?_⟩
  subst same
  obtain ⟨o', ho⟩ := tested_leftOut k
  rw [setSlot_slots, Table.read_write, if_neg (Ne.symm apart), retireSlot_slots_read, if_pos rfl] at ho
  cases ho

end

/-! ### Contexts held anew -/

section
variable {s : State}

/-- The MOVE work after a search's context is set: what there was, and the search's own. -/
theorem movesSound_setContext (hs : MovesSound s) {job : Job} (c : SearchContext)
    (own : ∀ w, job = .move w → ∀ o, s.slots.read w.slot = .owned o → o.station = w.station → o.channel = w.channel →
      o.profile = w.profile ∧ o.zone = w.zone) : MovesSound (setContext job c s) := by
  intro w o hw ho
  have ho : s.slots.read w.slot = .owned o := by simpa using ho
  rcases hw with queued | ⟨d, held⟩
  · exact hs w o (.inl (by simpa using queued)) ho
  · cases job with
    | request v => cases held
    | move v => cases held; exact own w rfl o ho
    | refill z => exact hs w o (.inr ⟨d, held⟩) ho

/-- A search's context set that is unmoved only with the present epoch, and ready only with a candidate that passes. -/
theorem searchesSound_setContext (hs : SearchesSound s) {job : Job} {c : SearchContext}
    (mark : c.moved = false → c.e0 = s.epoch) (ready : ∀ f, c.ready? = some f → evaluateFor job f s = none)
    (moving : MovesSound (setContext job c s)) : SearchesSound (setContext job c s) := by
  have same : ∀ {p z leftOut f}, Passes s p z leftOut f → Passes (setContext job c s) p z leftOut f :=
    fun {p z leftOut _} h => h.eased
      (planEased_of_eq (by simp) (fun e he hc => ⟨e, by simpa using he, hc, rfl⟩) p z leftOut)
      (carriersEased_of_slots (fun i e he => by simpa using he) leftOut)
  have new : ∀ {f}, c.ready? = some f → Passes s (job.profile s) (job.zone s) job.leftOut f := fun h =>
    evaluate_eq_none.1 (ready _ h)
  cases job with
  | request w =>
    refine ⟨fun d held unmoved => ?_, moving, fun p z leftOut f k => same ?_⟩
    · rcases held with ⟨v, hv⟩ | ⟨v, hv⟩ | ⟨v, hv⟩ | ⟨z, hz⟩
      · cases hv; exact mark unmoved
      · cases hv
      · cases hv
      · exact hs.marks d (.inr (.inr (.inr ⟨z, hz⟩))) unmoved
    · cases k with
      | request held ready => cases held; exact new ready
      | move held => cases held
      | refill held ready => exact hs.tested _ _ _ _ (.refill held ready)
      | pin held => cases held
  | move w =>
    refine ⟨fun d held unmoved => ?_, moving, fun p z leftOut f k => same ?_⟩
    · rcases held with ⟨v, hv⟩ | ⟨v, hv⟩ | ⟨v, hv⟩ | ⟨z, hz⟩
      · cases hv
      · cases hv; exact mark unmoved
      · cases hv
      · exact hs.marks d (.inr (.inr (.inr ⟨z, hz⟩))) unmoved
    · cases k with
      | request held => cases held
      | move held ready => cases held; exact new ready
      | refill held ready => exact hs.tested _ _ _ _ (.refill held ready)
      | pin held => cases held
  | refill y =>
    refine ⟨fun d held unmoved => ?_, moving, fun p z leftOut f k => same ?_⟩
    · rcases held with hv | hv | hv | ⟨z, hz⟩
      · exact hs.marks d (.inl hv) unmoved
      · exact hs.marks d (.inr (.inl hv)) unmoved
      · exact hs.marks d (.inr (.inr (.inl hv))) unmoved
      · cases hz; exact mark unmoved
    · cases k with
      | request held ready => exact hs.tested _ _ _ _ (.request held ready)
      | move held ready moving => exact hs.tested _ _ _ _ (.move held ready moving)
      | refill held ready => cases held; exact new ready
      | pin held ready => exact hs.tested _ _ _ _ (.pin held ready)

/-- Console work becomes or goes on as the foreground's: an unmoved context holds the present epoch, and a pin that is ready
passes. -/
theorem searchesSound_setForeground (hs : SearchesSound s) {f : Foreground} (host : f.station? = none)
    (mark : ∀ w c, f = .pin w c → c.moved = false → c.e0 = s.epoch)
    (ready : ∀ w c g, f = .pin w c → c.ready? = some g → evaluatePin w s = none) : SearchesSound (setForeground f s) := by
  refine ⟨fun d held unmoved => ?_, fun w o hw => ?_, fun p z leftOut g k => ?_⟩
  · rcases held with ⟨v, hv⟩ | ⟨v, hv⟩ | ⟨v, hv⟩ | ⟨z, hz⟩
    · cases hv; cases host
    · cases hv; cases host
    · exact mark v d (Option.some.inj hv) unmoved
    · exact hs.marks d (.inr (.inr (.inr ⟨z, hz⟩))) unmoved
  · rcases hw with queued | ⟨d, held⟩
    · exact hs.moving w o (.inl queued)
    · cases held; cases host
  · refine Passes.eased (s := s) (back := id) ?_ {}
      (carriersEased_id fun _ h => h)
    cases k with
    | request held => cases held; cases host
    | move held => cases held; cases host
    | refill held ready => exact hs.tested _ _ _ _ (.refill held ready)
    | pin held rdy => exact evaluate_eq_none.1 (ready _ _ _ (Option.some.inj held) rdy)

/-- Taking the front entry off the queue keeps the searches. -/
theorem searchesSound_dequeue (hs : SearchesSound s) {w : Work} {rest : List Work} (front : s.engine.queue = w :: rest) :
    SearchesSound (dequeue rest s) := by
  refine hs.ended (stationsStill_of_eq (by simp)).kept (by simp) (by simp) (by simp) (by simp) ?_ (by simp) (by simp)
  refine hs.moving.kept (ownedKept_of_eq (by simp)) fun v hv => openMoveWork_sub (fun x hx => ?_) (by simp) hv
  rw [dequeue_eq] at hx
  rw [front]
  exact List.mem_cons_of_mem _ hx

/-- The context that a search goes on from is the one that it holds. -/
theorem holdsSearch_context {e : Engine} {job : Job} {c : SearchContext} (h : holdsSearch e job c) : holdsContext e c := by
  cases job with
  | request w => exact .inl ⟨w, h⟩
  | move w => exact .inr (.inl ⟨w, h⟩)
  | refill z => exact .inr (.inr (.inr ⟨z, h⟩))

theorem searchesSound_goOn (hs : SearchesSound s) {job : Job} {c c' : SearchContext} (held : holdsSearch s.engine job c)
    (sound : ContextSound s (fun f => evaluateFor job f s = none) c c') : SearchesSound (setContext job c' s) := by
  refine searchesSound_setContext hs (fun unmoved => ?_) sound.ready
    (movesSound_setContext hs.moving c' fun w hw o => hs.moving w o (.inr ⟨c, ?_⟩))
  · rcases sound.mark unmoved with now | ⟨before, same⟩
    · exact now
    · rw [same]
      exact hs.marks c (holdsSearch_context held) before
  · subst hw
    exact held

theorem searchesSound_take (hs : SearchesSound s) {job : Job} {w : Work} {rest : List Work} {c : SearchContext}
    (front : s.engine.queue = w :: rest) (entry : job.entry = some w) (fresh : ContextFresh s c) :
    SearchesSound (setContext job c (dequeue rest s)) := by
  refine searchesSound_setContext (searchesSound_dequeue hs front) (fun _ => by simpa using fresh.e0)
    (fun f hf => by simp [ready?_eq_some, fresh.stage] at hf)
    (movesSound_setContext (searchesSound_dequeue hs front).moving c fun v hv o ho => ?_)
  subst hv
  cases entry
  exact hs.moving v o (.inl (by rw [front]; exact List.mem_cons_self)) (by simpa using ho)

theorem searchesSound_refill (hs : SearchesSound s) {z : Fin 16} {c : SearchContext} (fresh : ContextFresh s c) :
    SearchesSound (setContext (.refill z) c s) :=
  searchesSound_setContext hs (fun _ => fresh.e0) (fun f hf => by simp [ready?_eq_some, fresh.stage] at hf)
    (movesSound_setContext hs.moving c fun _ h => nomatch h)

/-- A search ended keeps the others. -/
theorem searchesSound_close (hs : SearchesSound s) (job : Job) (why : RefuseReason) :
    SearchesSound (closeSearch job why s) := by
  have foreground : ∀ f, (closeSearch job why s).engine.foreground = some f → s.engine.foreground = some f := by
    intro f hf
    cases job with
    | request w => simp [closeSearch, answerWork_eq] at hf
    | move w => simp [closeSearch, answerWork_eq] at hf
    | refill z => exact hf
  have background : ∀ b, (closeSearch job why s).engine.background = some b → s.engine.background = some b := by
    intro b hb
    cases job with
    | request w => simpa [closeSearch] using hb
    | move w => simpa [closeSearch] using hb
    | refill z => cases hb
  exact hs.ended (closeSearch_stationsKept job why s) (by simp) (by simp) (by simp) (by simp)
    (hs.moving.kept (ownedKept_of_eq (by simp)) fun v hv => openMoveWork_sub (by simp) foreground hv) foreground background

end

/-! ### Work that joins, records that advance the epoch, stations written -/

section
variable {s : State}

/-- An entry joins the queue; a MOVE is of its slot's profile and zone (R107). -/
theorem searchesSound_join (hs : SearchesSound s) {t : State} {w : Work} (stations : StationsKept s t)
    (slots : t.slots = s.slots) (plan : t.plan = s.plan) (sweep : t.sweep = s.sweep) (epoch : t.epoch = s.epoch)
    (foreground : t.engine.foreground = s.engine.foreground) (background : t.engine.background = s.engine.background)
    (queue : t.engine.queue = enqueue w s.engine.queue)
    (own : ∀ v, w = .move v → ∀ o, s.slots.read v.slot = .owned o → o.profile = v.profile ∧ o.zone = v.zone) :
    SearchesSound t := by
  refine hs.ended stations slots plan (by rw [sweep]) epoch (fun v o hv ho => ?_) (by rw [foreground]; exact fun _ h => h)
    (by rw [background]; exact fun _ h => h)
  rw [slots] at ho
  rcases hv with queued | ⟨c, held⟩
  · rw [queue, enqueue_perm.mem_iff, List.mem_cons] at queued
    rcases queued with same | queued
    · exact fun _ _ => own v same.symm o ho
    · exact hs.moving v o (.inl queued) ho
  · exact hs.moving v o (.inr ⟨c, foreground ▸ held⟩) ho

/-- An event that advances the epoch after slots were written, whose contexts then are among the marked ones. -/
theorem searchesSound_advanced {u t : State} (hs : SearchesSound s) (slots : OwnedKept s t)
    (queue : u.engine.queue = s.engine.queue) (sameForeground : u.engine.foreground = s.engine.foreground)
    (kept : ∀ w ∈ t.engine.queue, w ∈ (advanceEpoch u).engine.queue)
    (foreground : ∀ f, t.engine.foreground = some f → (advanceEpoch u).engine.foreground = some f)
    (background : ∀ b, t.engine.background = some b → (advanceEpoch u).engine.background = some b) : SearchesSound t :=
  searchesSound_of_allMoved ((allMoved_advanceEpoch u).sub foreground background)
    (hs.moving.kept slots fun _ hw => openMoveWork_sub (fun _ hv => queue ▸ hv) (fun _ hf => sameForeground ▸ hf)
      (openMoveWork_advanceEpoch (openMoveWork_sub kept foreground hw)))

/-- No MOVE is queued of a station whose REQUEST is in the foreground (R67). -/
theorem no_move_beside_request (owners : OwnersSound s) {w : RequestWork} {c : SearchContext}
    (held : s.engine.foreground = some (.request w c)) {v : MoveWork} (queued : .move v ∈ s.engine.queue) :
    v.station ≠ w.station := by
  obtain ⟨work, -⟩ := ownersSound_iff.1 owners
  intro same
  have one := work.stations w.station
  have le := Bool.toNat_le (requestOpen s w.station)
  have counted : 0 < (s.engine.queue.filterMap Work.station?).count w.station :=
    List.count_pos_iff.2 (List.mem_filterMap.2 ⟨_, queued, congrArg some same⟩)
  rw [stationWork_foreground held (q := w.station) rfl, decide_eq_true rfl, Bool.toNat_true] at one
  omega

theorem searchesSound_grant (hs : SearchesSound s) (owners : OwnersSound s) {w : RequestWork} {c : SearchContext}
    (f : Nat) (i : Fin 384) (a : Answer) (held : s.engine.foreground = some (.request w c)) :
    SearchesSound (answerWork w.station a (advanceEpoch (raiseHeld w.station (setSlot i (grantSlot s w f) s)))) := by
  have idle : (answerWork w.station a (advanceEpoch (raiseHeld w.station (setSlot i (grantSlot s w f) s)))).engine.foreground
      = none := by rw [answerWork_eq]
  refine searchesSound_of_allMoved
    ((allMoved_advanceEpoch (raiseHeld w.station (setSlot i (grantSlot s w f) s))).sub (fun g hg => ?_)
      fun b hb => by simpa using hb) fun v o hv ho station channel => ?_
  · rw [idle] at hg
    cases hg
  · rcases hv with queued | ⟨d, hd⟩
    · have queued : .move v ∈ s.engine.queue := by simpa using queued
      have slots : (answerWork w.station a (advanceEpoch (raiseHeld w.station (setSlot i (grantSlot s w f) s)))).slots =
          s.slots.write i (grantSlot s w f) := by simp
      rw [slots, Table.read_write] at ho
      split_ifs at ho
      · cases ho
        exact absurd station (Ne.symm (no_move_beside_request owners held queued))
      · exact hs.moving v o (.inl queued) ho station channel
    · rw [idle] at hd
      cases hd

/-- A station whose REQUEST is in the foreground is in use (R67). -/
theorem requestOpen_of_foreground (owners : OwnersSound s) {w : RequestWork} {c : SearchContext}
    (held : s.engine.foreground = some (.request w c)) : requestOpen s w.station = true := by
  obtain ⟨work, -⟩ := ownersSound_iff.1 owners
  have one := work.stations w.station
  rw [stationWork_foreground held (q := w.station) rfl, decide_eq_true rfl] at one
  cases h : requestOpen s w.station with
  | true => rfl
  | false =>
    rw [h] at one
    simp at one

/-- A station record written or removed leaves the zones of the stations that search (R166, R167). -/
theorem searchesSound_writeStation (hs : SearchesSound s) {t : State} {r : Fin 48} {x : Option Station}
    (stations : t.stations = s.stations.write r x) (slots : t.slots = s.slots) (engine : t.engine = s.engine)
    (plan : t.plan = s.plan) (sweep : t.sweep = s.sweep) (epoch : t.epoch = s.epoch)
    (zone : ∀ w c, s.engine.foreground = some (.request w c) → w.station = r →
      stationZone t r = stationZone s r) : SearchesSound t := by
  refine hs.keptTables
    { epoch := epoch
      foreground := by rw [engine]; exact fun _ h => h
      background := by rw [engine]; exact fun _ h => h
      zone := fun w c held => ?_
      owned := ownedKept_of_eq slots
      refill := fun b _ => by rw [plan] }
    (hs.moving.kept (ownedKept_of_eq slots) (by rw [engine]; exact fun _ h => h)) plan (by rw [sweep])
    (by rw [slots]; exact fun _ _ h => h)
  by_cases hr : w.station = r
  · rw [hr]
    exact zone w c held hr
  · unfold stationZone
    rw [stations, Table.read_write, if_neg (Ne.symm hr)]

theorem searchesSound_remove (hs : SearchesSound s) (owners : OwnersSound s) {r : Fin 48} {st : Station}
    (present : s.stations.read r = some st) (unused : stationInUse st = false) :
    SearchesSound (orphanPolls r (setStation r none s)) := by
  refine searchesSound_writeStation hs (x := none) rfl rfl rfl rfl rfl rfl fun w c held hr => ?_
  have used := requestOpen_of_foreground owners held
  rw [hr, requestOpen_some present, (stationInUse_eq_false unused).1] at used
  cases used

theorem searchesSound_store (hs : SearchesSound s) (owners : OwnersSound s) {r : Fin 48} {new : StationSettings}
    (unlocked : stationLocked new (s.stations.read r) = false) : SearchesSound (storeStation r new s) := by
  obtain ⟨st', write, -⟩ := storeStation_stations r new s
  refine searchesSound_writeStation hs write (by simp) (by simp) (by simp) (by simp) (by simp) fun w c held hr => ?_
  have used := requestOpen_of_foreground owners held
  rw [hr] at used
  cases hst : s.stations.read r with
  | none =>
    rw [requestOpen_none hst] at used
    cases used
  | some st =>
    rw [requestOpen_some hst] at used
    rw [hst] at unlocked
    obtain ⟨stays, zone⟩ : movesStation new st = false ∧ st.zone = new.zone := by
      simpa [stationLocked, stationInUse, used] using unlocked
    have stored : (storeStation r new s).stations =
        s.stations.write r (some { st with zone := new.zone, ceiling := new.ceiling, authority := new.authority }) := by
      unfold storeStation
      rw [hst]
      dsimp only
      rw [stays]
      rfl
    unfold stationZone
    rw [stored, Table.read_write, if_pos rfl, hst]
    exact zone.symm

end

/-! ### Every change -/

theorem Change.searchesSound {s t : State} (h : Change s t) (hs : PassingSound s) : SearchesSound t := by
  obtain ⟨plan, owners, spares, searches⟩ := passingSound_iff.1 hs
  cases h with
  | quiet q => exact q.searchesSound searches
  | reset => exact searchesSound_idle rfl rfl rfl
  | profile unused => exact searchesSound_writeProfile hs _ unused
  | zone => exact searchesSound_writeZone searches _ _
  | coupling => exact searchesSound_writeCoupling searches plan _ _ _
  | addBand => exact searchesSound_tightened searches _
  | removeBand => exact searchesSound_removeBand searches _
  | guards => exact searchesSound_writeGuards searches _ _
  | retire cause i => exact searchesSound_retire searches cause i
  | @pin _ i index p z label =>
    exact searchesSound_advanced (u := setSlot i (pinnedSlot s index p z label) s) searches
      (ownedKept_setSlot rfl fun o ho => nomatch ho) rfl rfl (fun _ h => h) (fun _ h => h) fun _ h => h
  | @handover _ i j o r rest ticks moving head spare profile =>
    have zone : r.zone = o.zone := by
      have member := (spares.members o.zone j).1 (by rw [head]; exact List.mem_cons_self)
      rwa [spare] at member
    exact searchesSound_handover searches ticks moving spare profile zone
  | confirmMove moving window => exact searchesSound_confirmMove searches moving window
  | @openHost _ w host =>
    exact searchesSound_join searches (w := w) (stationsStill_of_eq (by simp)).kept (by simp) (by simp) (by simp) (by simp)
      (by simp) (by simp) (by rw [openHostWork, joinQueue_eq]) fun v hv => by subst hv; cases host
  | @openRequest _ w =>
    exact searchesSound_join searches (w := .request w) (openStationWork_stationsKept _ _ s) (by simp) (by simp) (by simp)
      (by simp) (by simp) (by simp) (by rw [openStationWork, joinQueue_eq]; rfl) fun v hv => nomatch hv
  | @openMove _ w o _ slot _ profile zone =>
    refine searchesSound_join searches (w := .move w) (openStationWork_stationsKept _ _ s) (by simp) (by simp) (by simp)
      (by simp) (by simp) (by simp) (by rw [openStationWork, joinQueue_eq]; rfl) fun v hv o' ho => ?_
    cases hv
    rw [slot] at ho
    cases ho
    exact ⟨profile, zone⟩
  | take _ front entry fresh => exact searchesSound_take searches front entry fresh
  | turnAway _ front => exact searchesSound_close (searchesSound_dequeue searches front) _ _
  | refill _ _ fresh => exact searchesSound_refill searches fresh
  | goOn held sound => exact searchesSound_goOn searches held sound
  | close => exact searchesSound_close searches _ _
  | grant held => exact searchesSound_grant searches owners _ _ _ held
  | @target _ w c f _ _ moving =>
    obtain ⟨o, ho, -, -⟩ := (stillMoving_iff s _).1 moving
    refine searchesSound_advanced
      (u := setSlot w.slot (Machine.openMove f s.timing.moveTime (s.slots.read w.slot)) s) searches
      (ownedKept_setSlot (i := w.slot) (x := Machine.openMove f s.timing.moveTime (s.slots.read w.slot))
        (by simp [recordMove]) fun o' ho' => ?_) rfl rfl (by simp [recordMove]) (fun g hg => ?_)
      (by simp [recordMove])
    · rw [ho] at ho'
      cases ho'
      exact ⟨o, ho, rfl, rfl, rfl, rfl⟩
    · rw [recordMove, answerWork_eq] at hg
      cases hg
  | @spare _ z c f i _ _ free =>
    refine searchesSound_advanced
      (u := changeZone z (fun zs => { zs with spares := zs.spares ++ [i] })
        (setSlot i (.spare { frequency := f, profile := (s.plan.zones.read z).spareProfile, zone := z, conflict := false }) s))
      searches (ownedKept_setSlot rfl fun o ho => nomatch ho) rfl rfl (fun _ h => h) (fun _ h => h) fun b hb => nomatch hb
  | finishHost free front =>
    have taken := searchesSound_dequeue searches front
    exact taken.ended (stationsStill_of_eq (by simp)).kept (by simp) (by simp) (by simp) (by simp)
      (taken.moving.kept (ownedKept_of_eq (by simp)) fun v hv => openMoveWork_sub (by simp) (by simp) hv) (by simp) (by simp)
  | @takePin _ w rest c _ front sound e0 =>
    refine searchesSound_setForeground (searchesSound_dequeue searches front) rfl (fun v d hd _ => ?_) fun v d g hd hg => ?_
    · cases hd
      simpa using e0
    · cases hd
      rw [evaluatePin_dequeue]
      exact sound.ready g hg
  | takeAudit _ front =>
    exact searchesSound_setForeground (searchesSound_dequeue searches front) rfl (fun _ _ h => nomatch h)
      fun _ _ _ h => nomatch h
  | @pinGoesOn _ w c c' held sound =>
    refine searchesSound_setForeground searches rfl (fun v d hd unmoved => ?_) fun v d g hd hg => ?_
    · cases hd
      rcases sound.mark unmoved with now | ⟨before, same⟩
      · exact now
      · rw [same]
        exact searches.marks c (.inr (.inr (.inl ⟨w, held⟩))) before
    · cases hd
      exact sound.ready g hg
  | auditGoesOn =>
    exact searchesSound_setForeground searches rfl (fun _ _ h => nomatch h) fun _ _ _ h => nomatch h
  | @closeHost _ _ kind outcome =>
    exact searches.ended (stationsStill_of_eq rfl).kept rfl rfl rfl rfl
      (searches.moving.kept (ownedKept_of_eq rfl) fun v hv =>
        openMoveWork_sub (e := s.engine) (e' := (leaveForeground (placeResult kind outcome s)).engine) (fun _ h => h)
          (fun _ h => by cases h) hv)
      (fun _ h => by cases h) fun _ h => h
  | abandon => exact searchesSound_idle rfl rfl rfl
  | empty queue foreground background => exact searchesSound_idle queue foreground background
  | store _ _ unlocked => exact searchesSound_store searches owners unlocked
  | remove present unused => exact searchesSound_remove searches owners present unused
  | poll =>
    exact searches.ended (formPoll_stationsKept _ _ _ s) (by simp) (by simp) (by simp) (by simp)
      (searches.moving.kept (ownedKept_of_eq (by simp)) fun v hv => openMoveWork_sub (by simp) (by simp) hv) (by simp) (by simp)
  | @confirmed _ l =>
    exact searchesSound_advanced (u := setForeign l s) searches (ownedKept_of_eq rfl) rfl rfl (fun _ h => h) (fun _ h => h)
      fun _ h => h

/-- Every change keeps what recording rests on. -/
theorem Change.passingSound {s t : State} (h : Change s t) (hs : PassingSound s) : PassingSound t :=
  passingSound_iff.2 ⟨h.planSound hs.plan, h.ownersSound hs.owners, h.sparesSound hs.spares, h.searchesSound hs⟩

/-- Settles O59, by what every change keeps of the plan, the owners, the spare lists and the searches. -/
theorem foundCandidatesKeepPassing : Obligations.FoundCandidatesKeepPassing :=
  fun _ _ => step_keeps fun _ _ => Change.passingSound

end Sys2Proof.Machine
end

section
/-! ## Proofs: what denied requests and other commands leave alone

O46 and O47, from what every request, event and frame answers. -/

namespace Sys2Proof.Machine

/-! ### Frames without a request (R173, R174) -/

/-- No request code reads an unknown code from no parameters. -/
theorem requestReader_nil {n : Nat} {read : List Byte → Option Instr} (h : requestReader n = some read) (code : Byte) :
    read [] ≠ some (.unknownRequestCode code) := by
  unfold requestReader at h
  split at h <;> cases h <;> nofun

/-- An unknown code is one that the reader names no request for (R173). -/
theorem unknownRequestCode_wellFormed (code : Byte) :
    (Instr.unknownRequestCode code).wellFormed = (requestReader code.toNat).isNone := by
  have decoded : (decodeFrame [code] = .unknownRequestCode code) ↔ (requestReader code.toNat).isNone = true := by
    unfold decodeFrame
    dsimp only
    cases h : requestReader code.toNat with
    | none => simp
    | some read =>
      cases hr : read [] with
      | none => simp [hr]
      | some i => simpa [hr] using fun e => requestReader_nil h code (hr.trans (congrArg some e))
  show (decodeFrame [code] == .unknownRequestCode code) = _
  rw [Bool.eq_iff_iff, beq_iff_eq, decoded]

theorem execUnknownRequestCode_eq (code : Byte) (s : State) :
    execUnknownRequestCode code s =
      .next (if (Instr.unknownRequestCode code).wellFormed then respond .unknown [] s else s) := by
  rw [unknownRequestCode_wellFormed]
  unfold execUnknownRequestCode
  split <;> rfl

/-! ### The bytes clocked out (R172) -/

/-- The bytes of a request carried out: OK, its data, then zeros. -/
theorem clockedOut_ok (data : List Byte) (u : State) :
    clockedOut (respond .ok data u) 0 = some 0 ∧
      (∀ k, ∀ d ∈ data[k]?, clockedOut (respond .ok data u) (k + 1) = some d) ∧
        ∀ k > data.length, clockedOut (respond .ok data u) k = some 0 := by
  refine ⟨rfl, fun k d hd => ?_, fun k hk => ?_⟩
  · rw [respond_clockedOut, List.getD_cons_succ, List.getD_eq_getElem?_getD, Option.mem_def.1 hd]
    rfl
  · rw [respond_clockedOut, List.getD_eq_default]
    simpa using hk

/-- The bytes of a refused request: its status, then zeros. -/
theorem clockedOut_denied (x : Status) (s : State) :
    clockedOut (respond x [] s) 0 = some (statusCode x) ∧ ∀ k > 0, clockedOut (respond x [] s) k = some 0 := by
  refine ⟨rfl, fun k hk => ?_⟩
  obtain ⟨j, rfl⟩ := Nat.exists_eq_add_of_lt hk
  rw [Nat.zero_add]
  exact respond_clockedOut_refused x s j

/-- Settles O46: a request is carried out or denied, an event gives no response, and the other frames by their equations. -/
theorem deniedRequestsChangeNothing : Obligations.DeniedRequestsChangeNothing := by
  refine ⟨execUnknownRequestCode_eq, fun _ _ => rfl, fun s k h => ?_, fun c s t wellFormed run => ?_⟩
  · unfold clockedOut
    rw [h]
  by_cases early : ∃ received, c = .chipSelectReleasedEarly received
  · obtain ⟨received, rfl⟩ := early
    exact .inl ⟨received, rfl⟩
  cases sent : encodeFrame c with
  | none =>
    by_cases reset : c = .hardwareReset
    · exact .inl reset
    · exact .inr (event_occurs sent reset s t run).2
  | some bytes =>
    refine .inr ?_
    by_cases known : ∃ code, c = .unknownRequestCode code
    · obtain ⟨code, rfl⟩ := known
      have run : execUnknownRequestCode code s = .next t := run
      rw [execUnknownRequestCode_eq, if_pos wellFormed] at run
      cases run
      exact .inr ⟨.unknown, by decide, rfl, clockedOut_denied _ s⟩
    · have request : isRequest c :=
        ⟨by rw [sent]; rfl, fun code e => known ⟨code, e⟩, fun received e => early ⟨received, e⟩⟩
      have replied := request_replies request s
      rw [run] at replied
      generalize answered : Host.Outcome.next t = o at replied
      cases replied with
      | @ok data u _ =>
        cases answered
        exact .inl ⟨data, rfl, clockedOut_ok data u⟩
      | @denied x notOk =>
        cases answered
        exact .inr ⟨x, notOk, rfl, clockedOut_denied x s⟩

/-- Settles O47, by what every command but the reset obeys. -/
theorem planModeAndEpochChangeByTheirOwnEvents : Obligations.PlanModeAndEpochChangeByTheirOwnEvents := by
  intro c s t run running
  obtain ⟨-, plan, mode, epoch⟩ := exec_obeys running s t run
  refine ⟨plan.resolve_left, mode.resolve_left, epoch.imp_right And.left, fun moved => ?_, fun moved => ?_⟩
  · exact (epoch.resolve_left moved).2.1
  · exact (epoch.resolve_left moved).2.2

end Sys2Proof.Machine
end

section
/-! ## Proofs: the state after reset meets the invariants -/

namespace Sys2Proof.Machine

-- One elaboration thread: the check's memory limit counts the stack of each.
set_option Elab.async false

/-- A hardware reset of the state after reset changes nothing. -/
theorem resetPart_reset : resetPart State.reset = State.reset := by
  have branches : State.reset.branches.each resetBranch = State.reset.branches := by
    simp [State.reset, Table.each, Table.filled, resetBranch, Branch.reset]
  unfold resetPart
  rw [branches]
  rfl

theorem settingsSound_resetState : SettingsSound State.reset := resetPart_reset ▸ settingsSound_reset State.reset

theorem ownersSound_resetState : OwnersSound State.reset := resetPart_reset ▸ resetPart_ownersSound State.reset

theorem limits_resetState : Limits State.reset where
  queue := by decide
  classes := .nil
  bands := by decide
  foreign := by decide
  notices r st h := by simp at h
  keys r st h := by simp at h
  failures r st h := by simp at h
  addresses r q st su h := by simp at h

theorem modeSound_resetState : ModeSound State.reset where
  branches b := by
    rw [reset_branches_read]
    simp [Branch.linkSound, Branch.reset]
  refill _ := rfl
  stations _ := rfl

theorem answersSound_resetState : AnswersSound State.reset where
  requests := ownersSound_resetState.requests
  link := modeSound_resetState
  room r st h := by simp at h
  carried b r st h := by simp [Branch.reset, Activity.polled?] at h
  free b r st i h := by simp [Branch.reset, Activity.polled?] at h

theorem clearingSound_resetState : ClearingSound State.reset where
  zones z := by simp [hasEnding, Slot.endingIn]
  queue w h := nomatch h
  foreground f h := nomatch h

theorem suspectSound_resetState : SuspectSound State.reset where
  order := .nil
  sources i x h := by simp [Slot.suspect?] at h

theorem leaseSound_resetState : LeaseSound State.reset where
  owners := ownersSound_resetState
  states i o st h := by simp at h
  counters r st h := by simp at h

theorem recordsInRange_resetState : RecordsInRange State.reset where
  plan := planSound_reset
  settings := settingsSound_resetState
  slots i := by simp [Slot.inRange]
  clearing z c h := by simp at h
  leases r st h := by simp at h
  queue w h := nomatch h
  foreground f h := nomatch h
  background b h := nomatch h
  foreign e h := nomatch h
  cursor := by decide
  last level index h := nomatch h

theorem passingSound_resetState : PassingSound State.reset :=
  passingSound_iff.2 ⟨planSound_reset, ownersSound_resetState,
    sparesSound_of_empty reset_slots_read (fun z => by simp) rfl, searchesSound_idle rfl rfl rfl⟩

/-- Settles O4: no table holds a record after reset, and the settings stand at values in their ranges. -/
theorem resetStateIsSound : Obligations.ResetStateIsSound :=
  ⟨limits_resetState, settingsSound_resetState, answersSound_resetState, clearingSound_resetState,
    suspectSound_resetState, leaseSound_resetState, recordsInRange_resetState, passingSound_resetState,
    (fun run => nomatch run), modeSound_resetState⟩

/-- Settles O54, by what every change keeps of the owners and the open requests. -/
theorem ownersHoldOneSlotEach : Obligations.OwnersHoldOneSlotEach :=
  fun _ _ => step_keeps fun _ _ => Change.ownersSound

end Sys2Proof.Machine
end

section
/-! ## Proofs: the ranges of the records are not kept

`RecordsInRange` does not say that the foreign list has one entry for each index (R145), which is a part of `SuspectSound`. A miss
(R144) looks at the first entry of an index and raises the miss count of every entry of it, so that of two entries of one
index the second can pass its limit. No run from reset holds two such entries. -/

namespace Sys2Proof.Machine

-- One elaboration thread: the check's memory limit counts the stack of each.
set_option Elab.async false

/-- An entry that has missed so many points. -/
def missedEntry (index misses : Nat) : ForeignEntry :=
  { index := index, confirmed := false, peak := 0, hits := 1, misses := misses }

/-- A foreign list with two entries of one index, which the sweep is about to find missing there. -/
def twiceListed : State :=
  { State.reset with
    sweep := { Sweep.reset with activity := some .converting, foreign := [missedEntry 0 0, missedEntry 0 7] }
    pending := [.conversionComplete 0 0 1] }

theorem twiceListed_inRange : RecordsInRange twiceListed :=
  { plan := planSound_reset
    settings :=
      { lease := settingsSound_resetState.lease, hold := settingsSound_resetState.hold
        moveTime := settingsSound_resetState.moveTime, thresholds := settingsSound_resetState.thresholds
        deferOn := settingsSound_resetState.deferOn, deferOff := settingsSound_resetState.deferOff
        stations := settingsSound_resetState.stations, sweep := settingsSound_resetState.sweep
        branches := settingsSound_resetState.branches }
    slots := recordsInRange_resetState.slots
    clearing := recordsInRange_resetState.clearing
    leases := recordsInRange_resetState.leases
    queue := recordsInRange_resetState.queue
    foreground := recordsInRange_resetState.foreground
    background := recordsInRange_resetState.background
    foreign := fun e he => by
      have entries : ∀ e ∈ [missedEntry 0 0, missedEntry 0 7], e.inRange := by
        unfold ForeignEntry.inRange
        decide
      exact entries e he
    cursor := recordsInRange_resetState.cursor
    last := recordsInRange_resetState.last }

/-- A miss is counted at both entries of the index. -/
theorem twiceListed_steps :
    ∃ t, step twiceListed = .next t ∧ t.sweep.foreign = [missedEntry 0 1, missedEntry 0 8] :=
  ⟨_, rfl, by decide +kernel⟩

/-- Refutes O50: a miss at the first of two entries of one index takes the second from 7 misses to 8. -/
theorem not_recordsStayInTheirRanges : ¬ Obligations.RecordsStayInTheirRanges := by
  unfold Obligations.RecordsStayInTheirRanges
  intro h
  obtain ⟨t, steps, foreign⟩ := twiceListed_steps
  have entry : missedEntry 0 8 ∈ t.sweep.foreign := by simp [foreign]
  obtain ⟨-, -, -, -, misses⟩ := (h twiceListed t twiceListed_inRange steps).foreign _ entry
  exact absurd misses (by decide)

end Sys2Proof.Machine
end

section
/-! ## Proofs: what a command does to the records, the leases, the zones and the foreign list

A second view of the commands, finer than `Change` in what the slots hold. `Steady` and `Calm` say of an operation what it does
to each part; from them follows `Keeps`, which holds of every command but for the one record that it may write in the lowest
FREE slot and for a station record written or removed (`exec_course`). -/

namespace Sys2Proof.Machine

-- One elaboration thread: the check's memory limit counts the stack of each.
set_option Elab.async false

/-! ### Slots, stations and engine work that are kept -/

/-- The index is that of a CONFIRMED foreign carrier (R145). -/
def confirmedAt (s : State) (x : Nat) : Prop := ∃ e ∈ s.sweep.foreign, e.index = x ∧ e.confirmed = true

/-- A record that is retired, or kept with what its state gives it for good (R21, R23). -/
inductive Slot.Kept : Slot → Slot → Prop
  | freed {x : Slot} : Slot.Kept x .free
  | owned {o p : Owned} (profile : p.profile = o.profile := by rfl) (zone : p.zone = o.zone := by rfl)
      (station : p.station = o.station := by rfl) (channel : p.channel = o.channel := by rfl)
      (label : p.label = o.label := by rfl) : Slot.Kept (.owned o) (.owned p)
  | pinned {p q : Pinned} (frequency : q.frequency = p.frequency := by rfl) (profile : q.profile = p.profile := by rfl)
      (zone : q.zone = p.zone := by rfl) (label : q.label = p.label := by rfl) : Slot.Kept (.pinned p) (.pinned q)
  | spare {r q : Spare} (frequency : q.frequency = r.frequency := by rfl) (profile : q.profile = r.profile := by rfl)
      (zone : q.zone = r.zone := by rfl) : Slot.Kept (.spare r) (.spare q)

theorem Slot.Kept.refl (x : Slot) : x.Kept x := by
  cases x with
  | free => exact .freed
  | owned o => exact .owned
  | pinned p => exact .pinned
  | spare r => exact .spare

theorem Slot.Kept.trans {x y z : Slot} (h : x.Kept y) (k : y.Kept z) : x.Kept z := by
  cases k with
  | freed => exact .freed
  | owned k1 k2 k3 k4 k5 =>
    cases h with
    | owned h1 h2 h3 h4 h5 => exact .owned (k1.trans h1) (k2.trans h2) (k3.trans h3) (k4.trans h4) (k5.trans h5)
  | pinned k1 k2 k3 k4 =>
    cases h with
    | pinned h1 h2 h3 h4 => exact .pinned (k1.trans h1) (k2.trans h2) (k3.trans h3) (k4.trans h4)
  | spare k1 k2 k3 =>
    cases h with
    | spare h1 h2 h3 => exact .spare (k1.trans h1) (k2.trans h2) (k3.trans h3)

/-- A kept owned slot was owned by the same station. -/
theorem Slot.Kept.before_owned {x : Slot} {p : Owned} (h : x.Kept (.owned p)) :
    ∃ o, x = .owned o ∧ p.station = o.station := by
  cases h with
  | owned profile zone station channel label => exact ⟨_, rfl, station⟩

/-- A slot's change that keeps its record, its lease state, and but for the given sources its suspect field. -/
structure Slot.Mild (sources : Nat → Prop) (x y : Slot) : Prop where
  kept : x.Kept y
  lease : ∀ o p, x = .owned o → y = .owned p → (p.state = .active ↔ o.state = .active)
  suspect : ∀ k, y.suspect? = some k → x.suspect? = some k ∨ sources k

theorem Slot.Mild.refl (sources : Nat → Prop) (x : Slot) : x.Mild sources x where
  kept := .refl x
  lease o p hx hy := by cases hx.symm.trans hy; rfl
  suspect k h := .inl h

theorem Slot.Mild.trans {sources : Nat → Prop} {x y z : Slot} (h : x.Mild sources y) (k : y.Mild sources z) :
    x.Mild sources z where
  kept := h.kept.trans k.kept
  lease o q hx hz := by
    obtain ⟨p, hy, -⟩ := (hz ▸ k.kept).before_owned
    exact (k.lease p q hy hz).trans (h.lease o p hx hy)
  suspect x hx := (k.suspect x hx).elim (h.suspect x) .inr

/-- A retired slot. -/
theorem Slot.Mild.freed (sources : Nat → Prop) (x : Slot) : x.Mild sources .free where
  kept := .freed
  lease _ _ _ h := nomatch h
  suspect _ h := nomatch h

/-- An owned slot whose record, lease state and suspect field stay. -/
theorem Slot.Mild.owned {sources : Nat → Prop} {o p : Owned} (kept : (Slot.owned o).Kept (.owned p))
    (lease : p.state = .active ↔ o.state = .active := by exact Iff.rfl)
    (suspect : ∀ k, p.suspect = some k → o.suspect = some k ∨ sources k := by exact fun _ => .inl) :
    (Slot.owned o).Mild sources (.owned p) where
  kept := kept
  lease o' p' ho hp := by cases ho; cases hp; exact lease
  suspect := suspect

/-- A pin whose record and suspect field stay. -/
theorem Slot.Mild.pinned {sources : Nat → Prop} {p q : Pinned} (kept : (Slot.pinned p).Kept (.pinned q))
    (suspect : ∀ k, q.suspect = some k → p.suspect = some k ∨ sources k := by exact fun _ => .inl) :
    (Slot.pinned p).Mild sources (.pinned q) where
  kept := kept
  lease _ _ h := nomatch h
  suspect := suspect

/-- A spare whose record stays. -/
theorem Slot.Mild.spare {sources : Nat → Prop} {r q : Spare} (kept : (Slot.spare r).Kept (.spare q)) :
    (Slot.spare r).Mild sources (.spare q) where
  kept := kept
  lease _ _ h := nomatch h
  suspect _ h := nomatch h

/-- The lease state of a station stays, and its lease counter does not rise (R98, R100). -/
structure Station.LeaseKept (st st' : Station) : Prop where
  state : st'.leaseState = st.leaseState := by rfl
  count : st'.lease.count ≤ st.lease.count := by exact le_refl _

theorem Station.LeaseKept.refl (st : Station) : st.LeaseKept st := {}

theorem Station.LeaseKept.trans {a b c : Station} (h : a.LeaseKept b) (k : b.LeaseKept c) : a.LeaseKept c :=
  ⟨k.state.trans h.state, k.count.trans h.count⟩

/-- No station's work that is queued or in the foreground asks for the phase ENDING. -/
structure EnginePhases (e : Engine) : Prop where
  queue : ∀ w ∈ e.queue, w.phaseSound
  foreground : ∀ f, e.foreground = some f → f.phaseSound

theorem ClearingSound.phases {s : State} (h : ClearingSound s) : EnginePhases s.engine := ⟨h.queue, h.foreground⟩

/-- An owned slot is ACTIVE exactly while its owner's lease is CURRENT, and a LAPSED station's counter stands at 0. -/
structure LeaseAgrees (s : State) : Prop where
  states : ∀ i o st, s.slots.read i = .owned o → s.stations.read o.station = some st →
    (o.state = .active ↔ st.leaseState = .current)
  counters : ∀ r st, s.stations.read r = some st → st.leaseState = .lapsed → st.lease.count = 0

/-! ### Operations that are steady or calm -/

section
variable {s t u : State}

theorem mildSlots_of_eq {sources : Nat → Prop} (h : t.slots = s.slots) (i : Fin 384) :
    (s.slots.read i).Mild sources (t.slots.read i) := h ▸ .refl _ _

theorem leasesKept_of_eq (h : t.stations = s.stations) (r : Fin 48) :
    Option.Rel Station.LeaseKept (s.stations.read r) (t.stations.read r) :=
  h ▸ optionRel_refl Station.LeaseKept.refl _

theorem EnginePhases.of_eq {e e' : Engine} (queue : e'.queue = e.queue) (foreground : e'.foreground = e.foreground)
    (h : EnginePhases e) : EnginePhases e' :=
  ⟨queue ▸ h.queue, foreground ▸ h.foreground⟩

/-- The slots change mildly, the leases and the foreign list stay. -/
structure Steady (s t : State) : Prop where
  slots : ∀ i, (s.slots.read i).Mild (confirmedAt s) (t.slots.read i) := by exact mildSlots_of_eq (by simp)
  leases : ∀ r, Option.Rel Station.LeaseKept (s.stations.read r) (t.stations.read r) := by
    exact leasesKept_of_eq (by simp)
  foreign : t.sweep.foreign = s.sweep.foreign := by simp

/-- The zones stay STEADY or CLEARING, the ENDING slots stay, and no work comes to ask for ENDING. -/
structure PhasesKept (s t : State) : Prop where
  clearing : ∀ z, (t.zones.read z).clearing.isSome = (s.zones.read z).clearing.isSome := by simp
  ending : ∀ i z, (t.slots.read i).endingIn z = (s.slots.read i).endingIn z := by simp
  work : EnginePhases s.engine → EnginePhases t.engine := by exact .of_eq (by simp) (by simp)

/-- A steady operation that keeps the phases as well. -/
structure Calm (s t : State) : Prop extends Steady s t, PhasesKept s t

theorem Steady.refl (s : State) : Steady s s := {}

theorem Steady.trans (h : Steady s t) (k : Steady t u) : Steady s u where
  slots i := by
    have same : confirmedAt t = confirmedAt s := by unfold confirmedAt; rw [h.foreign]
    exact (h.slots i).trans (same ▸ k.slots i)
  leases r := optionRel_trans (R := Station.LeaseKept) (fun _ _ _ => .trans) (h.leases r) (k.leases r)
  foreign := k.foreign.trans h.foreign

theorem PhasesKept.trans (h : PhasesKept s t) (k : PhasesKept t u) : PhasesKept s u where
  clearing z := (k.clearing z).trans (h.clearing z)
  ending i z := (k.ending i z).trans (h.ending i z)
  work := k.work ∘ h.work

theorem Calm.refl (s : State) : Calm s s := {}

theorem Calm.trans (h : Calm s t) (k : Calm t u) : Calm s u where
  toSteady := h.toSteady.trans k.toSteady
  toPhasesKept := h.toPhasesKept.trans k.toPhasesKept

/-- A fold of calm operations is calm. -/
theorem calm_foldl {α : Type} {f : State → α → State} (h : ∀ t a, Calm t (f t a)) (l : List α) (s : State) :
    Calm s (l.foldl f s) :=
  foldl_ind (Calm s) f (fun t a k => k.trans (h t a)) l s (.refl s)

/-! ### What every command keeps -/

/-- What is kept of the records, of the suspect fields and of the leases. -/
structure Held (s t : State) : Prop where
  records : ∀ i, (s.slots.read i).Kept (t.slots.read i)
  suspects : SuspectSound s → SuspectSound t
  leases : LeaseAgrees s → LeaseAgrees t

/-- What is kept of the phases as well. -/
structure Keeps (s t : State) : Prop extends Held s t where
  clearing : ClearingSound s → ClearingSound t

theorem Held.trans (h : Held s t) (k : Held t u) : Held s u where
  records i := (h.records i).trans (k.records i)
  suspects := k.suspects ∘ h.suspects
  leases := k.leases ∘ h.leases

theorem Keeps.trans (h : Keeps s t) (k : Keeps t u) : Keeps s u where
  toHeld := h.toHeld.trans k.toHeld
  clearing := k.clearing ∘ h.clearing

theorem Steady.held (h : Steady s t) : Held s t where
  records i := (h.slots i).kept
  suspects k :=
    { order := by rw [h.foreign]; exact k.order
      sources := fun i x hx => by
        rw [h.foreign]
        rcases (h.slots i).suspect x hx with old | new
        · exact k.sources i x old
        · exact new }
  leases k :=
    { states := fun i p st' hp hst' => by
        obtain ⟨o, ho, station⟩ := (hp ▸ (h.slots i).kept).before_owned
        have lease := h.leases o.station
        rw [← station, hst', station] at lease
        generalize hst : s.stations.read o.station = x at lease
        cases lease with
        | some kept => rw [(h.slots i).lease o p ho hp, kept.state, k.states i o _ ho hst]
      counters := fun r st' hst' lapsed => by
        have lease := h.leases r
        rw [hst'] at lease
        generalize hst : s.stations.read r = x at lease
        cases lease with
        | some kept =>
          rw [kept.state] at lapsed
          exact Nat.le_zero.1 (k.counters r _ hst lapsed ▸ kept.count) }

/-- A zone is CLEARING exactly while it has an ENDING slot. -/
def ClearingAt (s : State) (z : Fin 16) : Prop := (s.zones.read z).clearing.isSome = true ↔ hasEnding s z

theorem clearingSound_iff : ClearingSound s ↔ (∀ z, ClearingAt s z) ∧ EnginePhases s.engine :=
  ⟨fun h => ⟨h.zones, h.phases⟩, fun ⟨zones, phases⟩ => ⟨zones, phases.queue, phases.foreground⟩⟩

/-- A zone whose timer and whose ENDING slots stay. -/
theorem ClearingAt.congr {z : Fin 16} (h : ClearingAt s z)
    (clearing : (t.zones.read z).clearing.isSome = (s.zones.read z).clearing.isSome)
    (ending : ∀ i, (t.slots.read i).endingIn z = (s.slots.read i).endingIn z) : ClearingAt t z := by
  unfold ClearingAt hasEnding
  simp only [clearing, ending]
  exact h

theorem PhasesKept.sound (h : PhasesKept s t) (k : ClearingSound s) : ClearingSound t := by
  obtain ⟨zones, phases⟩ := clearingSound_iff.1 k
  exact clearingSound_iff.2 ⟨fun z => (zones z).congr (h.clearing z) (h.ending · z), h.work phases⟩

theorem Calm.keeps (h : Calm s t) : Keeps s t := { toHeld := h.toSteady.held, clearing := h.toPhasesKept.sound }

theorem Keeps.refl (s : State) : Keeps s s := (Calm.refl s).keeps

/-- A fold of what is kept is kept. -/
theorem keeps_foldl {α : Type} {f : State → α → State} (h : ∀ t a, Keeps t (f t a)) (l : List α) (s : State) :
    Keeps s (l.foldl f s) :=
  foldl_ind (Keeps s) f (fun t a k => k.trans (h t a)) l s (.refl s)

/-! ### The basic updates -/

/-- One slot replaced mildly, with its phase. -/
theorem calm_setSlot {i : Fin 384} {x : Slot} (mild : (s.slots.read i).Mild (confirmedAt s) x)
    (ending : ∀ z, x.endingIn z = (s.slots.read i).endingIn z) : Calm s (setSlot i x s) where
  slots j := by
    rw [setSlot_slots, Table.read_write]
    split
    · rename_i h; exact h ▸ mild
    · exact .refl _ _
  ending j z := by
    rw [setSlot_slots, Table.read_write]
    split
    · rename_i h; exact h ▸ ending z
    · rfl

/-- An owned slot replaced by a record of the same phase. -/
theorem calm_setOwned {i : Fin 384} {o p : Owned} (slot : s.slots.read i = .owned o)
    (kept : (Slot.owned o).Kept (.owned p)) (phase : p.phase = o.phase)
    (lease : p.state = .active ↔ o.state = .active := by exact Iff.rfl)
    (suspect : ∀ k, p.suspect = some k → o.suspect = some k ∨ confirmedAt s k := by exact fun _ => .inl) :
    Calm s (setSlot i (.owned p) s) := by
  refine calm_setSlot (slot ▸ .owned kept lease suspect) fun z => ?_
  cases kept with
  | owned profile zone => rw [slot]; simp [Slot.endingIn, zone, phase]

/-- Every slot changed mildly, with its phase. -/
theorem calm_eachSlot {f : Slot → Slot} (mild : ∀ x : Slot, x.Mild (confirmedAt s) (f x))
    (ending : ∀ (x : Slot) z, (f x).endingIn z = x.endingIn z) : Calm s { s with slots := s.slots.each f } where
  slots i := by rw [Table.read_each]; exact mild _
  ending i z := by rw [Table.read_each]; exact ending _ z

theorem calm_changeStation {r : Fin 48} {f : Station → Station} (h : ∀ st : Station, st.LeaseKept (f st)) :
    Calm s (changeStation r f s) where
  leases q := by
    rw [changeStation_stations, Table.read_change]
    split
    · exact optionRel_map h _
    · exact optionRel_refl Station.LeaseKept.refl _

theorem calm_eachStation {f : Station → Station} (h : ∀ st : Station, st.LeaseKept (f st)) :
    Calm s { s with stations := s.stations.each (Option.map f) } where
  leases q := by
    rw [Table.read_each]
    exact optionRel_map h _

theorem calm_changeZone {z : Fin 16} {f : ZoneState → ZoneState}
    (h : ∀ zs, (f zs).clearing.isSome = zs.clearing.isSome) : Calm s (changeZone z f s) where
  clearing y := by
    rw [changeZone_zones, Table.read_change]
    split
    · exact h _
    · rfl

theorem calm_respond (x : Status) (data : List Byte) (s : State) : Calm s (respond x data s) := {}

theorem calm_raise (a : Attention) (s : State) : Calm s (raise a s) := {}

theorem calm_emptyBarred (s : State) : Calm s (emptyBarred s) := {}

theorem calm_setMode (m : Mode) (s : State) : Calm s (setMode m s) := {}

/-- Marked work is the same work. -/
theorem marked_phaseSound {f : Foreground} : f.marked.phaseSound ↔ f.phaseSound := by cases f <;> rfl

theorem calm_advanceEpoch (s : State) : Calm s (advanceEpoch s) where
  work h :=
    { queue := h.queue
      foreground := fun f hf => by
        rw [advanceEpoch_foreground, Option.map_eq_some_iff] at hf
        obtain ⟨g, hg, rfl⟩ := hf
        exact marked_phaseSound.2 (h.foreground g hg) }

/-! ### Answers, notices and records of stations -/

theorem takeNotice_leaseKept (n : Notice) (st : Station) : st.LeaseKept (st.takeNotice n) := by
  unfold Station.takeNotice
  split_ifs <;> exact {}

theorem acceptReply_leaseKept (item : PollItem) (st : Station) : st.LeaseKept (st.acceptReply item) := by
  unfold Station.acceptReply Station.removeItem
  cases item with
  | resync => dsimp only; split <;> exact {}
  | nothing | answer | notice => exact {}

theorem calm_giveAnswer (r : Fin 48) (a : Answer) (s : State) : Calm s (giveAnswer r a s) :=
  calm_changeStation fun _ => {}

theorem calm_refuse (r : Fin 48) (ch : Fin 64) (why : RefuseReason) (s : State) : Calm s (refuse r ch why s) :=
  calm_giveAnswer _ _ _

theorem calm_giveNotice (r : Fin 48) (n : Notice) (s : State) : Calm s (giveNotice r n s) :=
  calm_changeStation (takeNotice_leaseKept n)

theorem calm_withdrawAdvice (r : Fin 48) (ch : Fin 64) (s : State) : Calm s (withdrawAdvice r ch s) :=
  calm_changeStation fun _ => {}

theorem calm_closeRequest (r : Fin 48) (s : State) : Calm s (closeRequest r s) := calm_changeStation fun _ => {}

theorem calm_countFailure (p : Poll) (s : State) : Calm s (countFailure p s) := by
  unfold countFailure
  split
  · exact .refl s
  · exact calm_changeStation fun _ => {}

end

end Sys2Proof.Machine
end

section
namespace Sys2Proof.Machine

-- One elaboration thread: the check's memory limit counts the stack of each.
set_option Elab.async false

/-! ### Slots retired -/

section
variable {s : State}

/-- Slots retired one after another are FREE, and every other slot stays. -/
theorem retireSlots_slots_read (cause : Option RetireCause) (is : List (Fin 384)) (j : Fin 384) (s : State) :
    (retireSlots cause is s).slots.read j = if j ∈ is then .free else s.slots.read j := by
  induction is generalizing s with
  | nil => simp [retireSlots]
  | cons i rest ih =>
    have run : retireSlots cause (i :: rest) s = retireSlots cause rest (retireSlot cause i s) := rfl
    rw [run, ih, retireSlot_slots_read]
    by_cases hr : j ∈ rest
    · simp [hr]
    · by_cases hi : i = j
      · simp [hi]
      · simp [hr, hi, Ne.symm hi]

/-- The notices and the held count of an owned slot's retirement leave every lease. -/
theorem calm_retirementTold (o : Owned) (cause : Option RetireCause) (u : State) :
    Calm u (withdrawAdvice o.station o.channel (giveRetired o cause (lowerHeld o.station u))) := by
  have lowered : Calm u (lowerHeld o.station u) := calm_changeStation fun _ => {}
  have told : Calm (lowerHeld o.station u) (giveRetired o cause (lowerHeld o.station u)) := by
    cases cause with
    | none => exact .refl _
    | some c => exact calm_giveNotice _ _ _
  exact (lowered.trans told).trans (calm_withdrawAdvice _ _ _)

/-- A slot freed, which empties the barred set. -/
theorem steady_freeSlot (i : Fin 384) (s : State) : Steady s (freeSlot i s) where
  slots j := by
    show (s.slots.read j).Mild _ ((s.slots.write i .free).read j)
    rw [Table.read_write]
    split
    · exact .freed _ _
    · exact .refl _ _

theorem steady_steadyIfDone (z : Fin 16) (s : State) : Steady s (steadyIfDone z s) := by
  unfold steadyIfDone
  split
  · exact {}
  · exact .refl s

/-- A retirement leaves every lease and the foreign list (R35). -/
theorem steady_retireSlot (cause : Option RetireCause) (i : Fin 384) (s : State) : Steady s (retireSlot cause i s) := by
  unfold retireSlot
  split
  · exact .refl s
  · exact steady_freeSlot i s
  · exact (steady_freeSlot i s).trans {}
  · rename_i o _
    have told := (steady_freeSlot i s).trans (calm_retirementTold o cause (freeSlot i s)).toSteady
    dsimp only
    split
    · exact told.trans (steady_steadyIfDone _ _)
    · exact told

/-- The list of a zone's ENDING slots is empty exactly when it has none. -/
theorem endingSlots_isEmpty (z : Fin 16) (s : State) : (endingSlots z s).isEmpty = true ↔ ¬ hasEnding s z := by
  rw [List.isEmpty_iff, List.eq_nil_iff_forall_not_mem]
  simp [endingSlots, hasEnding]

/-- A slot that is not ENDING in a zone is freed: the zone has the ENDING slots that it had. -/
theorem hasEnding_freed {t : State} {i : Fin 384} {z : Fin 16}
    (slots : ∀ j, t.slots.read j = if i = j then .free else s.slots.read j) (other : (s.slots.read i).endingIn z = false) :
    hasEnding t z ↔ hasEnding s z := by
  have same : ∀ j, (t.slots.read j).endingIn z = (s.slots.read j).endingIn z := fun j => by
    rw [slots]
    split
    · rename_i hij; rw [← hij, other]; rfl
    · rfl
  simp only [hasEnding, same]

/-- A zone that may return to STEADY is STEADY exactly while it has no ENDING slot, if it was CLEARING before (R124). -/
theorem clearingAt_steadyIfDone {z : Fin 16} (clearing : (s.zones.read z).clearing.isSome = true) :
    ClearingAt (steadyIfDone z s) z := by
  unfold steadyIfDone
  split
  · rename_i done
    have none : ¬ hasEnding s z := (endingSlots_isEmpty z s).1 done
    unfold ClearingAt
    rw [changeZone_zones, Table.read_change, if_pos rfl]
    exact ⟨fun h => (Bool.false_ne_true h).elim, fun h => absurd h none⟩
  · rename_i left
    exact ⟨fun _ => not_not.1 (mt (endingSlots_isEmpty z s).2 left), fun _ => clearing⟩

/-- A zone that may return to STEADY leaves every other zone. -/
theorem steadyIfDone_zones_read_of_ne {y z : Fin 16} (h : z ≠ y) : (steadyIfDone z s).zones.read y = s.zones.read y := by
  unfold steadyIfDone
  split
  · rw [changeZone_zones, Table.read_change, if_neg h]
  · rfl

/-- A retirement keeps a zone CLEARING exactly while it has an ENDING slot (R116, R124). -/
theorem ClearingAt.retireSlot {z : Fin 16} (h : ClearingAt s z) (cause : Option RetireCause) (i : Fin 384) :
    ClearingAt (retireSlot cause i s) z := by
  have slots := fun j => retireSlot_slots_read cause i j s
  have unmoved : (s.slots.read i).endingIn z = false →
      ((Machine.retireSlot cause i s).zones.read z).clearing = (s.zones.read z).clearing →
      ClearingAt (Machine.retireSlot cause i s) z := fun other clearing => by
    unfold ClearingAt
    rw [hasEnding_freed slots other, clearing]
    exact h
  cases hi : s.slots.read i with
  | free => rw [retireSlot_free cause hi]; exact h
  | pinned p => exact unmoved (by rw [hi]; rfl) (by simp [Machine.retireSlot, hi])
  | spare r =>
    refine unmoved (by rw [hi]; rfl) ?_
    simp only [Machine.retireSlot, hi, changeZone_zones, Table.read_change]
    split <;> simp
  | owned o =>
    simp only [Machine.retireSlot, hi] at unmoved ⊢
    by_cases ending : o.phase = .ending
    · rw [if_pos ending] at unmoved ⊢
      by_cases hz : o.zone = z
      · subst hz
        refine clearingAt_steadyIfDone ?_
        simpa using h.2 ⟨i, by simp [hi, Slot.endingIn, ending]⟩
      · refine unmoved (by simp [Slot.endingIn, hz]) ?_
        rw [steadyIfDone_zones_read_of_ne hz]
        simp
    · rw [if_neg ending] at unmoved ⊢
      exact unmoved (by simp [Slot.endingIn, ending]) (by simp)

/-- A STEADY zone is STEADY after a retirement. -/
theorem retireSlot_steady {z : Fin 16} (h : (s.zones.read z).clearing = none) (cause : Option RetireCause) (i : Fin 384) :
    ((retireSlot cause i s).zones.read z).clearing = none := by
  unfold retireSlot
  split
  · exact h
  · simpa using h
  · rw [changeZone_zones, Table.read_change]
    split <;> simpa using h
  · dsimp only
    split
    · unfold steadyIfDone
      split
      · rw [changeZone_zones, Table.read_change]
        split
        · rfl
        · simpa using h
      · simpa using h
    · simpa using h

theorem keeps_retireSlot (cause : Option RetireCause) (i : Fin 384) (s : State) : Keeps s (retireSlot cause i s) where
  toHeld := (steady_retireSlot cause i s).held
  clearing h := by
    obtain ⟨zones, phases⟩ := clearingSound_iff.1 h
    exact clearingSound_iff.2 ⟨fun z => (zones z).retireSlot cause i, phases.of_eq (by simp) (by simp)⟩

theorem keeps_retireSlots (cause : Option RetireCause) (is : List (Fin 384)) (s : State) :
    Keeps s (retireSlots cause is s) :=
  keeps_foldl (fun t i => keeps_retireSlot cause i t) is s

/-- Every zone stays as it should be through retirements. -/
theorem ClearingAt.retireSlots {z : Fin 16} (h : ClearingAt s z) (cause : Option RetireCause) (is : List (Fin 384)) :
    ClearingAt (retireSlots cause is s) z :=
  foldl_ind (ClearingAt · z) _ (fun _ i k => k.retireSlot cause i) is s h

theorem retireSlots_steady {z : Fin 16} (h : (s.zones.read z).clearing = none) (cause : Option RetireCause)
    (is : List (Fin 384)) : ((retireSlots cause is s).zones.read z).clearing = none :=
  foldl_ind (fun t => (t.zones.read z).clearing = none) _ (fun _ i k => retireSlot_steady k cause i) is s h

/-- With its ENDING slots retired a zone has none. -/
theorem retireSlots_ending (cause : Option RetireCause) (z : Fin 16) (s : State) :
    ¬ hasEnding (retireSlots cause (endingSlots z s) s) z := by
  rintro ⟨i, hi⟩
  rw [retireSlots_slots_read] at hi
  split at hi
  · cases hi
  · rename_i other
    exact other (by simpa [endingSlots] using hi)

end

end Sys2Proof.Machine
end

section
namespace Sys2Proof.Machine

-- One elaboration thread: the check's memory limit counts the stack of each.
set_option Elab.async false

/-! ### The nearest foreign carrier (R34, R149) -/

/-- The index `x` lies nearer than `y`, or as near and not above it. -/
def notFarther (f : Nat) (pending : Option Nat) (x y : Nat) : Prop :=
  foreignDistance f pending x ≤ foreignDistance f pending y ∧
    (foreignDistance f pending y = foreignDistance f pending x → x ≤ y)

theorem notFarther_trans {f : Nat} {pending : Option Nat} {x y z : Nat} (h : notFarther f pending x y)
    (k : notFarther f pending y z) : notFarther f pending x z := by
  unfold notFarther at *
  omega

/-- The best of a list of indices: one of them that no other lies nearer than; none of an empty list. -/
def isNearest (f : Nat) (pending : Option Nat) (l : List Nat) (best : Option Nat) : Prop :=
  match best with
  | none => l = []
  | some x => x ∈ l ∧ ∀ y ∈ l, notFarther f pending x y

/-- One more index compared with the best so far. -/
theorem isNearest_nearerOf {f : Nat} {pending : Option Nat} {l : List Nat} {best : Option Nat}
    (h : isNearest f pending l best) (x : Nat) : isNearest f pending (l ++ [x]) (nearerOf f pending best x) := by
  have extend : ∀ y, y = x ∨ y ∈ l → (∀ z ∈ l, notFarther f pending y z) → notFarther f pending y x →
      isNearest f pending (l ++ [x]) (some y) := fun y mem old new => by
    refine ⟨by simpa [or_comm] using mem, fun z hz => ?_⟩
    rcases List.mem_append.1 hz with hz | hz
    · exact old z hz
    · rw [List.mem_singleton.1 hz]
      exact new
  have self : notFarther f pending x x := ⟨le_refl _, fun _ => le_refl _⟩
  cases best with
  | none =>
    have empty : l = [] := h
    exact extend x (.inl rfl) (by simp [empty]) self
  | some y =>
    obtain ⟨mem, least⟩ : y ∈ l ∧ ∀ z ∈ l, notFarther f pending y z := h
    have replaced : notFarther f pending x y → isNearest f pending (l ++ [x]) (some x) := fun near =>
      extend x (.inl rfl) (fun z hz => notFarther_trans near (least z hz)) self
    unfold nearerOf
    dsimp only
    split_ifs with closer tie
    · exact replaced ⟨by omega, fun h => by omega⟩
    · exact replaced ⟨by omega, fun _ => by omega⟩
    · exact extend y (.inr mem) least ⟨by omega, fun h => by omega⟩

theorem isNearest_foldl {f : Nat} {pending : Option Nat} (l : List Nat) {l0 : List Nat} {best : Option Nat}
    (h : isNearest f pending l0 best) : isNearest f pending (l0 ++ l) (l.foldl (nearerOf f pending) best) := by
  induction l generalizing l0 best with
  | nil => simpa using h
  | cons x l ih => simpa using ih (isNearest_nearerOf h x)

/-- No CONFIRMED carrier lies less than fg from the indices, or the nearest of them, the lower on a tie. -/
theorem nearestForeign_spec (s : State) (f : Nat) (pending : Option Nat) :
    match nearestForeign s f pending with
    | none => ∀ e ∈ s.sweep.foreign, e.confirmed = true → s.plan.fg ≤ foreignDistance f pending e.index
    | some x => (∃ e ∈ s.sweep.foreign, e.confirmed = true ∧ e.index = x) ∧ foreignDistance f pending x < s.plan.fg ∧
        ∀ e ∈ s.sweep.foreign, e.confirmed = true → notFarther f pending x e.index := by
  have nearest : isNearest f pending _ (nearestForeign s f pending) :=
    isNearest_foldl (l0 := []) (best := none) ((s.sweep.foreign.filter fun e =>
      e.confirmed && decide (foreignDistance f pending e.index < s.plan.fg)).map ForeignEntry.index) rfl
  rw [List.nil_append] at nearest
  have listed : ∀ e ∈ s.sweep.foreign, e.confirmed = true → foreignDistance f pending e.index < s.plan.fg →
      e.index ∈ (s.sweep.foreign.filter fun e =>
        e.confirmed && decide (foreignDistance f pending e.index < s.plan.fg)).map ForeignEntry.index :=
    fun e he hc hd => List.mem_map_of_mem (List.mem_filter.2 ⟨he, by simp [hc, hd]⟩)
  cases h : nearestForeign s f pending with
  | none =>
    rw [h] at nearest
    have empty : _ = [] := nearest
    intro e he hc
    by_contra near
    have := listed e he hc (Nat.lt_of_not_le near)
    rw [empty] at this
    cases this
  | some x =>
    rw [h] at nearest
    obtain ⟨mem, least⟩ := nearest
    obtain ⟨e, he, rfl⟩ := List.mem_map.1 mem
    obtain ⟨he, hd⟩ := List.mem_filter.1 he
    rw [Bool.and_eq_true, decide_eq_true_eq] at hd
    refine ⟨⟨e, he, hd.1, rfl⟩, hd.2, fun d hdm hdc => ?_⟩
    by_cases near : foreignDistance f pending d.index < s.plan.fg
    · exact least _ (listed d hdm hdc near)
    · exact ⟨by omega, fun _ => by omega⟩

/-- The nearest foreign carrier is a CONFIRMED one. -/
theorem nearestForeign_confirmed {s : State} {f : Nat} {pending : Option Nat} {x : Nat}
    (h : nearestForeign s f pending = some x) : confirmedAt s x := by
  have spec := nearestForeign_spec s f pending
  rw [h] at spec
  obtain ⟨⟨e, he, hc, hi⟩, -⟩ := spec
  exact ⟨e, he, hi, hc⟩

/-! ### Searches and console work -/

/-- The phase that a search asks for is LIVE or NEXT. -/
def Job.phaseSound (job : Job) : Prop :=
  match job with
  | .request w => w.phase ≠ .ending
  | .move _ => True
  | .refill _ => True

/-- A search that is held asks for LIVE or NEXT. -/
theorem held_phaseSound {e : Engine} {job : Job} {c : SearchContext} (held : holdsSearch e job c) (h : EnginePhases e) :
    job.phaseSound := by
  cases job with
  | request w => exact h.foreground _ held
  | move w => trivial
  | refill z => trivial

section
variable {s u : State} {job : Job} {c : SearchContext}

/-- Work that asks for LIVE or NEXT comes into the foreground of a state that follows calmly. -/
theorem calm_setForeground (k : Calm s u) {f : Foreground} (sound : EnginePhases s.engine → f.phaseSound) :
    Calm s (setForeground f u) where
  slots := k.slots
  leases := k.leases
  foreign := k.foreign
  clearing := k.clearing
  ending := k.ending
  work h := ⟨(k.work h).queue, fun g hg => by cases hg; exact sound h⟩

theorem calm_leaveForeground (s : State) : Calm s (leaveForeground s) where
  work h := ⟨h.queue, fun _ hf => nomatch hf⟩

theorem calm_setContext (k : Calm s u) (sound : EnginePhases s.engine → job.phaseSound) (c : SearchContext) :
    Calm s (setContext job c u) := by
  cases job with
  | request w => exact calm_setForeground k (f := .request w c) sound
  | move w => exact calm_setForeground k (f := .move w c) sound
  | refill z => exact k.trans { work := fun h => ⟨h.queue, h.foreground⟩ }

theorem calm_answerWork (r : Fin 48) (a : Answer) (s : State) : Calm s (answerWork r a s) :=
  ((calm_giveAnswer r a s).trans (calm_closeRequest r _)).trans (calm_leaveForeground _)

theorem calm_closeSearch (job : Job) (why : RefuseReason) (s : State) : Calm s (closeSearch job why s) := by
  cases job with
  | request w => exact calm_answerWork _ _ s
  | move w => exact calm_answerWork _ _ s
  | refill z => exact {}

theorem calm_beginWalk (k : Calm s u) (sound : EnginePhases s.engine → job.phaseSound) (n : Nat) :
    Calm s (beginWalk job n u) := by
  rcases beginWalk_cases job n u with h | ⟨c, -, -, -, h⟩ <;> rw [h]
  · exact k.trans (calm_closeSearch _ _ u)
  · exact calm_setContext k sound c

theorem calm_fullResearch (held : holdsSearch s.engine job c) : Calm s (fullResearch job c s) := by
  unfold fullResearch
  split
  · exact calm_beginWalk (.refl s) (held_phaseSound held) _
  · exact calm_closeSearch _ _ s

theorem calm_evaluateNext (held : holdsSearch s.engine job c) : Calm s (evaluateNext job c s) := by
  have goesOn := fun d => calm_setContext (.refl s) (held_phaseSound held) d
  unfold evaluateNext
  split
  · exact calm_closeSearch _ _ s
  · dsimp only
    split_ifs
    · exact goesOn _
    · exact calm_closeSearch _ _ s
    · exact goesOn _

theorem calm_retestSearch (held : holdsSearch s.engine job c) (f : Nat) : Calm s (retestSearch job c f s) := by
  unfold retestSearch
  split
  · exact calm_setContext (.refl s) (held_phaseSound held) _
  · exact calm_fullResearch held

theorem calm_startRefill (s : State) : Calm s (startRefill s) := {}

theorem calm_discardRefill (z : Fin 16) (s : State) : Calm s (discardRefill z s) := {}

theorem calm_placeResult (kind : HostKind) (outcome : HostOutcome) (s : State) : Calm s (placeResult kind outcome s) := {}

theorem calm_closePin (outcome : HostOutcome) (s : State) : Calm s (closePin outcome s) :=
  (calm_placeResult _ _ s).trans (calm_leaveForeground _)

theorem calm_beginPin (k : Calm s u) (w : PinWork) (n : Nat) : Calm s (beginPin w n u) := by
  rcases beginPin_cases w n u with ⟨f, h⟩ | ⟨c, -, -, -, h⟩ <;> rw [h]
  · exact k.trans (calm_closePin _ u)
  · exact calm_setForeground k fun _ => trivial

theorem calm_retestPin (w : PinWork) (c : SearchContext) (s : State) : Calm s (retestPin w c s) := by
  unfold retestPin
  split
  · exact calm_closePin _ s
  · exact calm_setForeground (.refl s) (f := .pin w { c with stage := .retested w.index }) fun _ => trivial

/-- A conflict field set or cleared (R39). -/
theorem withConflict_mild (sources : Nat → Prop) (mark : Bool) (x : Slot) : x.Mild sources (x.withConflict mark) := by
  cases x with
  | free => exact .refl _ _
  | owned o => exact .owned .owned
  | pinned p => exact .pinned .pinned
  | spare r => exact .spare .spare

theorem calm_auditSlot (i : Fin 384) (s : State) : Calm s (auditSlot i s) :=
  calm_setSlot (withConflict_mild _ _ _) fun z => by cases s.slots.read i <;> rfl

theorem calm_auditVisit (k : Calm s u) (n flagged : Nat) : Calm s (auditVisit n flagged u) := by
  unfold auditVisit
  split
  · rename_i h
    have visited := k.trans (calm_auditSlot ⟨n, h⟩ u)
    dsimp only
    split
    · exact calm_setForeground visited (f := .audit (n + 1) (auditTally ⟨n, h⟩ flagged u)) fun _ => trivial
    · have closed := visited.trans
        ((calm_placeResult .audit (.count (auditTally ⟨n, h⟩ flagged u)) _).trans (calm_leaveForeground _))
      unfold closeAudit
      dsimp only
      split
      · exact closed
      · exact closed.trans (calm_raise _ _)
  · exact k

/-- Work begun in a state that follows calmly on one in which it asked for LIVE or NEXT. -/
theorem calm_beginWork (k : Calm s u) {w : Work} (sound : EnginePhases s.engine → w.phaseSound) :
    Calm s (beginWork w u) := by
  cases w with
  | request r => exact calm_beginWalk k (job := .request r) sound 0
  | move m =>
    unfold beginWork
    dsimp only
    split
    · exact calm_beginWalk k (job := .move m) (fun _ => trivial) 0
    · exact k.trans (calm_closeSearch _ _ u)
  | check q => exact k.trans (calm_placeResult _ _ u)
  | pin p => exact calm_beginPin k p 0
  | audit => exact calm_auditVisit k 0 0

theorem calm_takeWork (s : State) : Calm s (takeWork s) := by
  unfold takeWork
  split
  · split
    · exact .refl s
    · rename_i w rest front
      have taken : Calm s (dequeue rest s) := {
        work := fun h => ⟨fun v hv => h.queue v (front ▸ List.mem_cons_of_mem _ (by simpa [dequeue_eq] using hv)),
          by simpa using h.foreground⟩ }
      exact calm_beginWork taken fun h => h.queue w (front ▸ List.mem_cons_self)
  · exact .refl s

/-- All engine work abandoned (R92, R93). -/
theorem calm_abandonWork (s : State) : Calm s (abandonWork s) := by
  have told := (calm_foldl (fun t r => calm_closeRequest r t) (openStations s.engine) s).trans
    (calm_foldl (fun t k => calm_placeResult k .abandoned t) (openHostKinds s.engine) _)
  unfold abandonWork
  dsimp only
  exact told.trans { work := fun _ => { queue := nofun, foreground := nofun } }

/-- Work that asks for LIVE or NEXT joins the queue. -/
theorem calm_joinQueue {w : Work} (sound : w.phaseSound) (s : State) : Calm s (joinQueue w s) where
  work h :=
    { queue := fun v hv => by
        rw [joinQueue_eq] at hv
        rcases List.mem_cons.1 (enqueue_perm.mem_iff.1 hv) with rfl | hv
        · exact sound
        · exact h.queue v hv
      foreground := by simpa using h.foreground }

theorem calm_openStationWork (r : Fin 48) {w : Work} (sound : w.phaseSound) (s : State) :
    Calm s (openStationWork r w s) := by
  have flagged : Calm s (changeStation r (fun st => { st with openRequest := true }) s) := calm_changeStation fun _ => {}
  exact flagged.trans (calm_joinQueue sound _)

theorem calm_openHostWork {w : Work} (sound : w.phaseSound) (s : State) : Calm s (openHostWork w s) := by
  have flagged : Calm s { s with console := { s.console with openRequest := true } } := {}
  exact flagged.trans (calm_joinQueue sound _)

end

end Sys2Proof.Machine
end

section
namespace Sys2Proof.Machine

-- One elaboration thread: the check's memory limit counts the stack of each.
set_option Elab.async false

/-! ### The record that a command may write, and the rest of its course -/

/-- A record as the part writes it in a FREE slot: sourced from a CONFIRMED carrier or from none, not ENDING, and in the
lease state of its owner's lease (R28, R31, R33). -/
structure Slot.Fresh (s : State) (x : Slot) : Prop where
  suspect : ∀ k, x.suspect? = some k → confirmedAt s k
  phase : EnginePhases s.engine → ∀ z, x.endingIn z = false
  lease : ∀ o st, x = .owned o → s.stations.read o.station = some st → (o.state = .active ↔ st.leaseState = .current)

/-- What a command does: it keeps what there is; or it writes a record in the lowest FREE slot first; or it
writes or removes a station record. -/
inductive Course (s : State) : State → Prop
  | keeps {t : State} (h : Keeps s t) : Course s t
  | records {t : State} {i : Fin 384} {x : Slot} (lowest : lowestFree s = some i) (fresh : x.Fresh s)
      (h : Keeps (setSlot i x s) t) : Course s t
  | station {u t : State} (slots : u.slots = s.slots) (zones : u.zones = s.zones) (engine : u.engine = s.engine)
      (sweep : u.sweep = s.sweep) (leases : OwnersSound s → LeaseAgrees s → LeaseAgrees u) (h : Keeps u t) : Course s t

section
variable {s t u : State}

/-- What is kept after a course. -/
theorem Course.trans (h : Course s t) (k : Keeps t u) : Course s u := by
  cases h with
  | keeps h => exact .keeps (h.trans k)
  | records lowest fresh h => exact .records lowest fresh (h.trans k)
  | station slots zones engine sweep leases h => exact .station slots zones engine sweep leases (h.trans k)

theorem Calm.course (h : Calm s t) : Course s t := .keeps h.keeps

/-- A record written in the lowest FREE slot (R28). -/
theorem course_setSlot {i : Fin 384} {x : Slot} (lowest : lowestFree s = some i) (fresh : x.Fresh s) :
    Course s (setSlot i x s) := .records lowest fresh (.refl _)

/-- With a fresh record in a FREE slot the suspect fields stay sound. -/
theorem SuspectSound.setFresh {i : Fin 384} {x : Slot} (fresh : x.Fresh s) (h : SuspectSound s) :
    SuspectSound (setSlot i x s) where
  order := h.order
  sources j k hk := by
    rw [setSlot_slots, Table.read_write] at hk
    split_ifs at hk
    · exact fresh.suspect k hk
    · exact h.sources j k hk

theorem LeaseAgrees.setFresh {i : Fin 384} {x : Slot} (fresh : x.Fresh s) (h : LeaseAgrees s) :
    LeaseAgrees (setSlot i x s) where
  states j o st ho hst := by
    rw [setSlot_slots, Table.read_write] at ho
    split_ifs at ho
    · exact fresh.lease o st ho hst
    · exact h.states j o st ho hst
  counters := h.counters

theorem ClearingSound.setFresh {i : Fin 384} {x : Slot} (free : s.slots.read i = .free) (fresh : x.Fresh s)
    (h : ClearingSound s) : ClearingSound (setSlot i x s) := by
  obtain ⟨zones, phases⟩ := clearingSound_iff.1 h
  refine clearingSound_iff.2 ⟨fun z => (zones z).congr rfl fun j => ?_, phases⟩
  rw [setSlot_slots, Table.read_write]
  split
  · rename_i hij
    rw [fresh.phase phases, ← hij, free]
    rfl
  · rfl

theorem Course.suspectSound (h : Course s t) (hs : SuspectSound s) : SuspectSound t := by
  cases h with
  | keeps h => exact h.suspects hs
  | records lowest fresh h => exact h.suspects (hs.setFresh fresh)
  | station slots zones engine sweep leases h =>
    exact h.suspects { order := sweep ▸ hs.order, sources := by rw [slots, sweep]; exact hs.sources }

theorem Course.clearingSound (h : Course s t) (hs : ClearingSound s) : ClearingSound t := by
  cases h with
  | keeps h => exact h.clearing hs
  | records lowest fresh h => exact h.clearing (hs.setFresh ((lowestFree_eq_some s _).1 lowest).1 fresh)
  | station slots zones engine sweep leases h =>
    have same : PhasesKept s _ :=
      { clearing := fun z => by rw [zones], ending := fun i z => by rw [slots], work := .of_eq (by rw [engine]) (by rw [engine]) }
    exact h.clearing (same.sound hs)

theorem Course.leaseAgrees (h : Course s t) (owners : OwnersSound s) (hs : LeaseAgrees s) : LeaseAgrees t := by
  cases h with
  | keeps h => exact h.leases hs
  | records lowest fresh h => exact h.leases (hs.setFresh fresh)
  | station slots zones engine sweep leases h => exact h.leases (leases owners hs)

/-- A slot that is FREE and then holds a record was the lowest FREE one; any other is kept or retired. -/
theorem Course.slot (h : Course s t) (i : Fin 384) :
    (s.slots.read i).Kept (t.slots.read i) ∨ lowestFree s = some i := by
  cases h with
  | keeps h => exact .inl (h.records i)
  | @records _ j x lowest fresh h =>
    have kept := h.records i
    rw [setSlot_slots, Table.read_write] at kept
    split_ifs at kept with hij
    · exact .inr (hij ▸ lowest)
    · exact .inl kept
  | station slots zones engine sweep leases h => exact .inl (slots ▸ h.records i)

/-! ### Records written (R28, R33, R79, R83) -/

theorem fresh_pinnedSlot (s : State) (index : Nat) (p z : Fin 16) (label : List Byte) :
    (pinnedSlot s index p z label).Fresh s where
  suspect _ h := nearestForeign_confirmed h
  phase _ _ := rfl
  lease _ _ h := nomatch h

theorem fresh_spare (s : State) (r : Spare) : (Slot.spare r).Fresh s where
  suspect _ h := nomatch h
  phase _ _ := rfl
  lease _ _ h := nomatch h

/-- A grant is in the lease state of its owner's lease (R31). -/
theorem fresh_grantSlot {w : RequestWork} {c : SearchContext} (held : s.engine.foreground = some (.request w c)) (f : Nat) :
    (grantSlot s w f).Fresh s where
  suspect _ h := nomatch h
  phase h z := by
    have phase : w.phase ≠ .ending := h.foreground _ held
    simp [grantSlot, Slot.endingIn, phase]
  lease o st ho hst := by
    cases ho
    dsimp only at hst ⊢
    rw [hst]
    cases h : st.leaseState <;> simp [h]

theorem course_recordPin {i : Fin 384} (lowest : lowestFree s = some i) (index : Nat) (p z : Fin 16) (label : List Byte) :
    Course s (recordPin i index p z label s) :=
  (course_setSlot lowest (fresh_pinnedSlot s index p z label)).trans (calm_advanceEpoch _).keeps

/-- An open move (R24). -/
theorem calm_openMove {i : Fin 384} (index ticks : Nat) (s : State) :
    Calm s (setSlot i (openMove index ticks (s.slots.read i)) s) := by
  cases h : s.slots.read i with
  | owned o => exact calm_setOwned h .owned rfl
  | free | pinned | spare => exact calm_setSlot (by rw [h]; exact .refl _ _) fun z => by rw [h]; rfl

theorem course_recordFound {job : Job} {c : SearchContext} (held : holdsSearch s.engine job c) (f : Nat) :
    Course s (recordFound job f s) := by
  cases job with
  | request w =>
    show Course s (recordGrant w f s)
    unfold recordGrant
    split
    · exact (calm_closeSearch _ _ s).course
    · rename_i i lowest
      have raised : Calm (setSlot i (grantSlot s w f) s) (raiseHeld w.station (setSlot i (grantSlot s w f) s)) :=
        calm_changeStation fun _ => {}
      exact (course_setSlot lowest (fresh_grantSlot held f)).trans
        ((raised.trans (calm_advanceEpoch _)).trans (calm_answerWork _ _ _)).keeps
  | move w =>
    exact ((calm_openMove _ _ s).trans ((calm_advanceEpoch _).trans (calm_answerWork _ _ _))).course
  | refill z =>
    show Course s (recordSpare z f s)
    unfold recordSpare
    split
    · exact (calm_closeSearch _ _ s).course
    · rename_i i lowest
      have listed : ∀ v, Calm v (changeZone z (fun zs => { zs with spares := zs.spares ++ [i] }) v) := fun v =>
        calm_changeZone fun _ => rfl
      have left : ∀ v, Calm v (leaveBackground v) := fun v => { work := fun h => ⟨h.queue, h.foreground⟩ }
      exact (course_setSlot lowest (fresh_spare s _)).trans
        (((listed _).trans (calm_advanceEpoch _)).trans (left _)).keeps

theorem course_completeSearch {job : Job} {c : SearchContext} (held : holdsSearch s.engine job c) (f : Nat)
    (afterRetest : Bool) : Course s (completeSearch job c f afterRetest s) := by
  unfold completeSearch
  split_ifs
  · exact (calm_closeSearch _ _ s).course
  · exact course_recordFound held f
  · exact (calm_fullResearch held).course
  · exact (calm_setContext (.refl s) (held_phaseSound held) _).course
  · exact (calm_closeSearch _ _ s).course

theorem course_completePin (w : PinWork) (c : SearchContext) (afterRetest : Bool) (s : State) :
    Course s (completePin w c afterRetest s) := by
  unfold completePin
  split_ifs
  · unfold recordCheckedPin
    split
    · exact (calm_closePin _ s).course
    · rename_i i lowest
      exact (course_recordPin lowest _ _ _ _).trans (calm_closePin _ _).keeps
  · exact (calm_closePin _ s).course
  · exact (calm_beginPin (.refl s) w _).course
  · exact (calm_setForeground (.refl s) (f := .pin w { c with e0 := s.epoch, moved := false, stage := .retestDue w.index })
      fun _ => trivial).course

/-! ### The Lease Timer (chapter 5) -/

/-- Changed counters (R96). -/
theorem eachCounter_mild (sources : Nat → Prop) (f : TickCounter → TickCounter) (x : Slot) :
    x.Mild sources (x.eachCounter f) := by
  cases x with
  | owned o => exact .owned .owned (by cases o.state <;> simp)
  | free | pinned | spare => exact .refl _ _

theorem eachCounter_endingIn (f : TickCounter → TickCounter) (x : Slot) (z : Fin 16) :
    (x.eachCounter f).endingIn z = x.endingIn z := by cases x <;> rfl

theorem calm_issueTick (s : State) : Calm s (issueTick s) := by
  have slots : ∀ i, (issueTick s).slots.read i = (s.slots.read i).eachCounter TickCounter.owe := fun i =>
    Table.read_each _ _ _
  exact
    { slots := fun i => slots i ▸ eachCounter_mild _ _ _
      ending := fun i z => by rw [slots, eachCounter_endingIn]
      clearing := fun z => by simp [issueTick]
      leases := fun r => by
        rw [show (issueTick s).stations = s.stations.each (Option.map fun st =>
          if leaseReached s.branches st then { st with lease := st.lease.owe } else st) from rfl, Table.read_each]
        refine optionRel_map (fun st => ?_) _
        split
        · exact {}
        · exact .refl st }

theorem calm_stopTick (s : State) : Calm s (stopTick s) := by
  have slots : ∀ i, (stopTick s).slots.read i = (s.slots.read i).eachCounter TickCounter.settle := fun i =>
    Table.read_each _ _ _
  exact
    { slots := fun i => slots i ▸ eachCounter_mild _ _ _
      ending := fun i z => by rw [slots, eachCounter_endingIn]
      clearing := fun z => by simp [stopTick]
      leases := fun r => by
        rw [show (stopTick s).stations = s.stations.each (Option.map fun st => { st with lease := st.lease.settle }) from rfl,
          Table.read_each]
        exact optionRel_map (fun st => {}) _ }

/-- What keeps the records, the suspect fields and the phases of the slots, whatever it does to lease states (R101, R102). -/
theorem keeps_leaseChange {f : Slot → Slot} (slots : t.slots = s.slots.each f) (kept : ∀ x : Slot, x.Kept (f x))
    (suspect : ∀ x : Slot, (f x).suspect? = x.suspect?) (ending : ∀ (x : Slot) z, (f x).endingIn z = x.endingIn z)
    (leases : LeaseAgrees s → LeaseAgrees t) (zones : t.zones = s.zones := by simp)
    (engine : t.engine = s.engine := by simp) (sweep : t.sweep = s.sweep := by simp) : Keeps s t where
  records i := by rw [slots, Table.read_each]; exact kept _
  suspects h :=
    { order := sweep ▸ h.order
      sources := fun i x hx => by
        rw [slots, Table.read_each, suspect] at hx
        exact sweep ▸ h.sources i x hx }
  leases := leases
  clearing := PhasesKept.sound
    { clearing := fun z => by rw [zones]
      ending := fun i z => by rw [slots, Table.read_each, ending]
      work := .of_eq (by rw [engine]) (by rw [engine]) }

/-- A slot after a lapse keeps its record, its suspect field and its phase (R101). -/
theorem slotLapse_keeps (r : Fin 48) (hold : Option TickCounter) (x : Slot) :
    x.Kept (x.lapse r hold) ∧ (x.lapse r hold).suspect? = x.suspect? ∧
      ∀ z, (x.lapse r hold).endingIn z = x.endingIn z := by
  cases x with
  | owned o =>
    unfold Slot.lapse
    dsimp only
    split
    · exact ⟨.owned, rfl, fun _ => rfl⟩
    · exact ⟨.refl _, rfl, fun _ => rfl⟩
  | free | pinned | spare => exact ⟨.refl _, rfl, fun _ => rfl⟩

/-- A slot after a return keeps its record, its suspect field and its phase (R102). -/
theorem comeBack_keeps (r : Fin 48) (x : Slot) :
    x.Kept (x.comeBack r) ∧ (x.comeBack r).suspect? = x.suspect? ∧ ∀ z, (x.comeBack r).endingIn z = x.endingIn z := by
  cases x with
  | owned o =>
    unfold Slot.comeBack
    dsimp only
    split
    · exact ⟨.owned, rfl, fun _ => rfl⟩
    · exact ⟨.refl _, rfl, fun _ => rfl⟩
  | free | pinned | spare => exact ⟨.refl _, rfl, fun _ => rfl⟩

/-- A slot owned after a lapse was owned before it: STALE after it if its station's, and otherwise as it was (R101). -/
theorem slotLapse_eq_owned {r : Fin 48} {hold : Option TickCounter} {x : Slot} {o : Owned}
    (h : x.lapse r hold = .owned o) :
    if o.station = r then o.state ≠ .active else x = .owned o := by
  cases x with
  | owned p =>
    unfold Slot.lapse at h
    dsimp only at h
    split_ifs at h with lapsed
    · cases h
      rw [if_pos lapsed.1]
      nofun
    · cases h
      split
      · exact fun active => lapsed ⟨‹_›, active⟩
      · rfl
  | free | pinned | spare => cases h

/-- A slot owned after a return was owned before it: ACTIVE after it if its station's, and otherwise as it was (R102). -/
theorem comeBack_eq_owned {r : Fin 48} {x : Slot} {o : Owned} (h : x.comeBack r = .owned o) :
    if o.station = r then o.state = .active else x = .owned o := by
  cases x with
  | owned p =>
    unfold Slot.comeBack at h
    dsimp only at h
    split_ifs at h with mine
    · cases h
      rw [if_pos mine]
    · cases h
      rw [if_neg mine]
  | free | pinned | spare => cases h

theorem leaseAgrees_lapseStation (r : Fin 48) (h : LeaseAgrees s) : LeaseAgrees (lapseStation r s) := by
  have stations : ∀ q, (lapseStation r s).stations.read q =
      if r = q then (s.stations.read q).map Station.lapse else s.stations.read q := fun q => Table.read_change _ _ _ _
  have slots : ∀ i, (lapseStation r s).slots.read i = (s.slots.read i).lapse r (staleHold s) := fun i =>
    Table.read_each _ _ _
  constructor
  · intro i o st ho hst
    rw [slots] at ho
    rw [stations] at hst
    have owned := slotLapse_eq_owned ho
    by_cases mine : o.station = r
    · rw [if_pos mine.symm, Option.map_eq_some_iff] at hst
      obtain ⟨su, -, rfl⟩ := hst
      rw [if_pos mine] at owned
      exact ⟨fun active => absurd active owned, nofun⟩
    · rw [if_neg (Ne.symm mine)] at hst
      rw [if_neg mine] at owned
      exact h.states i o st owned hst
  · intro q st hst lapsed
    rw [stations] at hst
    split_ifs at hst
    · obtain ⟨su, -, rfl⟩ := Option.map_eq_some_iff.1 hst
      rfl
    · exact h.counters q st hst lapsed

theorem keeps_lapseStation (r : Fin 48) (s : State) : Keeps s (lapseStation r s) :=
  keeps_leaseChange rfl (fun x => (slotLapse_keeps r _ x).1) (fun x => (slotLapse_keeps r _ x).2.1)
    (fun x => (slotLapse_keeps r _ x).2.2) (leaseAgrees_lapseStation r)

theorem keeps_tickLease (r : Fin 48) (s : State) : Keeps s (tickLease r s) := by
  unfold tickLease
  split
  · exact .refl s
  · split_ifs
    · exact .refl s
    · exact keeps_lapseStation r s
    · exact (calm_changeStation fun st => { count := Nat.sub_le _ _ }).keeps
    · exact (calm_changeStation fun _ => {}).keeps

/-- A station's lease turns CURRENT and its slots are ACTIVE, every other slot and station as before (R102). -/
theorem LeaseAgrees.current {r : Fin 48} {f : Station → Station} (h : LeaseAgrees s)
    (stations : t.stations = s.stations.change r (Option.map f)) (current : ∀ st, (f st).leaseState = .current)
    (slots : ∀ i o, t.slots.read i = .owned o → if o.station = r then o.state = .active else s.slots.read i = .owned o) :
    LeaseAgrees t := by
  have station : ∀ q st, t.stations.read q = some st →
      (q = r ∧ st.leaseState = .current) ∨ (q ≠ r ∧ s.stations.read q = some st) := by
    intro q st hst
    rw [stations, Table.read_change] at hst
    split_ifs at hst with hq
    · obtain ⟨su, -, rfl⟩ := Option.map_eq_some_iff.1 hst
      exact .inl ⟨hq.symm, current su⟩
    · exact .inr ⟨Ne.symm hq, hst⟩
  constructor
  · intro i o st ho hst
    have slot := slots i o ho
    rcases station _ _ hst with ⟨mine, now⟩ | ⟨other, before⟩
    · rw [if_pos mine] at slot
      exact ⟨fun _ => now, fun _ => slot⟩
    · rw [if_neg other] at slot
      exact h.states i o st slot before
  · intro q st hst lapsed
    rcases station q st hst with ⟨-, now⟩ | ⟨-, before⟩
    · rw [now] at lapsed
      cases lapsed
    · exact h.counters q st before lapsed

theorem keeps_takeReplyNotice (r : Fin 48) (s : State) : Keeps s (takeReplyNotice r s) := by
  unfold takeReplyNotice
  split
  · exact .refl s
  · rename_i st present
    split
    · exact .refl s
    · dsimp only
      have each : s.slots = s.slots.each id := by simp [Table.each]
      split
      · exact keeps_leaseChange rfl (fun x => (comeBack_keeps r x).1) (fun x => (comeBack_keeps r x).2.1)
          (fun x => (comeBack_keeps r x).2.2) fun h => h.current rfl (fun _ => rfl) fun i o ho =>
            comeBack_eq_owned ((Table.read_each _ _ _).symm.trans ho)
      · rename_i current
        have current : st.leaseState = .current := by
          cases hl : st.leaseState with
          | current => rfl
          | lapsed => exact absurd hl current
        refine keeps_leaseChange each .refl (fun _ => rfl) (fun _ _ => rfl) fun h =>
          h.current rfl (fun _ => rfl) fun i o ho => ?_
        have ho : s.slots.read i = .owned o := ho
        split
        · rename_i mine
          exact (h.states i o st ho (mine ▸ present)).2 current
        · exact ho

theorem calm_dropPending (i : Fin 384) (s : State) : Calm s (dropPending i s) := by
  have dropped : Calm s (setSlot i (s.slots.read i).dropMove s) := by
    cases h : s.slots.read i with
    | owned o => exact calm_setOwned h .owned rfl
    | free | pinned | spare => exact calm_setSlot (by rw [h]; exact .refl _ _) fun z => by rw [h]; rfl
  exact dropped.trans (calm_emptyBarred _)

theorem calm_lapseMove (i : Fin 384) (s : State) : Calm s (lapseMove i s) := by
  unfold lapseMove
  split
  · exact (calm_dropPending i s).trans (calm_giveNotice _ _ _)
  · exact .refl s

theorem keeps_tickHold (i : Fin 384) (s : State) : Keeps s (tickHold i s) := by
  unfold tickHold
  split
  · exact .refl s
  · rename_i hold running
    split_ifs
    · exact .refl s
    · exact (keeps_retireSlot _ i s).trans (calm_startRefill _).keeps
    · refine Calm.keeps ?_
      cases h : s.slots.read i with
      | owned o =>
        cases hs : o.state with
        | active => simp [h, Slot.hold?, hs] at running
        | stale k =>
          simp only [Slot.holdDown, hs]
          exact calm_setOwned h .owned rfl (by simp [hs])
      | free | pinned | spare => simp [h, Slot.hold?] at running

theorem keeps_tickMove (i : Fin 384) (s : State) : Keeps s (tickMove i s) := by
  unfold tickMove
  split
  · exact .refl s
  · split_ifs
    · exact .refl s
    · exact ((calm_lapseMove i s).trans (calm_startRefill _)).keeps
    · refine Calm.keeps ?_
      cases h : s.slots.read i with
      | owned o => exact calm_setOwned h .owned rfl
      | free | pinned | spare => exact calm_setSlot (by rw [h]; exact .refl _ _) fun z => by rw [h]; rfl

/-! ### The station frames (R105 to R111) -/

theorem keeps_handleRelease (r : Fin 48) (ch : Fin 64) (s : State) : Keeps s (handleRelease r ch s) := by
  unfold handleRelease
  split
  · exact (calm_refuse _ _ _ s).keeps
  · exact (keeps_retireSlot _ _ s).trans (calm_giveAnswer _ _ _).keeps

theorem keeps_moveOnward (r : Fin 48) (ch : Fin 64) (i : Fin 384) (o : Owned) (s : State) :
    Keeps s (moveOnward r ch i o s) := by
  unfold moveOnward
  split
  · exact (keeps_retireSlot _ _ s).trans ((calm_openMove _ _ _).trans (calm_giveAnswer _ _ _)).keeps
  · split
    · exact (calm_openStationWork r (w := .move _) trivial s).keeps
    · exact (calm_refuse _ _ _ s).keeps

theorem keeps_handleMove (r : Fin 48) (ch : Fin 64) (s : State) : Keeps s (handleMove r ch s) := by
  unfold handleMove
  split
  · exact (calm_refuse _ _ _ s).keeps
  · split
    · exact (calm_refuse _ _ _ s).keeps
    · split
      · exact keeps_moveOnward _ _ _ _ s
      · split
        · exact (calm_dropPending _ s).keeps.trans (keeps_moveOnward _ _ _ _ _)
        · exact (calm_giveAnswer _ _ s).keeps

theorem calm_handleConfirm (r : Fin 48) (ch : Fin 64) (s : State) : Calm s (handleConfirm r ch s) := by
  unfold handleConfirm
  split
  · exact calm_refuse _ _ _ s
  · rename_i i o h
    obtain ⟨slot, -, -⟩ := ownedSlot_eq_some h
    split
    · exact calm_refuse _ _ _ s
    · rename_i w _
      have confirmed : Calm s (setSlot i (confirmSlot s o w.pending) s) :=
        calm_setOwned slot .owned rfl (suspect := fun k hk => .inr (nearestForeign_confirmed hk))
      have moved := (confirmed.trans (calm_emptyBarred _)).trans (calm_withdrawAdvice r ch _)
      dsimp only
      split
      · exact moved.trans (calm_giveAnswer _ _ _)
      · exact moved.trans ((calm_giveNotice _ _ _).trans (calm_giveAnswer _ _ _))

theorem calm_handleQuery (r : Fin 48) (ch : Fin 64) (s : State) : Calm s (handleQuery r ch s) := by
  unfold handleQuery
  split
  · exact calm_refuse _ _ _ s
  · exact calm_giveAnswer _ _ s

theorem calm_intakeQueue (r : Fin 48) (st : Station) (ch : Fin 64) (p : Fin 16) (phase : Option Phase)
    (hint : Option Nat) (label : List Byte) (s : State) : Calm s (intakeQueue r st ch p phase hint label s) := by
  unfold intakeQueue
  split
  · split_ifs with ending
    · exact calm_refuse _ _ _ s
    · exact calm_refuse _ _ _ s
    · exact calm_refuse _ _ _ s
    · exact calm_refuse _ _ _ s
    · exact calm_refuse _ _ _ s
    · exact calm_openStationWork r
        (w := .request { station := r, channel := ch, profile := p, phase := _, hint := hint, label := label }) ending s
  · exact calm_refuse _ _ _ s

theorem calm_handleRequest (r : Fin 48) (profile phase : Byte) (hint : Option Nat) (label : List Byte) (ch : Fin 64)
    (s : State) : Calm s (handleRequest r profile phase hint label ch s) := by
  unfold handleRequest
  split
  · exact .refl s
  · split
    · exact calm_refuse _ _ _ s
    · split_ifs
      · exact calm_refuse _ _ _ s
      · exact calm_refuse _ _ _ s
      · split
        · split
          · exact calm_giveAnswer _ _ s
          · exact calm_refuse _ _ _ s
        · exact calm_intakeQueue _ _ _ _ _ _ _ s

end

end Sys2Proof.Machine
end

section
namespace Sys2Proof.Machine

-- One elaboration thread: the check's memory limit counts the stack of each.
set_option Elab.async false

/-! ### Changeovers (chapter 6) -/

section
variable {s t : State}

/-- A turned slot keeps its record, its lease state and its suspect field (R118). -/
theorem turn_mild (sources : Nat → Prop) (z : Fin 16) (x : Slot) : x.Mild sources (x.turn z) := by
  cases x with
  | owned o =>
    unfold Slot.turn
    dsimp only
    split
    · exact .owned .owned
    · exact .refl _ _
  | free | pinned | spare => exact .refl _ _

/-- A changeover of a zone leaves the phases of the others. -/
theorem turn_endingIn_of_ne {y z : Fin 16} (h : z ≠ y) (x : Slot) : (x.turn z).endingIn y = x.endingIn y := by
  cases x with
  | owned o =>
    unfold Slot.turn
    dsimp only
    split
    · rename_i hz
      have other : (z == y) = false := beq_eq_false_iff_ne.2 h
      simp [Slot.endingIn, hz, other]
    · rfl
  | free | pinned | spare => rfl

theorem calm_announcePhases (z : Fin 16) (s : State) : Calm s (announcePhases z s) :=
  calm_foldl (fun _ _ => calm_giveNotice _ _ _) _ s

/-- A clear timer set or removed leaves the records, the suspect fields and the leases. -/
theorem steady_setClearing (z : Fin 16) (c : Option TickCounter) (s : State) :
    Steady s (changeZone z (fun zs => { zs with clearing := c }) s) := {}

/-- The clear timer of a zone set or removed. -/
theorem setClearing_read (y z : Fin 16) (c : Option TickCounter) (s : State) :
    (((changeZone z (fun zs => { zs with clearing := c }) s).zones).read y).clearing =
      if z = y then c else (s.zones.read y).clearing := by
  rw [changeZone_zones, Table.read_change]
  split <;> rfl

/-- The clear timer of a zone removed when no slot of it is ENDING. -/
theorem ClearingAt.removeTimer {y z : Fin 16} (h : ClearingAt s y) (none : ¬ hasEnding s z) :
    ClearingAt (changeZone z (fun zs => { zs with clearing := Option.none }) s) y := by
  unfold ClearingAt at h ⊢
  rw [setClearing_read]
  split
  · rename_i hz
    subst hz
    exact ⟨fun h => (Bool.false_ne_true h).elim, fun h => absurd h none⟩
  · exact h

/-- A zone's ENDING slots retired and its clear timer removed (R120, R123). -/
theorem keeps_retireEnding (cause : Option RetireCause) (z : Fin 16) (s : State) :
    Keeps s (changeZone z (fun zs => { zs with clearing := none }) (retireSlots cause (endingSlots z s) s)) where
  toHeld := (keeps_retireSlots cause _ s).toHeld.trans (steady_setClearing z none _).held
  clearing h := by
    obtain ⟨zones, phases⟩ := clearingSound_iff.1 h
    refine clearingSound_iff.2 ⟨fun y => ?_, phases.of_eq (by simp) (by simp)⟩
    exact ((zones y).retireSlots cause _).removeTimer (retireSlots_ending cause z s)

/-- A changeover of a STEADY zone leaves it CLEARING exactly while it has an ENDING slot (R116, R118). -/
theorem ClearingAt.changeoverSteady {y z : Fin 16} (h : ClearingAt s y) (forced : Nat)
    (steady : (s.zones.read z).clearing = none) : ClearingAt (changeoverSteady z forced s).1 y := by
  have turned : ∀ i, ((announcePhases z { s with slots := s.slots.each (Slot.turn z) }).slots.read i) =
      (s.slots.read i).turn z := fun i => by simp
  have zones : (announcePhases z { s with slots := s.slots.each (Slot.turn z) }).zones = s.zones := by simp
  have other : z ≠ y → ClearingAt (announcePhases z { s with slots := s.slots.each (Slot.turn z) }) y := fun hz =>
    h.congr (by rw [zones]) fun i => by rw [turned, turn_endingIn_of_ne hz]
  unfold Machine.changeoverSteady
  dsimp only
  generalize announcePhases z { s with slots := s.slots.each (Slot.turn z) } = u at zones other
  have ending := endingSlots_isEmpty z u
  by_cases hz : z = y
  · subst hz
    rw [← zones] at steady
    have steady_of : ∀ {v : State}, (v.zones.read z).clearing = none → ¬ hasEnding v z → ClearingAt v z :=
      fun clearing none => by
        unfold ClearingAt
        simp [clearing, none]
    split_ifs with done timed
    · exact steady_of steady (ending.1 done)
    · refine ⟨fun _ => not_not.1 (mt ending.2 done), fun _ => ?_⟩
      rw [setClearing_read, if_pos rfl]
      rfl
    · exact steady_of (retireSlots_steady steady _ _) (retireSlots_ending _ z u)
  · split_ifs
    · exact other hz
    · exact (other hz).congr (by rw [setClearing_read, if_neg hz]) fun _ => rfl
    · exact (other hz).retireSlots _ _

theorem keeps_changeoverSteady {z : Fin 16} (steady : (s.zones.read z).clearing = none) (forced : Nat) :
    Keeps s (changeoverSteady z forced s).1 where
  toHeld := by
    have turned : Steady s { s with slots := s.slots.each (Slot.turn z) } :=
      { slots := fun i => by rw [Table.read_each]; exact turn_mild _ z _ }
    have announced := (turned.trans (calm_announcePhases z _).toSteady).held
    unfold changeoverSteady
    dsimp only
    split_ifs
    · exact announced
    · exact announced.trans (steady_setClearing z _ _).held
    · exact announced.trans (keeps_retireSlots _ _ _).toHeld
  clearing h := by
    obtain ⟨zones, phases⟩ := clearingSound_iff.1 h
    exact clearingSound_iff.2 ⟨fun y => (zones y).changeoverSteady forced steady, phases.of_eq (by simp) (by simp)⟩

theorem keeps_changeoverZone {z : Fin 16} {force : Bool} {c : ChangeoverCounts}
    (h : changeoverZone z force s = some (t, c)) : Keeps s t := by
  unfold changeoverZone at h
  split_ifs at h with clearing
  · have e : t = (changeoverSteady z (endingSlots z s).length (retireForced z s)).1 := by rw [Option.some.inj h]
    have steady : ((retireForced z s).zones.read z).clearing = none := by
      unfold retireForced
      rw [setClearing_read, if_pos rfl]
    rw [e]
    exact (keeps_retireEnding _ z s).trans (keeps_changeoverSteady steady _)
  · have e : t = (changeoverSteady z 0 s).1 := by rw [Option.some.inj h]
    rw [e]
    exact keeps_changeoverSteady (by simpa using clearing) _

theorem keeps_handleChangeover (r : Fin 48) (force : Bool) (s : State) : Keeps s (handleChangeover r force s) := by
  unfold handleChangeover
  split
  · exact .refl s
  · split
    · split
      · exact (calm_giveAnswer _ _ s).keeps
      · rename_i h
        exact (keeps_changeoverZone h).trans (calm_giveAnswer _ _ _).keeps
    · exact (calm_giveAnswer _ _ s).keeps

theorem keeps_tickClear (z : Fin 16) (s : State) : Keeps s (tickClear z s) := by
  unfold tickClear
  split
  · exact .refl s
  · rename_i c timer
    split_ifs
    · exact .refl s
    · exact (keeps_retireEnding _ z s).trans (calm_startRefill _).keeps
    · have timed : Calm s (changeZone z (fun zs => { zs with clearing := some c.down }) s) :=
        { clearing := fun y => by
            rw [setClearing_read]
            split
            · rename_i hz
              rw [← hz, timer]
              rfl
            · rfl }
      exact timed.keeps

/-! ### Branches (chapter 8) -/

theorem calm_changeBranch (b : Fin 4) (f : Branch → Branch) (s : State) : Calm s (changeBranch b f s) := {}

theorem calm_continueRound (b : Fin 4) (last : Nat) (s : State) : Calm s (continueRound b last s) := {}

theorem calm_failPoll (b : Fin 4) (p : Poll) (s : State) : Calm s (failPoll b p s) :=
  (calm_countFailure p s).trans (calm_changeBranch b _ _)

theorem calm_faultBranch (b : Fin 4) (s : State) : Calm s (faultBranch b s) := by
  have failed : Calm s (failOpenPoll b s) := by
    unfold failOpenPoll
    split
    · exact calm_countFailure _ s
    · exact calm_countFailure _ s
    all_goals exact .refl s
  exact (failed.trans (calm_changeBranch b _ _)).trans (calm_raise _ _)

theorem calm_disableBranch (b : Fin 4) (s : State) : Calm s (disableBranch b s) := by
  refine (calm_changeBranch b _ s).trans (calm_eachStation fun st => ?_)
  split
  · exact {}
  · exact .refl st

theorem calm_formPoll (b : Fin 4) (r : Fin 48) (st : Station) (s : State) : Calm s (formPoll b r st s) :=
  (calm_changeBranch b _ s).trans (calm_changeStation fun _ => {})

theorem keeps_withChannel {handle : Fin 64 → State → State} (h : ∀ c s, Keeps s (handle c s)) (r : Fin 48)
    (ch : Byte) (s : State) : Keeps s (withChannel r ch handle s) := by
  unfold withChannel
  split
  · exact h _ s
  · exact (calm_giveAnswer _ _ s).keeps

theorem keeps_routeFrame (r : Fin 48) (f : Frame) (s : State) : Keeps s (routeFrame r f s) := by
  cases f with
  | idle => exact .refl s
  | request ch pr ph hint label =>
    exact keeps_withChannel (fun c t => (calm_handleRequest r pr ph hint label c t).keeps) r ch s
  | release ch => exact keeps_withChannel (keeps_handleRelease r) r ch s
  | move ch => exact keeps_withChannel (keeps_handleMove r) r ch s
  | confirm ch => exact keeps_withChannel (fun c t => (calm_handleConfirm r c t).keeps) r ch s
  | query ch => exact keeps_withChannel (fun c t => (calm_handleQuery r c t).keeps) r ch s
  | changeover force => exact keeps_handleChangeover r force s

theorem keeps_acceptPoll (b : Fin 4) (p : Poll) (f : Frame) (s : State) : Keeps s (acceptPoll b p f s) := by
  unfold acceptPoll
  split
  · exact (calm_changeBranch b _ s).keeps
  · have accepted := calm_changeStation (s := s) (r := p.station) (acceptReply_leaseKept p.item)
    have owed := fun v => calm_changeStation (s := v) (r := p.station) (f := Station.owedNotice) fun _ => {}
    exact (accepted.keeps.trans (keeps_routeFrame _ f _)).trans
      (((owed _).trans (calm_continueRound b _ _)).trans (calm_startRefill _)).keeps

theorem keeps_receiveChar (b : Fin 4) (c : RxChar) (s : State) : Keeps s (receiveChar b c s) := by
  unfold receiveChar
  split
  · split
    · exact (calm_changeBranch b _ s).keeps
    · exact (calm_failPoll b _ s).keeps
    · exact keeps_acceptPoll b _ _ s
  · exact .refl s

end

end Sys2Proof.Machine
end

section
namespace Sys2Proof.Machine

-- One elaboration thread: the check's memory limit counts the stack of each.
set_option Elab.async false

/-! ### The foreign list (chapter 7) -/

section
variable {s t : State}

/-- A suspect field set or cleared (R147, R149). -/
theorem withSuspect_mild {sources : Nat → Prop} {source : Option Nat} (known : ∀ k, source = some k → sources k)
    (x : Slot) : x.Mild sources (x.withSuspect source) := by
  cases x with
  | owned o => exact .owned .owned (suspect := fun k h => .inr (known k h))
  | pinned p => exact .pinned .pinned (suspect := fun k h => .inr (known k h))
  | free | spare => exact .refl _ _

theorem withSuspect_suspect {source : Option Nat} {x : Slot} {k : Nat} (h : (x.withSuspect source).suspect? = some k) :
    source = some k := by
  cases x with
  | owned o => exact h
  | pinned p => exact h
  | free | spare => cases h

theorem withSuspect_endingIn (source : Option Nat) (x : Slot) (z : Fin 16) :
    (x.withSuspect source).endingIn z = x.endingIn z := by cases x <;> rfl

theorem keeps_reachSlot {index : Nat} (source : confirmedAt s index) (i : Fin 384) : Keeps s (reachSlot index i s) := by
  have marked : Calm s (setSlot i ((s.slots.read i).withSuspect (some index)) s) :=
    calm_setSlot (withSuspect_mild (fun k h => by cases h; exact source) _) fun z => withSuspect_endingIn _ _ z
  unfold reachSlot
  split
  · exact .refl s
  · exact (marked.trans (calm_giveNotice _ _ _)).keeps
  · exact marked.keeps
  · exact keeps_retireSlot _ i s

theorem keeps_confirmForeign {index : Nat} (source : confirmedAt s index) : Keeps s (confirmForeign index s) := by
  have advanced : Calm s (raise .foreignNew (advanceEpoch s)) := (calm_advanceEpoch s).trans (calm_raise _ _)
  have reached : ∀ is : List (Fin 384),
      Keeps s (is.foldl (fun t i => reachSlot index i t) (raise .foreignNew (advanceEpoch s))) := fun is =>
    (foldl_ind (fun t => Keeps s t ∧ t.sweep = s.sweep) (fun t i => reachSlot index i t)
      (fun t i ⟨kept, sweep⟩ => ⟨kept.trans (keeps_reachSlot (by unfold confirmedAt; rw [sweep]; exact source) i),
        by simpa using sweep⟩) is _ ⟨advanced.keeps, by simp⟩).1
  unfold confirmForeign
  dsimp only
  split
  · exact (reached _).trans (calm_raise _ _).keeps
  · exact reached _

/-- A foreign list that stays in order and keeps the CONFIRMED indices. -/
theorem keeps_setForeign {l : List ForeignEntry}
    (order : s.sweep.foreign.Pairwise (fun x y => x.index < y.index) → l.Pairwise fun x y => x.index < y.index)
    (confirmed : s.sweep.foreign.Pairwise (fun x y => x.index < y.index) →
      ∀ e ∈ s.sweep.foreign, e.confirmed = true → ∃ e' ∈ l, e'.index = e.index ∧ e'.confirmed = true) :
    Keeps s (setForeign l s) where
  records _ := .refl _
  suspects h :=
    { order := order h.order
      sources := fun i x hx => by
        obtain ⟨e, he, rfl, hc⟩ := h.sources i x hx
        exact confirmed h.order e he hc }
  leases h := ⟨h.states, h.counters⟩
  clearing := PhasesKept.sound {}

/-- Entries changed at one index keep the order of the list. -/
theorem changeEntry_order {index : Nat} {f : ForeignEntry → ForeignEntry} {l : List ForeignEntry}
    (same : ∀ e, e.index = index → (f e).index = index) (h : l.Pairwise fun x y => x.index < y.index) :
    (changeEntry index f l).Pairwise fun x y => x.index < y.index := by
  have place : ∀ e : ForeignEntry, (if e.index = index then f e else e).index = e.index := fun e => by
    split
    · rename_i he
      rw [same e he, he]
    · rfl
  unfold changeEntry
  rw [List.pairwise_map]
  exact h.imp fun {a b} hab => by rw [place, place]; exact hab

/-- Entries changed at one index, none there losing its confirmation. -/
theorem keeps_changeEntry {index : Nat} {f : ForeignEntry → ForeignEntry} (s : State)
    (same : ∀ e, e.index = index → (f e).index = index)
    (confirmed : s.sweep.foreign.Pairwise (fun x y => x.index < y.index) →
      ∀ e ∈ s.sweep.foreign, e.index = index → e.confirmed = true → (f e).confirmed = true) :
    Keeps s (setForeign (changeEntry index f s.sweep.foreign) s) := by
  refine keeps_setForeign (changeEntry_order same) fun order e he hc => ?_
  by_cases hi : e.index = index
  · exact ⟨f e, List.mem_map.2 ⟨e, he, if_pos hi⟩, (same e hi).trans hi.symm, confirmed order e he hi hc⟩
  · exact ⟨e, List.mem_map.2 ⟨e, he, if_neg hi⟩, rfl, hc⟩

/-- Two entries of an ordered list at one index are one. -/
theorem entry_unique {l : List ForeignEntry} (order : l.Pairwise fun x y => x.index < y.index) {e d : ForeignEntry}
    (he : e ∈ l) (hd : d ∈ l) (index : e.index = d.index) : e = d :=
  List.inj_on_of_nodup_map (List.pairwise_map.2 (order.imp Nat.ne_of_lt)) he hd index

/-! ### Removal, and the decision of a point (R139, R142 to R144, R149) -/

theorem mem_removeEntry {index : Nat} {l : List ForeignEntry} {e : ForeignEntry} :
    e ∈ removeEntry index l ↔ e ∈ l ∧ e.index ≠ index := by simp [removeEntry]

/-- A source other than the removed index stays in the list. -/
theorem confirmedAt_removeEntry {index k : Nat} (source : confirmedAt s k) (other : k ≠ index) :
    confirmedAt (setForeign (removeEntry index s.sweep.foreign) s) k := by
  obtain ⟨e, he, rfl, hc⟩ := source
  exact ⟨e, mem_removeEntry.2 ⟨he, other⟩, rfl, hc⟩

theorem resourced_confirmed {x : Slot} {k : Nat} (h : resourced s x = some k) : confirmedAt s k := by
  unfold resourced at h
  split at h
  · cases h
  · exact nearestForeign_confirmed h

/-- The slots sourced from an index take a source that is a CONFIRMED carrier, or none. -/
theorem calm_reevaluate (index : Nat) (s : State) : Calm s (reevaluate index s) := by
  refine calm_eachSlot (fun x => ?_) fun x z => ?_
  · split
    · exact withSuspect_mild (fun k hk => resourced_confirmed hk) x
    · exact .refl _ x
  · split
    · exact withSuspect_endingIn _ x z
    · rfl

/-- After the removal of a CONFIRMED entry and the re-evaluation no slot has a source that left. -/
theorem suspectSound_reevaluate (index : Nat) (h : SuspectSound s) :
    SuspectSound (reevaluate index (setForeign (removeEntry index s.sweep.foreign) s)) where
  order := h.order.filter _
  sources i k hk := by
    rw [show (reevaluate index (setForeign (removeEntry index s.sweep.foreign) s)).slots.read i = _ from
      Table.read_each _ _ _] at hk
    split at hk
    · exact resourced_confirmed (withSuspect_suspect hk)
    · rename_i other
      refine confirmedAt_removeEntry (h.sources i k hk) fun sourced => other ?_
      subst sourced
      exact beq_iff_eq.2 hk

/-- A foreign list replaced leaves the records, the leases and the phases. -/
theorem setForeign_leaves (l : List ForeignEntry) (s : State) :
    (∀ i, (s.slots.read i).Kept ((setForeign l s).slots.read i)) ∧ (LeaseAgrees s → LeaseAgrees (setForeign l s)) ∧
      PhasesKept s (setForeign l s) :=
  ⟨fun _ => .refl _, fun h => ⟨h.states, h.counters⟩, {}⟩

theorem keeps_dropEntry {e : ForeignEntry} (he : e ∈ s.sweep.foreign) : Keeps s (dropEntry e s) := by
  unfold dropEntry
  dsimp only
  split
  · refine Keeps.trans ?_ (calm_emptyBarred _).keeps
    obtain ⟨records, leases, phases⟩ := setForeign_leaves (removeEntry e.index s.sweep.foreign) s
    have kept := (calm_reevaluate e.index (setForeign (removeEntry e.index s.sweep.foreign) s)).keeps
    exact
      { records := fun i => (records i).trans (kept.records i)
        suspects := suspectSound_reevaluate e.index
        leases := kept.leases ∘ leases
        clearing := kept.clearing ∘ phases.sound }
  · rename_i unconfirmed
    obtain ⟨records, leases, phases⟩ := setForeign_leaves (removeEntry e.index s.sweep.foreign) s
    exact
      { records := records
        suspects := fun h =>
          { order := h.order.filter _
            sources := fun i k hk => by
              obtain ⟨d, hd, rfl, hc⟩ := h.sources i k hk
              refine ⟨d, mem_removeEntry.2 ⟨hd, fun index => unconfirmed ?_⟩, rfl, hc⟩
              rw [← entry_unique h.order hd he index]
              exact hc }
        leases := leases
        clearing := phases.sound }

theorem keeps_missEntry {e : ForeignEntry} (he : e ∈ s.sweep.foreign) : Keeps s (missEntry e s) := by
  unfold missEntry
  split
  · exact keeps_dropEntry he
  · exact keeps_changeEntry s (fun _ h => h) fun _ _ _ _ h => h

/-- A hit takes no confirmation away; an entry that it confirms is a CONFIRMED carrier of the list (R142). -/
theorem keeps_hitEntry {e : ForeignEntry} (he : e ∈ s.sweep.foreign) (level : Nat) : Keeps s (hitEntry e level s) := by
  have changed : Keeps s (setForeign (changeEntry e.index (fun _ => e.hit s.sweep.config.k level) s.sweep.foreign) s) := by
    refine keeps_changeEntry s (fun _ _ => rfl) fun order d hd index hc => ?_
    rw [entry_unique order hd he index] at hc
    simp [ForeignEntry.hit, hc]
  unfold hitEntry
  dsimp only
  split
  · rename_i turns
    exact changed.trans (keeps_confirmForeign
      ⟨_, List.mem_map.2 ⟨e, he, if_pos rfl⟩, rfl, (Bool.and_eq_true_iff.1 turns).1⟩)
  · exact changed

/-- An entry inserted at its place, where there is none, keeps the order (R145). -/
theorem insertEntry_order {e : ForeignEntry} {l : List ForeignEntry} (h : l.Pairwise fun x y => x.index < y.index)
    (new : ∀ x ∈ l, x.index ≠ e.index) : (insertEntry e l).Pairwise fun x y => x.index < y.index := by
  induction l with
  | nil => exact List.pairwise_singleton _ _
  | cons a l ih =>
    have head : insertEntry e (a :: l) = if a.index < e.index then a :: insertEntry e l else e :: a :: l := by
      by_cases below : a.index < e.index <;> simp [insertEntry, below]
    obtain ⟨above, rest⟩ := List.pairwise_cons.1 h
    rw [head]
    split
    · rename_i below
      refine List.pairwise_cons.2 ⟨fun x hx => ?_, ih rest fun x hx => new x (.tail a hx)⟩
      rcases mem_insertEntry.1 hx with rfl | hx
      · exact below
      · exact above x hx
    · rename_i notBelow
      have place := new a (.head l)
      refine List.pairwise_cons.2 ⟨fun x hx => ?_, h⟩
      rcases List.mem_cons.1 hx with rfl | hx
      · omega
      · have := above x hx
        omega

theorem keeps_hitNew {index : Nat} (new : entryAt index s.sweep.foreign = none) (level : Nat) :
    Keeps s (hitNew index level s) := by
  unfold hitNew
  dsimp only
  split
  · exact (calm_raise _ s).keeps
  · have absent : ∀ x ∈ s.sweep.foreign, x.index ≠ index := by simpa [entryAt] using new
    have inserted : ∀ e : ForeignEntry, e.index = index → Keeps s (setForeign (insertEntry e s.sweep.foreign) s) :=
      fun e he => keeps_setForeign (insertEntry_order · (he ▸ absent)) fun _ d hd hc =>
        ⟨d, mem_insertEntry.2 (.inr hd), rfl, hc⟩
    split
    · rename_i confirmed
      exact (inserted _ rfl).trans (keeps_confirmForeign ⟨_, mem_insertEntry.2 (.inl rfl), rfl, confirmed⟩)
    · exact inserted _ rfl

theorem keeps_decidePoint (index level : Nat) (s : State) : Keeps s (decidePoint index level s) := by
  unfold decidePoint
  split
  · exact .refl s
  · split
    · rename_i found
      have mem := (entryAt_eq_some found).1
      split
      · exact keeps_hitEntry mem level
      · exact keeps_missEntry mem
    · rename_i new
      split
      · exact keeps_hitNew new level
      · exact .refl s

theorem calm_nextPoint (s : State) : Calm s (nextPoint s) := by
  unfold nextPoint
  dsimp only
  split_ifs <;> exact {}

theorem keeps_completePoint (level : Nat) (s : State) : Keeps s (completePoint level s) :=
  ((show Calm s { s with sweep := { s.sweep with last := some (level, s.sweep.cursor) } } from {}).keeps.trans
    (keeps_decidePoint _ _ _)).trans (calm_nextPoint _).keeps

end

end Sys2Proof.Machine
end

section
namespace Sys2Proof.Machine

-- One elaboration thread: the check's memory limit counts the stack of each.
set_option Elab.async false

/-! ### The mode requests and the reset (R43, R176 to R178) -/

section
variable {s t u : State}

/-- Every slot freed, every zone STEADY, the foreign list empty, and no station LAPSED. -/
theorem keeps_emptied (slots : ∀ i, t.slots.read i = .free) (zones : ∀ z, (t.zones.read z).clearing = none)
    (foreign : t.sweep.foreign = []) (stations : ∀ r st, t.stations.read r = some st → st.leaseState = .current)
    (work : EnginePhases s.engine → EnginePhases t.engine) : Keeps s t where
  records i := slots i ▸ .freed
  suspects _ :=
    { order := by rw [foreign]; exact .nil
      sources := fun i k hk => by rw [slots] at hk; cases hk }
  leases _ :=
    { states := fun i o st ho => by rw [slots] at ho; cases ho
      counters := fun r st hst lapsed => by rw [stations r st hst] at lapsed; cases lapsed }
  clearing h := by
    refine clearingSound_iff.2 ⟨fun z => ?_, work h.phases⟩
    simp [ClearingAt, hasEnding, zones, slots, Slot.endingIn]

theorem keeps_emptyTables (s : State) : Keeps s (emptyTables s) :=
  keeps_emptied (Table.read_filled _) (fun z => by
      rw [show (emptyTables s).zones = Table.filled 16 { clearing := none, spares := [] } from rfl, Table.read_filled]) rfl
    (fun r st hst => by
      rw [show (emptyTables s).stations = s.stations.each (Option.map Station.fresh) from rfl, Table.read_each,
        Option.map_eq_some_iff] at hst
      obtain ⟨x, -, rfl⟩ := hst
      rfl)
    fun h => ⟨h.queue, h.foreground⟩

theorem keeps_resetPart (s : State) : Keeps s (resetPart s) :=
  keeps_emptied reset_slots_read
    (fun z => by rw [show (resetPart s).zones = State.reset.zones from rfl, reset_zones_read]) rfl
    (fun r st hst => by rw [show (resetPart s).stations = State.reset.stations from rfl, reset_stations_read] at hst; cases hst)
    fun _ => clearingSound_resetState.phases

theorem calm_startPart (s : State) : Calm s (startPart s) := by
  have begun : ∀ t b, Calm t (startBranch b t) := fun t b => by
    unfold startBranch
    split
    · exact {}
    · exact .refl t
  exact (((calm_setMode .run s).trans (calm_foldl begun _ _)).trans (calm_takeWork _)).trans (calm_startRefill _)

theorem calm_stopPart (s : State) : Calm s (stopPart s) :=
  (((calm_abandonWork s).trans (calm_stopTick _)).trans
    (calm_foldl (fun t b => show Calm t (stopPolling b t) from {}) _ _)).trans (calm_setMode _ _)

theorem keeps_clearPart (s : State) : Keeps s (clearPart s) := by
  unfold clearPart
  split
  · exact (calm_stopPart s).keeps.trans (keeps_emptyTables _)
  · exact (calm_abandonWork s).keeps.trans (keeps_emptyTables _)

/-! ### Plan writes (R2 to R16) -/

theorem calm_writePlan (plan : Plan) (tightens : Bool) (s : State) : Calm s (writePlan plan tightens s) := by
  have written : Calm s (emptyBarred { s with plan := plan }) := {}
  unfold writePlan
  dsimp only
  split
  · exact written.trans (calm_advanceEpoch _)
  · exact written

theorem keeps_applySpareSettings (z : Fin 16) (old new : ZonePlan) (s : State) :
    Keeps s (applySpareSettings z old new s) := by
  unfold applySpareSettings
  dsimp only
  split_ifs
  · exact .refl s
  · exact (calm_discardRefill z s).keeps.trans (keeps_retireSlots _ _ _)
  · exact (calm_discardRefill z s).keeps.trans (keeps_retireSlots _ _ _)

/-! ### Station records written and removed (R166, R167) -/

/-- A record written or removed whose station owns no slot, its lease CURRENT if it is present. -/
theorem LeaseAgrees.setStation {r : Fin 48} {x : Option Station} (h : LeaseAgrees s)
    (unowned : ∀ i, (s.slots.read i).ownedByStation r = false) (current : ∀ st, x = some st → st.leaseState = .current) :
    LeaseAgrees (setStation r x s) := by
  have read : ∀ q, (Machine.setStation r x s).stations.read q = if r = q then x else s.stations.read q :=
    fun q => Table.read_write _ _ _ _
  constructor
  · intro i o st ho hst
    rw [read] at hst
    split_ifs at hst with mine
    · have := unowned i
      rw [show s.slots.read i = .owned o from ho] at this
      simp [Slot.ownedByStation, mine] at this
    · exact h.states i o st ho hst
  · intro q st hst lapsed
    rw [read] at hst
    split_ifs at hst
    · rw [current st hst] at lapsed
      cases lapsed
    · exact h.counters q st hst lapsed

/-- A station that is not in use owns no slot (R36, R166). -/
theorem OwnersSound.unused {r : Fin 48} {st : Station} (h : OwnersSound s) (present : s.stations.read r = some st)
    (unused : stationInUse st = false) (i : Fin 384) : (s.slots.read i).ownedByStation r = false :=
  countWith_eq_zero.1 ((h.held r st present).symm.trans (stationInUse_eq_false unused).2) i

theorem keeps_orphanPolls (r : Fin 48) (s : State) : Keeps s (orphanPolls r s) :=
  Calm.keeps {}

theorem course_storeStation {r : Fin 48} {new : StationSettings}
    (unlocked : stationLocked new (s.stations.read r) = false) : Course s (storeStation r new s) := by
  have fresh : (∀ i, OwnersSound s → (s.slots.read i).ownedByStation r = false) →
      OwnersSound s → LeaseAgrees s → LeaseAgrees (setStation r (some (newStation new)) s) := fun unowned owners h =>
    h.setStation (unowned · owners) fun st hst => by cases hst; rfl
  unfold storeStation
  split
  · rename_i absent
    exact .station (u := setStation r (some (newStation new)) s) rfl rfl rfl rfl
      (fresh fun i owners => owners.absent r i absent) (.refl _)
  · rename_i st present
    rw [present] at unlocked
    split
    · rename_i moves
      have unused : stationInUse st = false := by simpa [stationLocked, moves] using unlocked
      exact .station (u := setStation r (some (newStation new)) s) rfl rfl rfl rfl
        (fresh fun i owners => owners.unused present unused i) (keeps_orphanPolls r _)
    · refine Calm.course { leases := fun q => ?_ }
      rw [show (setStation r _ s).stations.read q = _ from Table.read_write _ _ _ _]
      split
      · rename_i same
        rw [← same, present]
        exact .some {}
      · exact optionRel_refl Station.LeaseKept.refl _

theorem course_removeStation {r : Fin 48} {st : Station} (present : s.stations.read r = some st)
    (unused : stationInUse st = false) : Course s (orphanPolls r (setStation r none s)) :=
  .station (u := setStation r none s) rfl rfl rfl rfl
    (fun owners h => h.setStation (owners.unused present unused) fun _ k => by cases k) (keeps_orphanPolls r _)

end

end Sys2Proof.Machine
end

section
namespace Sys2Proof.Machine

-- One elaboration thread: the check's memory limit counts the stack of each.
set_option Elab.async false

/-! ### The commands -/

section
variable {s t : State}

theorem Course.respond (h : Course s t) (x : Status) (data : List Byte) : Course s (respond x data t) :=
  h.trans (calm_respond x data t).keeps

theorem Course.refill (h : Course s t) : Course s (startRefill t) := h.trans (calm_startRefill t).keeps

theorem Course.refl (s : State) : Course s s := (Calm.refl s).course

/-- A request denied changes the response alone. -/
theorem denied_course (x : Status) (s : State) : leadsTo (Course s) (deny x s) :=
  leadsTo_deny.2 ((Course.refl s).respond x [])

/-- A request carried out. -/
theorem Course.accepted (h : Course s t) (data : List Byte) : leadsTo (Course s) (accept data t) :=
  leadsTo_accept.2 (h.respond .ok data)

/-- A request carried out calmly. -/
theorem Calm.accepted (h : Calm s t) (data : List Byte) : leadsTo (Course s) (accept data t) := h.course.accepted data

/-- A read. -/
theorem read_course (data : List Byte) (s : State) : leadsTo (Course s) (accept data s) := (Course.refl s).accepted data

/-- An event that is not due. -/
theorem idle_course (s : State) : leadsTo (Course s) (.next s) := leadsTo_next.2 (.refl s)

theorem Calm.occurs (h : Calm s t) : leadsTo (Course s) (.next t) := leadsTo_next.2 h.course

theorem Keeps.occurs (h : Keeps s t) : leadsTo (Course s) (.next t) := leadsTo_next.2 (.keeps h)

/-- An event that is due on a condition. -/
theorem due_course {p : Prop} [Decidable p] (h : Course s t) : leadsTo (Course s) (if p then .next t else .next s) := by
  split
  · exact leadsTo_next.2 h
  · exact idle_course s

/-! #### The reads -/

theorem course_readProfile (p : Byte) (s : State) : leadsTo (Course s) (execReadProfile p s) := by
  unfold execReadProfile
  split
  · exact denied_course _ s
  · exact read_course _ s

theorem course_readZone (z : Byte) (s : State) : leadsTo (Course s) (execReadZone z s) := by
  unfold execReadZone
  split
  · exact denied_course _ s
  · exact read_course _ s

theorem course_readCoupling (a b : Byte) (s : State) : leadsTo (Course s) (execReadCoupling a b s) := by
  unfold execReadCoupling
  split
  · exact read_course _ s
  · exact denied_course _ s

theorem course_readStation (r : Byte) (s : State) : leadsTo (Course s) (execReadStation r s) := by
  unfold execReadStation
  split
  · exact denied_course _ s
  · exact read_course _ s

theorem course_readBranch (b : Byte) (s : State) : leadsTo (Course s) (execReadBranch b s) := by
  unfold execReadBranch
  split
  · exact denied_course _ s
  · exact read_course _ s

theorem course_readEntry (i : Word) (s : State) : leadsTo (Course s) (execReadEntry i s) := by
  unfold execReadEntry
  split
  · exact denied_course _ s
  · exact read_course _ s

theorem course_readEntries (start : Word) (n : Byte) (s : State) : leadsTo (Course s) (execReadEntries start n s) := by
  unfold execReadEntries
  split
  · exact read_course _ s
  · exact denied_course _ s

/-! #### The plan's requests -/

/-- An accepted plan write, after which a refill may start. -/
theorem course_writePlan (plan : Plan) (tightens : Bool) (s : State) :
    leadsTo (Course s) (.next (respond .ok [] (startRefill (writePlan plan tightens s)))) :=
  leadsTo_next.2 ((calm_writePlan plan tightens s).course.refill.respond .ok [])

theorem course_undefineProfile (p : Byte) (s : State) : leadsTo (Course s) (undefineProfile p s) := by
  unfold undefineProfile
  split
  · exact denied_course _ s
  · split
    · exact denied_course _ s
    · exact course_writePlan _ _ s

theorem course_writeProfile (p st : Byte) (l h : Word) (sp c p3 p5 : Byte) (s : State) :
    leadsTo (Course s) (execWriteProfile p st l h sp c p3 p5 s) := by
  unfold execWriteProfile
  split
  · unfold defineProfile
    split
    · exact denied_course _ s
    · split_ifs
      · exact denied_course _ s
      · exact denied_course _ s
      · exact course_writePlan _ _ s
  · split
    · exact course_undefineProfile p s
    · exact denied_course _ s

theorem course_writeZone (z : Byte) (l h : Word) (d p : Byte) (c : Word) (s : State) :
    leadsTo (Course s) (execWriteZone z l h d p c s) := by
  unfold execWriteZone
  split
  · exact denied_course _ s
  · split
    · exact denied_course _ s
    · exact leadsTo_next.2 (((calm_writePlan _ _ s).course.trans (keeps_applySpareSettings _ _ _ _)).refill.respond _ _)

theorem course_writeCoupling (a b v : Byte) (s : State) : leadsTo (Course s) (execWriteCoupling a b v s) := by
  unfold execWriteCoupling
  split
  · split
    · exact denied_course _ s
    · exact course_writePlan _ _ s
  · exact denied_course _ s

theorem course_addExclusion (l h : Word) (s : State) : leadsTo (Course s) (execAddExclusion l h s) := by
  unfold execAddExclusion
  dsimp only
  split_ifs
  · exact denied_course _ s
  · exact denied_course _ s
  · exact denied_course _ s
  · exact course_writePlan _ _ s

theorem course_removeExclusion (l h : Word) (s : State) : leadsTo (Course s) (execRemoveExclusion l h s) := by
  unfold execRemoveExclusion
  dsimp only
  split_ifs
  · exact denied_course _ s
  · exact denied_course _ s
  · exact course_writePlan _ _ s

theorem course_writeGuards (g fg : Byte) (s : State) : leadsTo (Course s) (execWriteGuards g fg s) := by
  unfold execWriteGuards
  split
  · exact course_writePlan _ _ s
  · exact denied_course _ s

/-! #### The settings outside the plan -/

theorem course_writeTimeBase (code : Byte) (s : State) : leadsTo (Course s) (execWriteTimeBase code s) := by
  unfold execWriteTimeBase
  split
  · exact denied_course _ s
  · split
    · exact denied_course _ s
    · exact Calm.accepted {} _

theorem course_writeLease (p : Byte) (s : State) : leadsTo (Course s) (execWriteLease p s) := by
  unfold execWriteLease
  split
  · exact Calm.accepted {} _
  · exact denied_course _ s

theorem course_writeMoveTime (t : Byte) (s : State) : leadsTo (Course s) (execWriteMoveTime t s) := by
  unfold execWriteMoveTime
  split
  · exact Calm.accepted {} _
  · exact denied_course _ s

theorem course_writeDefer (u l : Byte) (s : State) : leadsTo (Course s) (execWriteDefer u l s) := by
  unfold execWriteDefer
  split
  · exact Calm.accepted {} _
  · exact denied_course _ s

theorem course_writeSweep (l h : Word) (st se t hy k m e g : Byte) (o : Word24) (sc : Byte) (s : State) :
    leadsTo (Course s) (execWriteSweep l h st se t hy k m e g o sc s) := by
  unfold execWriteSweep
  dsimp only
  split_ifs
  · exact denied_course _ s
  · exact Calm.accepted {} _
  · exact denied_course _ s

theorem course_writeStation (r b a z c au : Byte) (s : State) : leadsTo (Course s) (execWriteStation r b a z c au s) := by
  unfold execWriteStation
  split
  · exact denied_course _ s
  · split_ifs with locked
    · exact denied_course _ s
    · exact denied_course _ s
    · exact (course_storeStation (Bool.eq_false_iff.2 locked)).accepted _

theorem course_removeStationRequest (r : Byte) (s : State) : leadsTo (Course s) (execRemoveStation r s) := by
  unfold execRemoveStation
  split
  · exact denied_course _ s
  · split
    · exact denied_course _ s
    · rename_i present
      split
      · exact denied_course _ s
      · rename_i unused
        exact (course_removeStation present (Bool.eq_false_iff.2 unused)).accepted _

theorem course_writeBranch (b r t w g d : Byte) (s : State) : leadsTo (Course s) (execWriteBranch b r t w g d s) := by
  unfold execWriteBranch
  split
  · exact denied_course _ s
  · split
    · exact denied_course _ s
    · split
      · split
        · exact (calm_changeBranch _ _ s).accepted _
        · exact denied_course _ s
      · exact denied_course _ s

theorem course_branchEnable (b : Byte) (s : State) : leadsTo (Course s) (execBranchEnable b s) := by
  unfold execBranchEnable
  split
  · exact denied_course _ s
  · split
    · exact Calm.accepted {} _
    · exact read_course _ s

theorem course_branchDisable (b : Byte) (s : State) : leadsTo (Course s) (execBranchDisable b s) := by
  unfold execBranchDisable
  split
  · exact denied_course _ s
  · split
    · exact read_course _ s
    · exact (calm_disableBranch _ s).accepted _

/-! #### The records and the engine's console work -/

theorem course_pinUnchecked (i : Word) (p z : Byte) (l : List Byte) (s : State) :
    leadsTo (Course s) (pinUnchecked i p z l s) := by
  unfold pinUnchecked
  split
  · exact denied_course _ s
  · split
    · split
      · exact denied_course _ s
      · rename_i lowest
        exact (course_recordPin lowest _ _ _ _).accepted _
    · exact denied_course _ s

theorem course_queueHostWork {w : Work} (sound : w.phaseSound) (s : State) : leadsTo (Course s) (queueHostWork w s) := by
  unfold queueHostWork
  split
  · exact denied_course _ s
  · exact (calm_openHostWork sound s).accepted _

theorem course_queueCheckedPin (i : Word) (p z : Byte) (l : List Byte) (s : State) :
    leadsTo (Course s) (queueCheckedPin i p z l s) := by
  unfold queueCheckedPin
  split
  · exact denied_course _ s
  · split
    · exact course_queueHostWork (w := .pin _) trivial s
    · exact denied_course _ s

theorem course_pin (i : Word) (p z flag : Byte) (l : List Byte) (s : State) :
    leadsTo (Course s) (execPin i p z flag l s) := by
  unfold execPin
  split_ifs
  · exact course_pinUnchecked i p z l s
  · exact course_queueCheckedPin i p z l s
  · exact denied_course _ s

theorem course_check (i : Word) (p z : Byte) (s : State) : leadsTo (Course s) (execCheck i p z s) := by
  unfold execCheck
  split
  · exact denied_course _ s
  · exact course_queueHostWork (w := .check _) trivial s

theorem course_retire (i : Word) (s : State) : leadsTo (Course s) (execRetire i s) := by
  unfold execRetire
  split
  · exact denied_course _ s
  · split
    · exact denied_course _ s
    · exact (Course.keeps (keeps_retireSlot _ _ s)).refill.accepted _

theorem course_changeover (z f : Byte) (s : State) : leadsTo (Course s) (execChangeover z f s) := by
  unfold execChangeover
  split
  · exact denied_course _ s
  · split
    · exact denied_course _ s
    · rename_i h
      exact (Course.keeps (keeps_changeoverZone h)).refill.accepted _

theorem course_dropForeign (i : Word) (s : State) : leadsTo (Course s) (execDropForeign i s) := by
  unfold execDropForeign
  split
  · exact denied_course _ s
  · split
    · exact denied_course _ s
    · rename_i found
      exact (Course.keeps (keeps_dropEntry (entryAt_eq_some found).1)).refill.accepted _

/-! #### The mode requests and the rest of the console port -/

theorem course_sweepStart (s : State) : leadsTo (Course s) (execSweepStart s) := by
  unfold execSweepStart
  split
  · exact read_course _ s
  · exact Calm.accepted {} _

theorem course_start (s : State) : leadsTo (Course s) (execStart s) := by
  unfold execStart
  split
  · exact read_course _ s
  · exact (calm_startPart s).accepted _

theorem course_stop (s : State) : leadsTo (Course s) (execStop s) := by
  unfold execStop
  split
  · exact (calm_stopPart s).accepted _
  · exact read_course _ s

theorem course_unknownRequestCode (code : Byte) (s : State) : leadsTo (Course s) (execUnknownRequestCode code s) := by
  unfold execUnknownRequestCode
  split
  · exact denied_course _ s
  · exact idle_course s

/-! #### The events of the engine -/

theorem course_candidateEvaluation (s : State) : leadsTo (Course s) (execCandidateEvaluation s) := by
  unfold execCandidateEvaluation
  split
  · rename_i active
    exact due_course (calm_evaluateNext (activeSearch_held active)).course.refill
  · exact idle_course s

theorem course_searchCompletion (s : State) : leadsTo (Course s) (execSearchCompletion s) := by
  unfold execSearchCompletion
  split
  · rename_i active
    split
    · exact leadsTo_next.2 (course_completeSearch (activeSearch_held active) _ _).refill
    · exact leadsTo_next.2 (course_completeSearch (activeSearch_held active) _ _).refill
    · exact idle_course s
    · exact idle_course s
  · exact idle_course s

theorem course_reTest (s : State) : leadsTo (Course s) (execReTest s) := by
  unfold execReTest
  split
  · split
    · exact leadsTo_next.2 (calm_retestPin _ _ s).course.refill
    · exact idle_course s
  · split
    · rename_i active
      split
      · exact leadsTo_next.2 (calm_retestSearch (activeSearch_held active) _).course.refill
      · exact idle_course s
    · exact idle_course s

theorem course_checkedPinCompletion (s : State) : leadsTo (Course s) (execCheckedPinCompletion s) := by
  unfold execCheckedPinCompletion
  split
  · split
    · exact leadsTo_next.2 (course_completePin _ _ _ s).refill
    · exact leadsTo_next.2 (course_completePin _ _ _ s).refill
    · exact idle_course s
    · exact idle_course s
  · exact idle_course s

theorem course_auditVisitEvent (s : State) : leadsTo (Course s) (execAuditVisit s) := by
  unfold execAuditVisit
  split
  · exact leadsTo_next.2 (calm_auditVisit (.refl s) _ _).course.refill
  · exact idle_course s

/-! #### The events of the Lease Timer, the zones and the Sweep Unit -/

theorem course_tick (s : State) : leadsTo (Course s) (execTick s) := by
  unfold execTick
  split
  · exact (calm_issueTick s).occurs
  · exact idle_course s

theorem course_lapse (r : Fin 48) (s : State) : leadsTo (Course s) (execLapse r s) := by
  unfold execLapse
  split
  · exact due_course (.keeps (keeps_tickLease r s))
  · exact idle_course s

theorem course_holdExpiry (i : Fin 384) (s : State) : leadsTo (Course s) (execHoldExpiry i s) := by
  unfold execHoldExpiry
  split
  · exact due_course (.keeps (keeps_tickHold i s))
  · exact idle_course s

theorem course_moveLapse (i : Fin 384) (s : State) : leadsTo (Course s) (execMoveLapse i s) := by
  unfold execMoveLapse
  split
  · exact due_course (.keeps (keeps_tickMove i s))
  · exact idle_course s

theorem course_clearTimerExpiry (z : Fin 16) (s : State) : leadsTo (Course s) (execClearTimerExpiry z s) := by
  unfold execClearTimerExpiry
  split
  · exact due_course (.keeps (keeps_tickClear z s))
  · exact idle_course s

theorem course_tuneLatch (s : State) : leadsTo (Course s) (execTuneLatch s) := by
  unfold execTuneLatch
  split
  · exact Calm.occurs {}
  · exact idle_course s

theorem course_settleEnd (s : State) : leadsTo (Course s) (execSettleEnd s) := by
  unfold execSettleEnd
  split
  · exact Calm.occurs {}
  · exact idle_course s

theorem course_conversionComplete (rssi refLow refHigh : Nat) (s : State) :
    leadsTo (Course s) (execConversionComplete rssi refLow refHigh s) := by
  unfold execConversionComplete
  split
  · have shown : Calm s (showFree s) := {}
    exact leadsTo_next.2 (shown.course.trans (keeps_completePoint _ _)).refill
  · exact idle_course s

theorem course_passGapEnd (s : State) : leadsTo (Course s) (execPassGapEnd s) := by
  unfold execPassGapEnd
  split
  · exact Calm.occurs {}
  · exact idle_course s

/-! #### The events of the branches -/

theorem course_poll (b : Fin 4) (s : State) : leadsTo (Course s) (execPoll b s) := by
  unfold execPoll
  split
  · split
    · split
      · exact (calm_formPoll b _ _ s).occurs
      · exact (calm_changeBranch b _ s).occurs
    · exact idle_course s
  · exact idle_course s

theorem course_replyWindowExpired (b : Fin 4) (s : State) : leadsTo (Course s) (execReplyWindowExpired b s) := by
  unfold execReplyWindowExpired
  split
  · exact (calm_failPoll b _ s).occurs
  · exact idle_course s

theorem course_replyGapTimeout (b : Fin 4) (s : State) : leadsTo (Course s) (execReplyGapTimeout b s) := by
  unfold execReplyGapTimeout
  split
  · exact (calm_failPoll b _ s).occurs
  · exact idle_course s

theorem course_quietWaitEnd (b : Fin 4) (s : State) : leadsTo (Course s) (execQuietWaitEnd b s) := by
  unfold execQuietWaitEnd
  split
  · exact due_course (calm_continueRound b _ s).course
  · exact idle_course s

theorem course_roundGapEnd (b : Fin 4) (s : State) : leadsTo (Course s) (execRoundGapEnd b s) := by
  unfold execRoundGapEnd
  split
  · exact Calm.occurs {}
  · exact idle_course s

/-! #### Every command -/

/-- What every command does. -/
theorem exec_course (c : Instr) (s : State) : leadsTo (Course s) (exec c s) := by
  have received : ∀ b ch, leadsTo (Course s) (.next (receiveChar b ch s)) := fun b ch => (keeps_receiveChar b ch s).occurs
  cases c with
  | hardwareReset => exact (keeps_resetPart s).occurs
  | writeProfile p st l h sp c p3 p5 => exact course_writeProfile p st l h sp c p3 p5 s
  | writeProfileUndefined p l h sp c p3 p5 => exact course_undefineProfile p s
  | readProfile p => exact course_readProfile p s
  | writeZone z l h d p c => exact course_writeZone z l h d p c s
  | readZone z => exact course_readZone z s
  | writeCoupling a b v => exact course_writeCoupling a b v s
  | readCoupling a b => exact course_readCoupling a b s
  | addExclusion l h => exact course_addExclusion l h s
  | removeExclusion l h => exact course_removeExclusion l h s
  | writeGuards g fg => exact course_writeGuards g fg s
  | writeTimeBase code => exact course_writeTimeBase code s
  | writeLease p => exact course_writeLease p s
  | writeHold h => exact Calm.accepted {} _
  | writeMoveTime t => exact course_writeMoveTime t s
  | writeDefer u l => exact course_writeDefer u l s
  | writeStation r b a z c au => exact course_writeStation r b a z c au s
  | removeStation r => exact course_removeStationRequest r s
  | readStation r => exact course_readStation r s
  | writeBranch b r t w g d => exact course_writeBranch b r t w g d s
  | readBranch b => exact course_readBranch b s
  | branchEnable b => exact course_branchEnable b s
  | branchDisable b => exact course_branchDisable b s
  | pin i p z flag l => exact course_pin i p z flag l s
  | checkedPin i p z l => exact course_queueCheckedPin i p z l s
  | retire i => exact course_retire i s
  | readEntry i => exact course_readEntry i s
  | readEntries st n => exact course_readEntries st n s
  | changeover z f => exact course_changeover z f s
  | check i p z => exact course_check i p z s
  | audit => exact course_queueHostWork (w := .audit) trivial s
  | readResult => exact Calm.accepted {} _
  | writeSweep l h st se t hy k m e g o sc => exact course_writeSweep l h st se t hy k m e g o sc s
  | readSweep => exact Calm.accepted {} _
  | sweepStart => exact course_sweepStart s
  | sweepStop => exact Calm.accepted {} _
  | dropForeign i => exact course_dropForeign i s
  | start => exact course_start s
  | stop => exact course_stop s
  | clear => exact (Course.keeps (keeps_clearPart s)).accepted _
  | readAttention => exact Calm.accepted {} _
  | writeMask m => exact Calm.accepted {} _
  | listExclusions | readGuards | readTiming | readCounts | readForeign => exact read_course _ s
  | unknownRequestCode code => exact course_unknownRequestCode code s
  | chipSelectReleasedEarly received => exact Calm.occurs {}
  | tick => exact course_tick s
  | leaseCounterDecrement r => exact (keeps_tickLease r s).occurs
  | lapse r => exact course_lapse r s
  | holdCounterDecrement i => exact (keeps_tickHold i s).occurs
  | holdExpiry i => exact course_holdExpiry i s
  | moveCounterDecrement i => exact (keeps_tickMove i s).occurs
  | moveLapse i => exact course_moveLapse i s
  | clearTimerDecrement z => exact (keeps_tickClear z s).occurs
  | clearTimerExpiry z => exact course_clearTimerExpiry z s
  | poll b => exact course_poll b s
  | turnoffDelayEnd b => exact due_course (calm_changeBranch b _ s).course
  | replyAccepted b ch => exact received b ch
  | replyWindowExpired b => exact course_replyWindowExpired b s
  | replyGapTimeout b => exact course_replyGapTimeout b s
  | replyFailed b ch => exact received b ch
  | quietWaitEnd b => exact course_quietWaitEnd b s
  | strayCharacter b ch => exact received b ch
  | roundGapEnd b => exact course_roundGapEnd b s
  | branchFault b => exact due_course (calm_faultBranch b s).course
  | branchFaultRecovery b => exact due_course (Calm.course {})
  | validReplyNotice r => exact (keeps_takeReplyNotice r s).occurs
  | engineTake => exact leadsTo_next.2 (calm_takeWork s).course.refill
  | candidateEvaluation => exact course_candidateEvaluation s
  | searchCompletion => exact course_searchCompletion s
  | reTest => exact course_reTest s
  | checkedPinCompletion => exact course_checkedPinCompletion s
  | auditVisit => exact course_auditVisitEvent s
  | tuneLatch => exact course_tuneLatch s
  | settleEnd => exact course_settleEnd s
  | conversionComplete a b d => exact course_conversionComplete a b d s
  | passGapEnd => exact course_passGapEnd s
  | replyCharacterReceived b ch => exact received b ch
  | lineTransition b level => exact (calm_changeBranch b _ s).occurs

end

/-! ### What every step keeps of the records, the leases, the zones and the foreign list -/

/-- A step is a command's course, or idles. -/
theorem step_course {s t : State} (h : step s = .next t) : s = t ∨ ∃ cs, Course (s.withPending cs) t := by
  unfold step at h
  split at h
  · cases h
    exact .inl rfl
  · exact .inr ⟨_, exec_course _ _ t h⟩

/-- Settles O51: every command's course keeps a zone CLEARING exactly while it has an ENDING slot. -/
theorem zonesClearWhileSlotsEnd : Obligations.ZonesClearWhileSlotsEnd := by
  unfold Obligations.ZonesClearWhileSlotsEnd
  intro s t sound h
  rcases step_course h with rfl | ⟨cs, course⟩
  · exact sound
  · exact course.clearingSound ⟨sound.zones, sound.queue, sound.foreground⟩

/-- Settles O52: the foreign list is changed entry by entry, and a suspect field is given CONFIRMED carriers alone. -/
theorem suspectSourcesStayConfirmed : Obligations.SuspectSourcesStayConfirmed := by
  unfold Obligations.SuspectSourcesStayConfirmed
  intro s t sound h
  rcases step_course h with rfl | ⟨cs, course⟩
  · exact sound
  · exact course.suspectSound ⟨sound.order, sound.sources⟩

/-- Settles O56: with one slot for each owner, lease states change at a lapse, at a return and at a record alone. -/
theorem slotsAreActiveWhileLeasesAreCurrent : Obligations.SlotsAreActiveWhileLeasesAreCurrent := by
  unfold Obligations.SlotsAreActiveWhileLeasesAreCurrent
  intro s t sound h
  have owners : OwnersSound t := ownersHoldOneSlotEach s t sound.owners h
  have leases : LeaseAgrees t := by
    rcases step_course h with rfl | ⟨cs, course⟩
    · exact ⟨sound.states, sound.counters⟩
    · exact course.leaseAgrees ((quiet_withPending s cs).changes.keeps (fun _ _ => Change.ownersSound) sound.owners)
        ⟨sound.states, sound.counters⟩
  exact ⟨owners, leases.states, leases.counters⟩

/-- Settles O16: a slot's record is kept or retired, or the slot was the lowest FREE one. -/
theorem recordsKeepProfileZoneOwnerAndLabel : Obligations.RecordsKeepProfileZoneOwnerAndLabel := by
  unfold Obligations.RecordsKeepProfileZoneOwnerAndLabel
  intro c s t h i
  have slot := (exec_course c s t h).slot i
  have kept : ∀ y, y ≠ .free → s.slots.read i = y → y.Kept (t.slots.read i) := fun y full hy =>
    slot.elim (hy ▸ ·) fun lowest => absurd (hy.symm.trans ((lowestFree_eq_some s i).1 lowest).1) full
  split
  · rename_i free
    rcases slot with kept | lowest
    · rw [free] at kept
      cases hx : t.slots.read i with
      | free => exact .inl rfl
      | owned | pinned | spare => rw [hx] at kept; cases kept
    · exact .inr ((lowestFree_eq_some s i).1 lowest).2
  · rename_i o owned
    generalize t.slots.read i = y at kept
    cases kept (.owned o) nofun owned with
    | freed => exact .inl rfl
    | owned profile zone station channel label => exact .inr ⟨_, rfl, profile, zone, station, channel, label⟩
  · rename_i p pinned
    generalize t.slots.read i = y at kept
    cases kept (.pinned p) nofun pinned with
    | freed => exact .inl rfl
    | pinned frequency profile zone label => exact .inr ⟨_, rfl, frequency, profile, zone, label⟩
  · rename_i r spare
    generalize t.slots.read i = y at kept
    cases kept (.spare r) nofun spare with
    | freed => exact .inl rfl
    | spare frequency profile zone => exact .inr ⟨_, rfl, frequency, profile, zone⟩

end Sys2Proof.Machine
end

section
/-! ## Proofs: PIN, RETIRE and the foreign carriers -/

namespace Sys2Proof.Machine

-- One elaboration thread: the check's memory limit counts the stack of each.
set_option Elab.async false

/-! ### PIN (R33) -/

section
variable {s : State} {index : Word} {profile zone : Byte}

/-- The parameters of a CHECK or a PIN, where the profile and the zone can be named (R33). -/
theorem pinParameters_eq (hp : profile.toNat < 16) (hz : zone.toNat < 16) :
    pinParameters s index profile zone =
      if index.toNat < 9120 ∧ (s.plan.profiles.read ⟨profile.toNat, hp⟩).defined = true then
        some (⟨profile.toNat, hp⟩, ⟨zone.toNat, hz⟩) else none := by
  unfold pinParameters
  rw [numberBelow_of_lt hp, numberBelow_of_lt hz]
  simp only [Bool.and_eq_true, onGrid, decide_eq_true_eq]
  rfl

/-- The parameters where the profile or the zone cannot be named (R33). -/
theorem pinParameters_unnamed (h : ¬(profile.toNat < 16 ∧ zone.toNat < 16)) :
    pinParameters s index profile zone = none := by
  unfold pinParameters
  by_cases hp : profile.toNat < 16
  · rw [numberBelow_of_not_lt fun hz => h ⟨hp, hz⟩]
    cases numberBelow 16 profile.toNat <;> rfl
  · rw [numberBelow_of_not_lt hp]

/-- An unchecked PIN whose parameters or label do not pass (R33). -/
theorem pinUnchecked_range {label : List Byte}
    (h : pinParameters s index profile zone = none ∨ labelValid label = false) :
    pinUnchecked index profile zone label s = deny .range s := by
  unfold pinUnchecked
  rcases h with h | h
  · rw [h]
  · rw [h]
    split <;> rfl

/-- An unchecked PIN whose parameters and label pass (R33). -/
theorem pinUnchecked_passed {label : List Byte} {p z : Fin 16} (h : pinParameters s index profile zone = some (p, z))
    (valid : labelValid label = true) : pinUnchecked index profile zone label s =
      match lowestFree s with
      | none => deny .full s
      | some i =>
        accept (wordOf i.val ++ optionalWord (nearestForeign s index.toNat none)) (recordPin i index.toNat p z label s) := by
  unfold pinUnchecked
  rw [h]
  dsimp only
  exact (if_pos valid).trans rfl

end

/-- Settles O14: the checks by cases, and the suspect source as the nearest CONFIRMED carrier. -/
theorem pinRecordsInTheLowestFreeSlot : Obligations.PinRecordsInTheLowestFreeSlot := by
  unfold Obligations.PinRecordsInTheLowestFreeSlot
  intro index profile zone flag label s unchecked
  have range : flag ≠ 0 ∨ pinUnchecked index profile zone label s = deny .range s →
      exec (.pin index profile zone flag label) s = .next (respond .range [] s) := by
    rintro (h | h)
    · show execPin index profile zone flag label s = _
      rw [execPin, if_neg h, if_neg unchecked]
      rfl
    · show execPin index profile zone flag label s = _
      unfold execPin
      split_ifs
      · exact h
      · rfl
  by_cases h : flag = 0 ∧ index.toNat < 9120 ∧ profile.toNat < 16 ∧ zone.toNat < 16 ∧ label.length ≤ 12 ∧
      ∀ c ∈ label, 32 ≤ c.toNat ∧ c.toNat ≤ 126
  · obtain ⟨hf, hi, hp, hz, hl⟩ := id h
    by_cases defined : (s.plan.profiles.read ⟨profile.toNat, hp⟩).defined = true
    · have run : exec (.pin index profile zone flag label) s = _ :=
        (if_pos hf).trans (pinUnchecked_passed ((pinParameters_eq hp hz).trans (if_pos ⟨hi, defined⟩))
          ((labelValid_iff label).2 hl))
      simp only [dif_pos h, if_pos defined]
      rw [run]
      cases free : lowestFree s with
      | none =>
        have none := (lowestFree_eq_none s).1 free
        exact ⟨_, rfl, fun _ => rfl, fun i hi => absurd hi (none i)⟩
      | some i =>
        obtain ⟨hfree, lowest⟩ := (lowestFree_eq_some s i).1 free
        refine ⟨_, rfl, fun none => absurd hfree (none i), fun j hj below => ?_⟩
        have same : j = i := Option.some.inj (((lowestFree_eq_some s j).2 ⟨hj, below⟩).symm.trans free)
        subst same
        refine ⟨nearestForeign s index.toNat none, ?_, rfl⟩
        have spec := nearestForeign_spec s index.toNat none
        split
        · rename_i none
          rw [none] at spec
          exact spec
        · rename_i x found
          rw [found] at spec
          obtain ⟨source, near, least⟩ := spec
          exact ⟨near, source, least⟩
    · simp only [dif_pos h, if_neg defined]
      exact ⟨_, range (.inr (pinUnchecked_range (.inl ((pinParameters_eq hp hz).trans (if_neg fun k => defined k.2))))), rfl⟩
  · simp only [dif_neg h]
    refine ⟨_, range ?_, rfl⟩
    by_cases hf : flag = 0
    · refine .inr (pinUnchecked_range ?_)
      by_cases named : profile.toNat < 16 ∧ zone.toNat < 16
      · obtain ⟨hp, hz⟩ := named
        by_cases hi : index.toNat < 9120
        · exact .inr (Bool.eq_false_iff.2 fun valid => h ⟨hf, hi, hp, hz, (labelValid_iff label).1 valid⟩)
        · exact .inl ((pinParameters_eq hp hz).trans (if_neg fun k => hi k.1))
      · exact .inl (pinParameters_unnamed named)
    · exact .inl hf

end Sys2Proof.Machine
end

section
namespace Sys2Proof.Machine

-- One elaboration thread: the check's memory limit counts the stack of each.
set_option Elab.async false

/-- A record written over itself. -/
theorem table_write_read {α : Type} {n : Nat} (t : Table α n) (i : Fin n) : t.write i (t.read i) = t :=
  Vector.set_getElem_self i.isLt

/-! ### Retirement (R35, R36) -/

/-- A notice that is not the advice for a channel stays in the queue. -/
def staysAfterRetirement (ch : Fin 64) (n : Notice) : Bool :=
  match n with
  | .moveAdvised c _ => decide (c ≠ ch)
  | .moveLapsed _ => true
  | .retired _ _ => true
  | .phaseChanged _ => true

theorem not_isAdvice (ch : Fin 64) (n : Notice) : (!isAdvice ch n) = staysAfterRetirement ch n := by
  cases n with
  | moveAdvised c x => by_cases h : c = ch <;> simp [isAdvice, staysAfterRetirement, h]
  | moveLapsed | retired | phaseChanged => rfl

/-- An owner's record after a retirement: one slot fewer, the notice that is due, and no advice for the channel. -/
def Station.afterRetirement (o : Owned) (cause : Option RetireCause) (st : Station) : Station :=
  let fewer : Station := { st with held := st.held - 1 }
  let noticed :=
    match cause with
    | none => fewer
    | some c => fewer.takeNotice (.retired o.channel c)
  { noticed with notices := noticed.notices.filter fun q => staysAfterRetirement o.channel q.notice }

theorem changeStation_changeStation (r : Fin 48) (f g : Station → Station) (s : State) :
    changeStation r g (changeStation r f s) = changeStation r (g ∘ f) s := by
  simp [changeStation, Table.change_change, Option.map_comp_map]

/-- What the owner of a retired slot is told, in one change of its record. -/
theorem retirementTold_eq (o : Owned) (cause : Option RetireCause) (u : State) :
    withdrawAdvice o.station o.channel (giveRetired o cause (lowerHeld o.station u)) =
      changeStation o.station (Station.afterRetirement o cause) u := by
  unfold withdrawAdvice
  simp only [not_isAdvice]
  cases cause with
  | none => exact changeStation_changeStation _ _ _ u
  | some c =>
    unfold giveRetired giveNotice lowerHeld
    dsimp only
    rw [changeStation_changeStation, changeStation_changeStation]
    rfl

/-- No ENDING slot is left in a zone. -/
theorem endingSlots_isEmpty_iff_all (z : Fin 16) (s : State) :
    (endingSlots z s).isEmpty = true ↔ (s.slots.toList.all fun x => !(x.endingIn z)) = true := by
  rw [endingSlots_isEmpty, List.all_eq_true, Table.toList_eq]
  simp [hasEnding]

/-- Retirement of an owned slot. -/
theorem retireSlot_of_owned {i : Fin 384} {o : Owned} {s : State} (cause : Option RetireCause)
    (owned : s.slots.read i = .owned o) :
    retireSlot cause i s =
      let told := changeStation o.station (Station.afterRetirement o cause) (freeSlot i s)
      if o.phase = .ending ∧ (told.slots.toList.all fun x => !(x.endingIn o.zone)) = true then
        changeZone o.zone (fun z => { z with clearing := none }) told
      else told := by
  unfold retireSlot
  rw [owned]
  dsimp only
  rw [retirementTold_eq]
  unfold steadyIfDone
  simp only [endingSlots_isEmpty_iff_all]
  by_cases ending : o.phase = .ending
  · simp only [ending, true_and]
    rfl
  · simp only [ending, false_and]
    rfl

/-- Settles O15: the owner is told in one change of its record, and RETIRE answers by the kind of the slot. -/
theorem retirementFreesASlot : Obligations.RetirementFreesASlot := by
  unfold Obligations.RetirementFreesASlot
  refine ⟨fun cause i s => ?_, fun slot s => ?_⟩
  · dsimp only
    split
    · rename_i free
      exact retireSlot_free cause free
    · rename_i pinned
      unfold retireSlot
      rw [pinned]
      rfl
    · rename_i spare
      unfold retireSlot
      rw [spare]
      rfl
    · rename_i owned
      exact retireSlot_of_owned cause owned
  · show execRetire slot s = _
    unfold execRetire
    split_ifs with h
    · rw [numberBelow_of_lt h]
      dsimp only
      cases s.slots.read ⟨slot.toNat, h⟩ with
      | free | pinned | spare => rfl
      | owned o => cases hs : o.state <;> simp only [retiredBytes, slotCode, hs] <;> rfl
    · rw [numberBelow_of_not_lt h]
      rfl

end Sys2Proof.Machine
end

section
namespace Sys2Proof.Machine

-- One elaboration thread: the check's memory limit counts the stack of each.
set_option Elab.async false

/-! ### A confirmed carrier reaches slots (R146, R147) -/

/-- A slot as a confirmed carrier that reaches it leaves it (R147). -/
def Slot.reached (index : Nat) (x : Slot) : Slot :=
  match x with
  | .free => .free
  | .owned o => .owned { o with suspect := some index }
  | .pinned p => .pinned { p with suspect := some index }
  | .spare _ => .free

/-- The slot is a spare of the zone. -/
def Slot.sparesZone (z : Fin 16) (x : Slot) : Bool :=
  match x with
  | .spare r => r.zone == z
  | .free => false
  | .owned _ => false
  | .pinned _ => false

/-- The station records with the owner of a reached slot advised (R147). -/
def adviseOwner (index : Nat) (x : Slot) (stations : Table (Option Station) 48) : Table (Option Station) 48 :=
  match x with
  | .owned o => stations.change o.station (Option.map fun st => st.takeNotice (.moveAdvised o.channel index))
  | .free => stations
  | .pinned _ => stations
  | .spare _ => stations

/-- What reaching some slots comes to: the slots, the spare lists without them, the barred set emptied if one was a spare, and the
owners advised in turn. -/
structure Reached (index : Nat) (is : List (Fin 384)) (s t : State) : Prop where
  slots : ∀ i, t.slots.read i = if i ∈ is then (s.slots.read i).reached index else s.slots.read i
  zones : ∀ z, t.zones.read z =
    { s.zones.read z with
      spares := (s.zones.read z).spares.filter fun i => !(decide (i ∈ is) && (s.slots.read i).sparesZone z) }
  engine : t.engine =
    { s.engine with
      barred := if is.any (fun i => (s.slots.read i).isSpare) then Table.filled 16 false else s.engine.barred }
  stations : t.stations = is.foldl (fun stations i => adviseOwner index (s.slots.read i) stations) s.stations
  rest : t = { s with slots := t.slots, zones := t.zones, engine := t.engine, stations := t.stations }

section
variable {index : Nat} {s t : State}

theorem reached_nil (s : State) : Reached index [] s s where
  slots i := by simp
  zones z := by simp
  engine := by simp
  stations := rfl
  rest := rfl

/-- One slot reached. -/
theorem reached_reachSlot (i : Fin 384) (s : State) : Reached index [i] s (reachSlot index i s) := by
  have slots : ∀ t : State, t.slots = s.slots.write i ((s.slots.read i).reached index) → ∀ j, t.slots.read j =
      if j ∈ [i] then (s.slots.read j).reached index else s.slots.read j := fun t ht j => by
    rw [ht, Table.read_write]
    by_cases hj : i = j
    · simp [hj]
    · simp [hj, Ne.symm hj]
  have others : ∀ z, (s.slots.read i).sparesZone z = false → s.zones.read z =
      { s.zones.read z with
        spares := (s.zones.read z).spares.filter fun j => !(decide (j ∈ [i]) && (s.slots.read j).sparesZone z) } :=
    fun z none => by
      rw [List.filter_eq_self.2 fun j _ => ?_]
      by_cases hj : j = i
      · rw [hj, none]
        simp
      · simp [hj]
  have stays : s.slots.read i = .free → s.slots = s.slots.write i .free := fun free => by
    rw [← free]
    exact (table_write_read _ i).symm
  cases hi : s.slots.read i with
  | free =>
    rw [show reachSlot index i s = s by simp [reachSlot, hi]]
    exact
      { slots := slots s (by rw [hi]; exact stays hi)
        zones := fun z => others z (by rw [hi]; rfl)
        engine := by simp [hi, Slot.isSpare]
        stations := by simp [hi, adviseOwner]
        rest := rfl }
  | owned o =>
    rw [show reachSlot index i s = giveNotice o.station (.moveAdvised o.channel index)
      (setSlot i ((s.slots.read i).withSuspect (some index)) s) by simp [reachSlot, hi]]
    exact
      { slots := slots _ (by rw [hi]; rfl)
        zones := fun z => others z (by rw [hi]; rfl)
        engine := by simp [hi, Slot.isSpare]
        stations := by simp only [List.foldl, hi, adviseOwner]; rfl
        rest := rfl }
  | pinned p =>
    rw [show reachSlot index i s = setSlot i ((s.slots.read i).withSuspect (some index)) s by simp [reachSlot, hi]]
    exact
      { slots := slots _ (by rw [hi]; rfl)
        zones := fun z => others z (by rw [hi]; rfl)
        engine := by simp [hi, Slot.isSpare]
        stations := by simp [hi, adviseOwner]
        rest := rfl }
  | spare r =>
    rw [show reachSlot index i s = changeZone r.zone (fun zs => { zs with spares := zs.spares.filter (· ≠ i) }) (freeSlot i s)
      by simp [reachSlot, retireSlot, hi]]
    refine
      { slots := slots _ (by rw [hi]; rfl)
        zones := fun z => ?_
        engine := by simp only [List.any, hi, Slot.isSpare, Bool.true_or, if_true]; rfl
        stations := by simp [hi, adviseOwner]
        rest := rfl }
    rw [changeZone_zones, Table.read_change]
    split
    · rename_i hz
      show ZoneState.mk _ _ = ZoneState.mk _ _
      congr 1
      refine List.filter_congr fun j _ => ?_
      by_cases hj : j = i
      · simp [hj, hi, Slot.sparesZone, hz]
      · simp [hj]
    · rename_i hz
      exact others z (by rw [hi]; exact beq_eq_false_iff_ne.2 hz)

/-- Slots reached one after another, each once. -/
theorem reached_foldl (is : List (Fin 384)) (once : is.Nodup) (s : State) :
    Reached index is s (is.foldl (fun t i => reachSlot index i t) s) := by
  induction is generalizing s with
  | nil => exact reached_nil s
  | cons i is ih =>
    obtain ⟨new, once⟩ := List.nodup_cons.1 once
    rw [List.foldl_cons]
    have first := reached_reachSlot (index := index) i s
    have later := ih once (reachSlot index i s)
    have same : ∀ j ∈ is, (reachSlot index i s).slots.read j = s.slots.read j := fun j hj => by
      rw [first.slots, if_neg (by simpa using fun h : j = i => new (h ▸ hj))]
    have slots : ∀ j, (is.foldl (fun t i => reachSlot index i t) (reachSlot index i s)).slots.read j =
        if j ∈ i :: is then (s.slots.read j).reached index else s.slots.read j := fun j => by
      rw [later.slots]
      by_cases hj : j ∈ is
      · simp [hj, same j hj]
      · rw [if_neg hj, first.slots]
        simp [hj]
    refine { slots := slots, zones := fun z => ?_, engine := ?_, stations := ?_, rest := ?_ }
    · rw [later.zones, first.zones]
      show ZoneState.mk _ _ = ZoneState.mk _ _
      congr 1
      rw [List.filter_filter]
      refine List.filter_congr fun j _ => ?_
      by_cases hj : j ∈ is
      · have other : j ≠ i := fun h => new (h ▸ hj)
        simp [hj, same j hj, other]
      · simp [hj]
    · have spares : (is.any fun j => ((reachSlot index i s).slots.read j).isSpare) =
          is.any fun j => (s.slots.read j).isSpare := by
        rw [Bool.eq_iff_iff, List.any_eq_true, List.any_eq_true]
        exact exists_congr fun j => and_congr_right fun hj => by rw [same j hj]
      rw [later.engine, first.engine, spares]
      by_cases hi : (s.slots.read i).isSpare <;> simp [hi]
    · rw [later.stations, first.stations]
      exact List.foldl_ext _ _ _ fun stations j hj => by rw [same j hj]
    · have left := later.rest
      generalize is.foldl (fun t i => reachSlot index i t) (reachSlot index i s) = t at left
      refine left.trans ?_
      rw [first.rest]

/-- The numbers of the records that a test holds of, as a filter of all numbers. -/
theorem numbersWith_eq_filter {α : Type} {n : Nat} (u : Table α n) (p : α → Bool) :
    u.numbersWith p = (List.finRange n).filter fun i => p (u.read i) := by
  unfold Table.numbersWith
  rw [Table.entries_eq, List.filterMap_map, ← List.filterMap_eq_filter]
  rfl

/-- Some record of those that a test holds of has a property. -/
theorem any_numbersWith {α : Type} {n : Nat} (u : Table α n) (p q : α → Bool) :
    (u.numbersWith p).any (fun i => q (u.read i)) = u.toList.any fun x => q x && p x := by
  rw [numbersWith_eq_filter, List.any_filter, Table.toList_eq, List.any_map]
  exact congrArg (List.any _) (funext fun i => Bool.and_comm _ _)

end

/-- A carrier lies less than fg from the frequency or from the pending index. -/
def nearSlot (s : State) (x : Slot) (index : Nat) : Bool :=
  match x.frequency? with
  | none => false
  | some f => decide (((f : Int) - index).natAbs < s.plan.fg ∨ ∃ p ∈ x.pending?, ((p : Int) - index).natAbs < s.plan.fg)

theorem reachedBy_eq_nearSlot (s : State) (index : Nat) (x : Slot) : x.reachedBy s.plan.fg index = nearSlot s x index := by
  unfold Slot.reachedBy nearSlot
  cases x.frequency? with
  | none => rfl
  | some f =>
    dsimp only
    rw [decide_eq_decide]
    cases x.pending? with
    | none => simp [foreignDistance, distance]
    | some p => simp [foreignDistance, distance]

/-- What a confirmation comes to. -/
theorem reached_confirmForeign (index : Nat) (s : State) :
    ∃ t, Reached index (s.slots.numbersWith fun x => nearSlot s x index) (raise .foreignNew (advanceEpoch s)) t ∧
      confirmForeign index s =
        if s.slots.toList.any (fun x => x.isPinned && nearSlot s x index) then raise .pinnedSuspect t else t := by
  have near : Slot.reachedBy s.plan.fg index = fun x => nearSlot s x index := funext (reachedBy_eq_nearSlot s index)
  refine ⟨_, reached_foldl _ ?_ _, ?_⟩
  · rw [numbersWith_eq_filter]
    exact (List.nodup_finRange _).filter _
  · rw [← any_numbersWith, ← near]
    rfl

/-- A spare that is reached leaves its zone's list. -/
theorem spare_left_iff (s : State) (index : Nat) (z : Fin 16) (x : Slot) :
    (!(nearSlot s x index && x.sparesZone z)) =
      match x with
      | .spare r => !(r.zone == z && nearSlot s (.spare r) index)
      | .free => true
      | .owned _ => true
      | .pinned _ => true := by
  cases x with
  | spare r => exact congrArg _ (Bool.and_comm _ _)
  | free | owned | pinned => simp [Slot.sparesZone]

/-- The index that lies nearer, of a frequency and a pending index. -/
theorem foreignDistance_eq (f : Nat) (pending : Option Nat) (x : Nat) :
    foreignDistance f pending x =
      match pending with
      | none => ((f : Int) - x).natAbs
      | some p => min ((f : Int) - x).natAbs ((p : Int) - x).natAbs := by
  cases pending <;> rfl

/-- A slot sourced from an index takes the nearest CONFIRMED carrier left, measured from its nearer index (R149). -/
theorem dropEntry_confirmed {e : ForeignEntry} (confirmed : e.confirmed = true) (s : State) :
    dropEntry e s =
      let removed := setForeign (removeEntry e.index s.sweep.foreign) s
      { removed with
        slots := s.slots.each fun x =>
          if x.suspect? = some e.index then x.withSuspect (x.frequency?.bind fun f => nearestForeign removed f x.pending?)
          else x
        engine := { s.engine with barred := Table.filled 16 false } } := by
  have source : ∀ (u : State) (x : Slot),
      resourced u x = x.frequency?.bind fun f => nearestForeign u f x.pending? := fun u x => by
    unfold resourced
    cases x.frequency? <;> rfl
  unfold dropEntry reevaluate
  simp only [if_pos confirmed, Slot.sourcedFrom, beq_iff_eq, source]
  rfl

/-- A slot with a source holds the one that a suspect field is given (R38). -/
theorem withSuspect_of_sourced {x : Slot} {k : Nat} (sourced : x.suspect? = some k) (source : Option Nat) :
    (x.withSuspect source).suspect? = source := by
  cases x with
  | owned | pinned => rfl
  | free | spare => cases sourced

/-- A confirmation in one change of each part (R146, R147). -/
theorem confirmForeign_eq (index : Nat) (s : State) :
    ∃ (slots : Table Slot 384) (zones : Table ZoneState 16),
      (∀ i, slots.read i =
        if nearSlot s (s.slots.read i) index = true then (s.slots.read i).reached index else s.slots.read i) ∧
      (∀ z, zones.read z =
        { s.zones.read z with
          spares := (s.zones.read z).spares.filter fun i =>
            !(nearSlot s (s.slots.read i) index && (s.slots.read i).sparesZone z) }) ∧
      confirmForeign index s =
        { s with
          slots := slots
          zones := zones
          epoch := s.epoch + 1
          engine :=
            { (advanceEpoch s).engine with
              barred := if s.slots.toList.any (fun x => x.isSpare && nearSlot s x index) then Table.filled 16 false
                else s.engine.barred }
          stations :=
            ((List.finRange 384).filter fun i => nearSlot s (s.slots.read i) index).foldl
              (fun stations i => adviseOwner index (s.slots.read i) stations) s.stations
          console :=
            { s.console with
              flags :=
                if s.slots.toList.any (fun x => x.isPinned && nearSlot s x index) then s.console.flags ||| 0x04 ||| 0x10
                else s.console.flags ||| 0x04 } } := by
  obtain ⟨t, reached, run⟩ := reached_confirmForeign index s
  have spares := any_numbersWith s.slots (fun x => nearSlot s x index) Slot.isSpare
  have engine : t.engine =
      { (advanceEpoch s).engine with
        barred := if s.slots.toList.any (fun x => x.isSpare && nearSlot s x index) then Table.filled 16 false
          else s.engine.barred } := by
    rw [← spares]
    exact reached.engine
  have stations : t.stations = ((List.finRange 384).filter fun i => nearSlot s (s.slots.read i) index).foldl
      (fun stations i => adviseOwner index (s.slots.read i) stations) s.stations := by
    rw [← numbersWith_eq_filter s.slots fun x => nearSlot s x index]
    exact reached.stations
  refine ⟨t.slots, t.zones, fun i => ?_, fun z => ?_, ?_⟩
  · rw [reached.slots]
    simp only [Table.mem_numbersWith]
    rfl
  · rw [reached.zones]
    simp only [Table.mem_numbersWith, Bool.decide_eq_true]
    rfl
  · rw [run, ← engine, ← stations]
    have rest := reached.rest
    split
    · exact (congrArg (raise .pinnedSuspect) rest).trans rfl
    · exact rest

/-- A slot that names the removed carrier, read after the removal. -/
theorem dropEntry_suspect {e : ForeignEntry} (confirmed : e.confirmed = true) {s : State} {i : Fin 384}
    (sourced : (s.slots.read i).sourcedFrom e.index = true) :
    ((dropEntry e s).slots.read i).suspect? =
      resourced (setForeign (removeEntry e.index s.sweep.foreign) s) (s.slots.read i) := by
  have slots : (dropEntry e s).slots =
      (reevaluate e.index (setForeign (removeEntry e.index s.sweep.foreign) s)).slots := by
    unfold dropEntry
    simp only [if_pos confirmed]
    rfl
  rw [slots, show (reevaluate e.index _).slots.read i = _ from Table.read_each _ _ _]
  rw [show (setForeign (removeEntry e.index s.sweep.foreign) s).slots = s.slots from rfl, if_pos sourced]
  exact withSuspect_of_sourced (beq_iff_eq.1 sourced) _

/-- The slots that named a removed carrier, counted by what their suspect fields hold afterwards (R150). -/
theorem count_sourced {e : ForeignEntry} (confirmed : e.confirmed = true) (s : State) (source : Option Nat → Bool) :
    (s.slots.countWith fun x =>
        x.sourcedFrom e.index && source (resourced (setForeign (removeEntry e.index s.sweep.foreign) s) x)) =
      ((List.finRange 384).filter fun i =>
        decide (e.confirmed = true ∧ (s.slots.read i).suspect? = some e.index) &&
          source ((dropEntry e s).slots.read i).suspect?).length := by
  rw [Table.countWith_eq, List.countP_eq_length_filter]
  refine congrArg List.length (List.filter_congr fun i _ => ?_)
  have named : decide (e.confirmed = true ∧ (s.slots.read i).suspect? = some e.index) =
      (s.slots.read i).sourcedFrom e.index := by
    simp [confirmed, Slot.sourcedFrom, beq_eq_decide]
  rw [named]
  cases sourced : (s.slots.read i).sourcedFrom e.index with
  | false => rfl
  | true => rw [dropEntry_suspect confirmed sourced]

theorem dropCounts_eq (e : ForeignEntry) (s : State) :
    let after := fun source : Option Nat → Bool =>
      ((List.finRange 384).filter fun i =>
        decide (e.confirmed = true ∧ (s.slots.read i).suspect? = some e.index) &&
          source ((dropEntry e s).slots.read i).suspect?).length
    dropCounts e s = (after Option.isNone, after Option.isSome) := by
  unfold dropCounts
  by_cases confirmed : e.confirmed = true
  · rw [if_pos confirmed]
    exact Prod.ext (count_sourced confirmed s Option.isNone) (count_sourced confirmed s Option.isSome)
  · simp [confirmed]

/-- Settles O34: the slots reached one after another as one change of each, and a removal slot by slot. -/
theorem foreignCarriersReachAndLeaveSlots : Obligations.ForeignCarriersReachAndLeaveSlots := by
  unfold Obligations.ForeignCarriersReachAndLeaveSlots
  refine ⟨fun index s => ?_, fun e s => ?_, fun s f pending => ?_, fun index s => ?_⟩
  · obtain ⟨slots, zones, hslots, hzones, run⟩ := confirmForeign_eq index s
    refine ⟨slots, zones, hslots, fun z => (hzones z).trans ?_, run⟩
    simp only [spare_left_iff]
    rfl
  · dsimp only
    split
    · rename_i confirmed
      exact dropEntry_confirmed confirmed s
    · rename_i unconfirmed
      unfold dropEntry
      simp only [if_neg unconfirmed]
      rfl
  · have spec := nearestForeign_spec s f pending
    simp only [foreignDistance_eq, notFarther] at spec
    dsimp only
    split
    · rename_i none
      rw [none] at spec
      exact spec
    · rename_i x found
      rw [found] at spec
      obtain ⟨⟨e, he, hc, rfl⟩, near, least⟩ := spec
      exact ⟨e, he, hc, rfl, near, least⟩
  · show execDropForeign index s = _
    unfold execDropForeign
    by_cases grid : index.toNat < 9120
    · have on : onGrid index.toNat = true := decide_eq_true grid
      rw [if_pos grid, on]
      unfold entryAt
      cases s.sweep.foreign.find? fun d => d.index == index.toNat with
      | none => rfl
      | some e =>
        dsimp only
        rw [dropCounts_eq]
        rfl
    · have off : onGrid index.toNat = false := decide_eq_false grid
      rw [if_neg grid, off]
      rfl

end Sys2Proof.Machine
end

section
/-! ## Proofs: the station frames that ask about a slot -/

namespace Sys2Proof.Machine

-- One elaboration thread: the check's memory limit counts the stack of each.
set_option Elab.async false

section
variable {r : Fin 48} {ch : Fin 64} {i : Fin 384} {o : Owned} {s t : State}

/-- The slot of a station and channel that own one (R31). -/
theorem ownedSlot_of_unique (slot : s.slots.read i = .owned o) (station : o.station = r)
    (unique : ∀ j, (s.slots.read j).ownedBy r o.channel = true → j = i) : ownedSlot r o.channel s = some (i, o) := by
  have mine : (s.slots.read i).ownedBy r o.channel = true := by simp [slot, Slot.ownedBy, station]
  cases found : ownedSlot r o.channel s with
  | none =>
    rw [ownedSlot_eq_none found i] at mine
    cases mine
  | some e =>
    obtain ⟨j, p⟩ := e
    obtain ⟨read, rfl, channel⟩ := ownedSlot_eq_some found
    have same : j = i := unique j (by simp [read, Slot.ownedBy, channel])
    subst same
    rw [slot] at read
    cases read
    rfl

/-- A station and channel that own no slot. -/
theorem ownedSlot_of_none (unowned : ∀ i o, s.slots.read i = .owned o → o.station = r → o.channel ≠ ch) :
    ownedSlot r ch s = none := by
  cases found : ownedSlot r ch s with
  | none => rfl
  | some e =>
    obtain ⟨read, station, channel⟩ := ownedSlot_eq_some found
    exact absurd channel (unowned _ _ read station)

/-- A channel as a frame carries it (R190). -/
theorem numberBelow_channel (ch : Fin 64) : numberBelow 64 (BitVec.ofNat 8 ch.val).toNat = some ch := by
  have small : (BitVec.ofNat 8 ch.val).toNat = ch.val := by
    rw [BitVec.toNat_ofNat]
    exact Nat.mod_eq_of_lt (by omega)
  rw [small, numberBelow_of_lt ch.isLt]

/-- A frame of a named channel goes to its handler. -/
theorem withChannel_channel (r : Fin 48) (ch : Fin 64) (handle : Fin 64 → State → State) (s : State) :
    withChannel r (BitVec.ofNat 8 ch.val) handle s = handle ch s := by
  unfold withChannel
  rw [numberBelow_channel]

/-- A frame for a channel that owns no slot is refused, whether the channel can be named or not (R164). -/
theorem withChannel_unowned {ch : Byte} {handle : Fin 64 → State → State}
    (unowned : ∀ i o, s.slots.read i = .owned o → o.station = r → o.channel.val ≠ ch.toNat)
    (refused : ∀ c, ownedSlot r c s = none → handle c s = refuse r c .unknownChannel s) :
    withChannel r ch handle s = giveAnswer r (.refused ch .unknownChannel) s := by
  unfold withChannel
  by_cases h : ch.toNat < 64
  · rw [numberBelow_of_lt h]
    dsimp only
    rw [refused _ (ownedSlot_of_none fun i o read station same => unowned i o read station (congrArg Fin.val same))]
    unfold refuse
    rw [BitVec.ofNat_toNat, BitVec.setWidth_eq]
  · rw [numberBelow_of_not_lt h]

/-- A move's work joined to the queue before any REQUEST, and DEFER (R65, R68). -/
def joinedMove (r : Fin 48) (w : MoveWork) (t : State) : State :=
  { t with
    engine :=
      { t.engine with
        queue :=
          t.engine.queue.takeWhile (fun x => decide (x.rank ≤ 1)) ++
            .move w :: t.engine.queue.dropWhile (fun x => decide (x.rank ≤ 1))
        defer := t.engine.defer || decide (t.engine.upper ≤ t.engine.queue.length + 1) }
    console :=
      { t.console with
        flags :=
          if t.engine.defer = false ∧ t.engine.upper ≤ t.engine.queue.length + 1 then t.console.flags ||| 0x80
          else t.console.flags }
    stations := t.stations.change r (Option.map fun st => { st with openRequest := true }) }

theorem openStationWork_move (r : Fin 48) (w : MoveWork) (t : State) :
    openStationWork r (.move w) t = joinedMove r w t :=
  joinQueue_eq _ _

/-- A move that no spare serves: by the engine, if the queue has room (R109). -/
def moveByEngine (r : Fin 48) (i : Fin 384) (o : Owned) (t : State) : State :=
  if 24 ≤ t.engine.queue.length then giveAnswer r (.refused (BitVec.ofNat 8 o.channel.val) .busy) t
  else joinedMove r { station := r, channel := o.channel, slot := i, profile := o.profile, zone := o.zone } t

/-- A move by a spare: the spare's slot is retired and its index is the moving slot's pending index (R108). -/
def moveBySpare (r : Fin 48) (i j : Fin 384) (o : Owned) (sp : Spare) (t : State) : State :=
  giveAnswer r (.moveTo o.channel sp.frequency)
    (setSlot i
      (.owned { o with move := some { pending := sp.frequency, counter := { count := t.timing.moveTime, owed := 0 } } })
      (retireSlot none j t))

/-- MOVE intake from the spare on, after the slot's move was dropped or as the slot stands (R108, R109). -/
theorem moveOnward_eq {m : Option MoveWindow} (before : s.slots.read i = .owned o)
    (slots : t.slots = s.slots.write i (.owned { o with move := m })) (zones : t.zones = s.zones) :
    moveOnward r o.channel i o t =
      match (s.zones.read o.zone).spares with
      | j :: _ =>
        match s.slots.read j with
        | .spare sp => if sp.profile = o.profile then moveBySpare r i j o sp t else moveByEngine r i o t
        | _ => moveByEngine r i o t
      | [] => moveByEngine r i o t := by
  have slot : t.slots.read i = .owned { o with move := m } := by rw [slots, Table.read_write_self]
  have others : ∀ j, j ≠ i → t.slots.read j = s.slots.read j := fun j apart => by
    rw [slots, Table.read_write_of_ne _ (Ne.symm apart)]
  have engine : fittingSpare t o.zone o.profile = none → moveOnward r o.channel i o t = moveByEngine r i o t := fun none => by
    unfold moveOnward moveByEngine
    rw [none, ← openStationWork_move]
    by_cases full : 24 ≤ t.engine.queue.length
    · have room : queueHasRoom t = false := decide_eq_false (Nat.not_lt.2 full)
      simp only [room, if_pos full]
      rfl
    · have room : queueHasRoom t = true := decide_eq_true (Nat.lt_of_not_le full)
      simp only [room, if_neg full]
      rfl
  have spare : ∀ j sp, j ≠ i → fittingSpare t o.zone o.profile = some (j, sp) →
      moveOnward r o.channel i o t = moveBySpare r i j o sp t := fun j sp apart found => by
    unfold moveOnward moveBySpare
    rw [found]
    dsimp only
    rw [retireSlot_slots_read, if_neg apart, slot]
    simp [openMove, loaded]
  rw [← zones]
  cases listed : (t.zones.read o.zone).spares with
  | nil => exact engine (by simp [fittingSpare, listed])
  | cons j rest =>
    dsimp only
    by_cases apart : j = i
    · rw [apart, before]
      exact engine (by simp [fittingSpare, listed, apart, slot])
    · rw [← others j apart]
      cases held : t.slots.read j with
      | spare sp =>
        dsimp only
        split
        · rename_i fits
          exact spare j sp apart (by simp [fittingSpare, listed, held, fits])
        · rename_i other
          exact engine (by simp [fittingSpare, listed, held, other])
      | free | owned | pinned => exact engine (by simp [fittingSpare, listed, held])

/-- The suspect pending index of an open move (R38). -/
theorem suspectPending_iff {w : MoveWindow} (move : o.move = some w) :
    suspectPending s o = true ↔ ∃ x ∈ o.suspect, ((w.pending : Int) - x).natAbs < s.plan.fg := by
  unfold suspectPending
  rw [move]
  cases o.suspect with
  | none => simp
  | some x =>
    simp only [Option.mem_some_iff, exists_eq_left']
    exact decide_eq_true_iff

/-- What is asked of a spare list and a slot is the same after a pending index is dropped. -/
theorem dropPending_eq (slot : s.slots.read i = .owned o) :
    dropPending i s =
      { s with
        slots := s.slots.write i (.owned { o with move := none })
        engine := { s.engine with barred := Table.filled 16 false } } := by
  unfold dropPending
  rw [slot]
  rfl

/-- A confirmed move, in one change of each part (R110). -/
theorem handleConfirm_eq {w : MoveWindow} (found : ownedSlot r o.channel s = some (i, o)) (move : o.move = some w) :
    handleConfirm r o.channel s =
      giveAnswer r (.confirmed o.channel w.pending)
        { s with
          slots := s.slots.write i
            (.owned { o with frequency := w.pending, move := none, suspect := nearestForeign s w.pending none })
          engine := { s.engine with barred := Table.filled 16 false }
          stations := s.stations.change r (Option.map fun x =>
            let withdrawn : Station := { x with notices := x.notices.filter fun q => staysAfterRetirement o.channel q.notice }
            match nearestForeign s w.pending none with
            | none => withdrawn
            | some n => withdrawn.takeNotice (.moveAdvised o.channel n)) } := by
  unfold handleConfirm
  rw [found]
  dsimp only
  rw [move]
  dsimp only
  unfold withdrawAdvice confirmSlot
  simp only [not_isAdvice]
  cases nearestForeign s w.pending none with
  | none => rfl
  | some n =>
    unfold giveNotice
    dsimp only
    rw [changeStation_changeStation]
    rfl

end

/-- Settles O42: each frame's handler at the one slot that the channel owns, or at none. -/
theorem slotFramesAreAnswered : Obligations.SlotFramesAreAnswered := by
  unfold Obligations.SlotFramesAreAnswered
  refine ⟨fun r ch f s frame unowned => ?_, fun r st i o s present slot station unique => ?_, fun r s => rfl,
    fun r st force s present => ?_⟩
  · rcases frame with rfl | rfl | rfl | rfl
    · exact withChannel_unowned unowned fun c none => by unfold handleRelease; rw [none]
    · exact withChannel_unowned unowned fun c none => by unfold handleMove; rw [none]
    · exact withChannel_unowned unowned fun c none => by unfold handleConfirm; rw [none]
    · exact withChannel_unowned unowned fun c none => by unfold handleQuery; rw [none]
  · have found : ownedSlot r o.channel s = some (i, o) := ownedSlot_of_unique slot station unique
    refine ⟨?_, ?_, ?_, ?_⟩
    · refine (withChannel_channel r o.channel (handleRelease r) s).trans ?_
      unfold handleRelease
      rw [found]
      rfl
    · refine (withChannel_channel r o.channel (handleQuery r) s).trans ?_
      unfold handleQuery
      rw [found]
      have lapsed : (o.state != .active) = decide (o.state ≠ .active) := by simp [bne, beq_eq_decide]
      dsimp only
      rw [lapsed]
      rfl
    · refine (withChannel_channel r o.channel (handleMove r) s).trans ?_
      unfold handleMove requestOpen
      rw [found, present]
      dsimp only
      split
      · rfl
      · cases move : o.move with
        | none =>
          have stays : s.slots = s.slots.write i (.owned { o with move := o.move }) := by
            rw [show (.owned { o with move := o.move } : Slot) = s.slots.read i from slot.symm]
            exact (table_write_read _ i).symm
          exact moveOnward_eq slot stays rfl
        | some w =>
          dsimp only
          rw [dropPending_eq slot]
          simp only [suspectPending_iff move]
          split
          · exact moveOnward_eq (m := none) slot rfl rfl
          · rfl
    · refine (withChannel_channel r o.channel (handleConfirm r) s).trans ?_
      cases move : o.move with
      | none =>
        unfold handleConfirm
        rw [found]
        dsimp only
        rw [move]
        rfl
      | some w =>
        refine (handleConfirm_eq found move).trans ?_
        rfl
  · show handleChangeover r force s = _
    unfold handleChangeover
    rw [present]
    dsimp only
    cases st.authority with
    | false => rfl
    | true => cases changeoverZone st.zone force s <;> rfl

end Sys2Proof.Machine
end

section
/-! ## Proofs: completions of searches, checked PINs and audits -/

namespace Sys2Proof.Machine

-- One elaboration thread: the check's memory limit counts the stack of each.
set_option Elab.async false

section
variable {s : State} {job : Job} {c : SearchContext} {f : Nat}

/-- What a completion does that finds the epoch moved (R75, R77): a re-test, a full re-search, or RETRY. -/
def retried (job : Job) (c : SearchContext) (f : Nat) (s : State) : State :=
  if c.research < 2 then
    if c.stage = .found f then setContext job { c with e0 := s.epoch, moved := false, stage := .retestDue f } s
    else beginWalk job (c.research + 1) s
  else closeSearch job .retry s

/-- The completion of the search that the engine makes, in terms of what it found (R75, R80). -/
theorem exec_searchCompletion (active : activeSearch s = some (job, c)) (stage : c.stage = .found f ∨ c.stage = .retested f) :
    exec .searchCompletion s = .next (startRefill
      (if moveGone job s = true then closeSearch job .unknownChannel s
      else if c.moved = false then recordFound job f s
      else retried job c f s)) := by
  show execSearchCompletion s = _
  unfold execSearchCompletion
  rw [active]
  dsimp only
  rcases stage with stage | stage
  · rw [stage]
    simp [completeSearch, retried, stage]
  · rw [stage]
    simp [completeSearch, retried, stage, fullResearch]

/-- The slot that a grant writes, field by field (R31). -/
theorem grantSlot_eq (s : State) (w : RequestWork) (f : Nat) :
    grantSlot s w f =
      let lapsed := (s.stations.read w.station).any fun st => decide (st.leaseState = .lapsed)
      let hold := if 0 < s.timing.hold then some { count := s.timing.hold, owed := 0 } else none
      .owned
        { state := if lapsed = true then .stale hold else .active, frequency := f, move := none,
          profile := w.profile, zone := stationZone s w.station, station := w.station, channel := w.channel,
          phase := w.phase,
          label := (w.label.take 12).map fun b => if 32 ≤ b.toNat ∧ b.toNat ≤ 126 then b else 63,
          suspect := none, conflict := false } := by
  have label : grantLabel w.label = (w.label.take 12).map fun b => if 32 ≤ b.toNat ∧ b.toNat ≤ 126 then b else 63 := by
    simp only [grantLabel, printable, Bool.and_eq_true, decide_eq_true_eq]
    rfl
  unfold grantSlot
  rw [label]
  cases s.stations.read w.station with
  | none => rfl
  | some st => cases lease : st.leaseState <;> simp [lease, staleHold, loaded]

/-- A grant recorded (R31, R79). -/
theorem recordGrant_eq {w : RequestWork} {i : Fin 384} (lowest : lowestFree s = some i) :
    recordGrant w f s =
      { s with
        slots := s.slots.write i (grantSlot s w f)
        epoch := s.epoch + 1
        engine :=
          { s.engine with
            foreground := none
            background := s.engine.background.map fun b => { b with context := { b.context with moved := true } } }
        stations := s.stations.change w.station (Option.map fun st =>
          { st with
            held := st.held + 1, answers := st.answers ++ [.granted w.channel f false], openRequest := false }) } := by
  unfold recordGrant
  rw [lowest]
  dsimp only
  rw [answerWork_eq]
  simp only [advanceEpoch, raiseHeld, changeStation, Table.change_change, Option.map_comp_map]
  rfl

/-- A move recorded (R80). -/
theorem recordMove_eq {w : MoveWork} {o : Owned} (slot : s.slots.read w.slot = .owned o) :
    recordMove w f s =
      { s with
        slots := s.slots.write w.slot (.owned
          { o with move := some { pending := f, counter := { count := s.timing.moveTime, owed := 0 } } })
        epoch := s.epoch + 1
        engine :=
          { s.engine with
            foreground := none
            background := s.engine.background.map fun b => { b with context := { b.context with moved := true } } }
        stations := s.stations.change w.station (Option.map fun st =>
          { st with answers := st.answers ++ [.moveTo w.channel f], openRequest := false }) } := by
  unfold recordMove
  rw [answerWork_eq, slot]
  rfl

/-- A spare recorded (R83). -/
theorem recordSpare_eq {z : Fin 16} {i : Fin 384} (lowest : lowestFree s = some i) (idle : s.engine.foreground = none) :
    recordSpare z f s =
      { s with
        slots := s.slots.write i (.spare
          { frequency := f, profile := (s.plan.zones.read z).spareProfile, zone := z, conflict := false })
        zones := s.zones.change z fun zs => { zs with spares := zs.spares ++ [i] }
        epoch := s.epoch + 1
        engine := { s.engine with background := none } } := by
  unfold recordSpare
  rw [lowest]
  simp only [leaveBackground, advanceEpoch, changeZone, setSlot, idle, Option.map_none]

end

/-- Settles O24: the completion by what the search found and by whose search it is. -/
theorem searchCompletionRecordsOrRetests : Obligations.SearchCompletionRecordsOrRetests := by
  unfold Obligations.SearchCompletionRecordsOrRetests
  refine ⟨fun s w c f held stage => ?_, fun s w c f held stage => ⟨fun o slot station channel => ?_, fun gone => ?_⟩,
    fun s b f idle held stage => ?_, fun s none => ?_⟩
  · have active : activeSearch s = some (.request w, c) := by simp [activeSearch, held]
    refine ⟨_, exec_searchCompletion active stage, ?_⟩
    split
    · show ((∀ i, s.slots.read i ≠ .free) → recordGrant w f s = _) ∧ ∀ i, _ → _ → recordGrant w f s = _
      refine ⟨fun full => ?_, fun i free lowest => ?_⟩
      · unfold recordGrant
        rw [(lowestFree_eq_none s).2 full]
      · rw [recordGrant_eq ((lowestFree_eq_some s i).2 ⟨free, lowest⟩), grantSlot_eq]
    · rfl
  · have active : activeSearch s = some (.move w, c) := by simp [activeSearch, held]
    have here : moveGone (.move w) s = false := by simp [moveGone, stillMoving, slot, Slot.ownedBy, station, channel]
    rw [exec_searchCompletion active stage, here]
    refine congrArg (fun t => Host.Outcome.next (startRefill t)) ?_
    show (if c.moved = false then recordMove w f s else _) = _
    rw [recordMove_eq slot]
    rfl
  · have active : activeSearch s = some (.move w, c) := by simp [activeSearch, held]
    have gone : moveGone (.move w) s = true := by simp [moveGone, stillMoving, gone]
    rw [exec_searchCompletion active stage, gone]
    rfl
  · by_cases due : s.engine.queue = [] ∧ s.console.mode = .run
    · have active : activeSearch s = some (.refill b.zone, b.context) := by
        simp [activeSearch, idle, held, inRun, due.1, due.2]
      refine ⟨_, exec_searchCompletion active stage, ?_⟩
      rw [if_pos due]
      split
      · show ((∀ i, s.slots.read i ≠ .free) → startRefill (recordSpare b.zone f s) = _) ∧
          ∀ i, _ → _ → startRefill (recordSpare b.zone f s) = _
        refine ⟨fun full => ?_, fun i free lowest => ?_⟩
        · unfold recordSpare
          rw [(lowestFree_eq_none s).2 full]
        · rw [recordSpare_eq ((lowestFree_eq_some s i).2 ⟨free, lowest⟩) idle]
      · rfl
    · have inactive : activeSearch s = none := by
        simp only [activeSearch, idle]
        exact if_neg fun run => due (by simpa [inRun] using run)
      refine ⟨s, ?_, if_neg due ▸ rfl⟩
      show execSearchCompletion s = _
      unfold execSearchCompletion
      rw [inactive]
  · show execSearchCompletion s = _
    unfold execSearchCompletion
    split
    · rename_i job c active
      have other := none job c
      split
      · rename_i f stage
        exact absurd stage (other f active).1
      · rename_i f stage
        exact absurd stage (other f active).2
      · rfl
      · rfl
    · rfl

end Sys2Proof.Machine
end

section
namespace Sys2Proof.Machine

-- One elaboration thread: the check's memory limit counts the stack of each.
set_option Elab.async false

/-! ### Checked PINs (R89) and audits (R90, R91) -/

section
variable {s : State} {w : PinWork} {c : SearchContext}

/-- The completion of a checked PIN, in terms of what it found (R89). -/
theorem exec_checkedPinCompletion (held : s.engine.foreground = some (.pin w c))
    (stage : c.stage = .found w.index ∨ c.stage = .retested w.index) :
    exec .checkedPinCompletion s = .next (startRefill
      (if c.moved = false then recordCheckedPin w s
      else if 2 ≤ c.research then closePin .retry s
      else if c.stage = .found w.index then
        { s with
          engine :=
            { s.engine with
              foreground := some (.pin w { c with e0 := s.epoch, moved := false, stage := .retestDue w.index }) } }
      else beginPin w (c.research + 1) s)) := by
  show execCheckedPinCompletion s = _
  unfold execCheckedPinCompletion
  rw [held]
  dsimp only
  rcases stage with stage | stage
  · rw [stage]
    simp [completePin]
  · rw [stage]
    simp [completePin]

/-- A visit finds a slot in conflict when one of its carriers fails T2 to T5 against the other slots' (R90). -/
theorem auditFinds_iff (s : State) (i : Fin 384) :
    auditFinds s i = true ↔ ∃ c, isCarrier s none c ∧ c.slot = i ∧
      (testExclusion s c.index ≠ none ∨ testForeign s c.index ≠ none ∨
        testSpacing s c.profile c.zone (carriersBut s (some i)) c.index ≠ none ∨
        testProducts s c.profile c.zone (carriersBut s (some i)) c.index ≠ none) := by
  have carrier : ∀ c, c ∈ slotCarriers i (s.slots.read i) ↔ isCarrier s none c ∧ c.slot = i := fun c => by
    rw [mem_slotCarriers]
    unfold isCarrier
    constructor
    · rintro ⟨rfl, h⟩
      exact ⟨⟨nofun, h⟩, rfl⟩
    · rintro ⟨⟨-, h⟩, rfl⟩
      exact ⟨rfl, h⟩
  unfold auditFinds auditFails
  simp only [List.any_eq_true, carrier, Bool.or_eq_true, Option.isSome_iff_ne_none, or_assoc, and_assoc]

end

/-- Settles O26: the completion by the epoch rule, and each visit by what it finds at its slot. -/
theorem checkedPinsAndAuditsRunToTheirResult : Obligations.CheckedPinsAndAuditsRunToTheirResult := by
  unfold Obligations.CheckedPinsAndAuditsRunToTheirResult
  refine ⟨fun s w c held stage => ?_, fun s n flagged h held => ?_, fun s none => ?_, fun s none => ?_⟩
  · refine ⟨_, exec_checkedPinCompletion held stage, ?_⟩
    split
    · unfold recordCheckedPin
      refine ⟨fun full => ?_, fun i free lowest => ?_⟩
      · rw [(lowestFree_eq_none s).2 full]
        rfl
      · rw [(lowestFree_eq_some s i).2 ⟨free, lowest⟩]
        rfl
    · split
      · rfl
      · split
        · rfl
        · unfold beginPin evaluatePin
          refine ⟨fun x fails => ?_, fun passes => ?_⟩
          · rw [fails]
            rfl
          · rw [passes]
            exact ⟨_, rfl, rfl, rfl, rfl, rfl⟩
  · refine ⟨auditFinds s ⟨n, h⟩, auditFinds_iff s ⟨n, h⟩, ?_⟩
    show execAuditVisit s = _
    unfold execAuditVisit
    rw [held]
    dsimp only
    unfold auditVisit
    rw [dif_pos h]
    dsimp only
    by_cases more : n + 1 < 384
    · rw [if_pos more, if_pos more, startRefill_of_foreground (by simp)]
      rfl
    · rw [if_neg more, if_neg more]
      rfl
  · show execCheckedPinCompletion s = _
    unfold execCheckedPinCompletion
    split
    · rename_i w c held
      split
      · rename_i f stage
        exact absurd stage (none w c f held).1
      · rename_i f stage
        exact absurd stage (none w c f held).2
      · rfl
      · rfl
    · rfl
  · show execAuditVisit s = _
    unfold execAuditVisit
    split
    · rename_i n flagged held
      exact absurd held (none n flagged)
    · rfl

end Sys2Proof.Machine
end

section
/-! ## Proofs: the mode requests -/

namespace Sys2Proof.Machine

-- One elaboration thread: the check's memory limit counts the stack of each.
set_option Elab.async false

/-! ### Every branch changed in turn -/

/-- Tables that read alike are equal. -/
theorem table_ext {α : Type} {n : Nat} {t u : Table α n} (h : ∀ i, t.read i = u.read i) : t = u :=
  Vector.ext fun i hi => h ⟨i, hi⟩

/-- Branches changed in turn, each once and by a function of its number. -/
theorem changeBranches_read (f : Fin 4 → Branch → Branch) (bs : List (Fin 4)) (once : bs.Nodup) (s : State) (c : Fin 4) :
    (bs.foldl (fun t b => changeBranch b (f b) t) s).branches.read c =
      if c ∈ bs then f c (s.branches.read c) else s.branches.read c := by
  induction bs generalizing s with
  | nil => simp
  | cons b bs ih =>
    obtain ⟨new, once⟩ := List.nodup_cons.1 once
    rw [List.foldl_cons, ih once, changeBranch_branches, Table.read_change]
    by_cases hb : b = c
    · subst hb
      simp [new]
    · simp [hb, Ne.symm hb]

/-- Branches changed in turn change nothing else. -/
theorem changeBranches_eq (f : Fin 4 → Branch → Branch) (bs : List (Fin 4)) (s : State) :
    bs.foldl (fun t b => changeBranch b (f b) t) s =
      { s with branches := (bs.foldl (fun t b => changeBranch b (f b) t) s).branches } := by
  induction bs generalizing s with
  | nil => rfl
  | cons b bs ih =>
    rw [List.foldl_cons]
    exact (ih _).trans rfl

/-- All branches changed. -/
theorem changeBranches_all (f : Branch → Branch) (s : State) :
    (List.finRange 4).foldl (fun t b => changeBranch b f t) s = { s with branches := s.branches.each f } := by
  rw [changeBranches_eq (fun _ => f)]
  have each : ((List.finRange 4).foldl (fun t b => changeBranch b f t) s).branches = s.branches.each f :=
    table_ext fun c => by
      rw [changeBranches_read (fun _ => f) _ (List.nodup_finRange 4)]
      simp
  rw [each]

/-! ### Work abandoned (R92, R93) -/

theorem closeRequests_eq (rs : List (Fin 48)) (s : State) :
    rs.foldl (fun t r => closeRequest r t) s =
      { s with
        stations := rs.foldl (fun t r => t.change r (Option.map fun st => { st with openRequest := false })) s.stations } := by
  induction rs generalizing s with
  | nil => rfl
  | cons r rs ih =>
    rw [List.foldl_cons, List.foldl_cons]
    exact (ih _).trans rfl

/-- Outcomes placed one after another: the last stays, and the number counts them (R179). -/
theorem placeResults_eq (ks : List HostKind) (s : State) :
    ks.foldl (fun t k => placeResult k .abandoned t) s =
      { s with
        console :=
          { s.console with
            openRequest := if ks = [] then s.console.openRequest else false
            result :=
              { number := s.console.result.number + BitVec.ofNat 8 ks.length
                entry := match ks.getLast? with
                  | some k => some (k, .abandoned)
                  | none => s.console.result.entry }
            flags := if ks = [] then s.console.flags else s.console.flags ||| 0x01 } } := by
  induction ks using List.reverseRecOn with
  | nil => simp
  | append_singleton ks k ih =>
    have one : BitVec.ofNat 8 (ks.length + 1) = BitVec.ofNat 8 ks.length + 1#8 := BitVec.ofNat_add _ _
    have flags : (if ks = [] then s.console.flags else s.console.flags ||| 0x01) ||| 0x01 = s.console.flags ||| 0x01 := by
      split
      · rfl
      · rw [BitVec.or_assoc, BitVec.or_self]
    rw [List.foldl_concat, ih]
    simp only [placeResult, raise, attentionBit, List.length_append, List.length_singleton, List.getLast?_concat, one,
      flags, List.append_eq_nil_iff, List.cons_ne_nil, and_false, if_false, BitVec.add_assoc]
    rfl

/-- All engine work abandoned, in one change of each part (R92, R93). -/
theorem abandonWork_eq (s : State) :
    abandonWork s =
      let console := openHostKinds s.engine
      { s with
        engine := { s.engine with queue := [], foreground := none, background := none, defer := false }
        stations := (openStations s.engine).foldl
          (fun t r => t.change r (Option.map fun st => { st with openRequest := false })) s.stations
        console :=
          { s.console with
            openRequest := if console = [] then s.console.openRequest else false
            result :=
              { number := s.console.result.number + BitVec.ofNat 8 console.length
                entry := match console.getLast? with
                  | some k => some (k, .abandoned)
                  | none => s.console.result.entry }
            flags := if console = [] then s.console.flags else s.console.flags ||| 0x01 } } := by
  unfold abandonWork
  rw [closeRequests_eq]
  dsimp only
  rw [placeResults_eq]

/-- STOP in RUN, in one change of each part (R92, R94, R158, R177). -/
theorem stopPart_eq (s : State) :
    stopPart s =
      { abandonWork s with
        slots := s.slots.each (Slot.eachCounter TickCounter.settle)
        zones := s.zones.each fun z => { z with clearing := z.clearing.map TickCounter.settle }
        stations := (abandonWork s).stations.each (Option.map fun st => { st with lease := st.lease.settle })
        branches := s.branches.each fun br => { br with activity := .idle }
        console := { (abandonWork s).console with mode := .config } } := by
  have polling : ∀ t : State, (List.finRange 4).foldl (fun t b => stopPolling b t) t =
      { t with branches := t.branches.each fun br => { br with activity := .idle } } := fun t => changeBranches_all _ t
  unfold stopPart
  rw [polling]
  unfold stopTick setMode
  simp only [abandonWork_frame]

/-! ### Rounds begun at START (R158, R159) -/

/-- A branch at START: a RUNNING one begins a round, or its gap when no station of it has an address above 0. -/
def startedBranch (stations : Table (Option Station) 48) (b : Fin 4) (br : Branch) : Branch :=
  if br.state = .running then
    { br with
      roundCount := 0
      activity :=
        if stations.toList.any (fun x => x.any fun st => st.branch == b && decide (0 < st.address)) then .inRound 0
        else .gap true }
  else br

theorem foldl_lowerAddress_isSome (l : List (Fin 48 × Station)) (best : Option (Fin 48 × Station)) :
    (l.foldl lowerAddress best).isSome = true ↔ best.isSome = true ∨ l ≠ [] := by
  induction l generalizing best with
  | nil => simp
  | cons e l ih =>
    have found : (lowerAddress best e).isSome = true := by
      unfold lowerAddress
      cases best with
      | none => rfl
      | some x => dsimp only; split <;> rfl
    rw [List.foldl_cons, ih]
    simp [found]

/-- In a round whose count is 0 every station of the branch is due (R159). -/
theorem nextStation_isSome {b : Fin 4} {s : State} (count : (s.branches.read b).roundCount = 0) :
    (nextStation b 0 s).isSome =
      s.stations.toList.any (fun x => x.any fun st => st.branch == b && decide (0 < st.address)) := by
  have due : ∀ st, stationDue 0 st = true := fun st => by simp [stationDue]
  have listed : ∀ x : Option Station, pollable b 0 0 x = x.any fun st => st.branch == b && decide (0 < st.address) :=
    fun x => by
      cases x with
      | none => rfl
      | some st =>
        show (st.branch == b && decide (0 < st.address) && stationDue 0 st) = _
        rw [due, Bool.and_true]
        rfl
  rw [Bool.eq_iff_iff, nextStation, foldl_lowerAddress_isSome, count, List.any_eq_true, Table.entries_eq, Table.toList_eq]
  simp only [← listed]
  constructor
  · intro h
    obtain ⟨e, he⟩ := List.exists_mem_of_ne_nil _ (h.resolve_left nofun)
    obtain ⟨a, ha, hf⟩ := List.mem_filterMap.1 he
    obtain ⟨r, hr, rfl⟩ := List.mem_map.1 ha
    refine ⟨_, List.mem_map_of_mem hr, ?_⟩
    split at hf
    · rename_i st present
      split_ifs at hf with due
      exact (congrArg (pollable b 0 0) present).trans due
    · cases hf
  · rintro ⟨x, hx, due⟩
    obtain ⟨r, hr, rfl⟩ := List.mem_map.1 hx
    cases present : s.stations.read r with
    | none =>
      rw [present] at due
      cases due
    | some st =>
      rw [present] at due
      refine .inr (List.ne_nil_of_mem (a := (r, st)) (List.mem_filterMap.2 ⟨_, List.mem_map_of_mem hr, ?_⟩))
      dsimp only
      rw [present]
      exact if_pos due

/-- A branch changed alike. -/
theorem changeBranch_congr {b : Fin 4} {f g : Branch → Branch} {s : State}
    (h : f (s.branches.read b) = g (s.branches.read b)) : changeBranch b f s = changeBranch b g s := by
  unfold changeBranch Table.change
  rw [h]

theorem changeBranch_changeBranch (b : Fin 4) (f g : Branch → Branch) (s : State) :
    changeBranch b g (changeBranch b f s) = changeBranch b (g ∘ f) s := by
  simp [changeBranch, Table.change_change]

theorem startBranch_eq (b : Fin 4) (s : State) :
    startBranch b s = changeBranch b (startedBranch s.stations b) s := by
  unfold startBranch
  split
  · rename_i running
    have counted : ((changeBranch b (fun br => { br with roundCount := 0 }) s).branches.read b).roundCount = 0 := by
      rw [changeBranch_branches, Table.read_change, if_pos rfl]
    unfold beginRound continueRound
    rw [nextStation_isSome counted, show (changeBranch b _ s).stations = s.stations from rfl]
    unfold setActivity
    split
    · rename_i found
      rw [changeBranch_changeBranch]
      refine changeBranch_congr ?_
      unfold startedBranch
      rw [if_pos running, if_pos found]
      rfl
    · rename_i none
      rw [changeBranch_changeBranch]
      refine changeBranch_congr ?_
      unfold startedBranch
      rw [if_pos running, if_neg none]
      rfl
  · rename_i other
    have stays : changeBranch b id s = s := by
      unfold changeBranch Table.change
      rw [show s.branches.write b (id (s.branches.read b)) = s.branches from table_write_read _ b]
    refine stays.symm.trans (changeBranch_congr ?_)
    unfold startedBranch
    rw [if_neg other]
    rfl

/-- Every branch at START. -/
theorem startBranches_eq (s : State) :
    ∃ branches : Table Branch 4, (∀ b, branches.read b = startedBranch s.stations b (s.branches.read b)) ∧
      (List.finRange 4).foldl (fun t b => startBranch b t) s = { s with branches := branches } := by
  have run : ∀ (bs : List (Fin 4)) (t : State), t.stations = s.stations → bs.foldl (fun t b => startBranch b t) t =
      bs.foldl (fun t b => changeBranch b (startedBranch s.stations b) t) t := fun bs => by
    induction bs with
    | nil => exact fun _ _ => rfl
    | cons b bs ih =>
      intro t stations
      rw [List.foldl_cons, List.foldl_cons, startBranch_eq, stations]
      exact ih _ stations
  rw [run _ s rfl]
  refine ⟨_, fun b => ?_, changeBranches_eq _ _ s⟩
  rw [changeBranches_read _ _ (List.nodup_finRange 4), if_pos (List.mem_finRange b)]

/-- Settles O44: START's rounds branch by branch, and the abandoned work as one change of each part. -/
theorem modeRequestsStartStopAndClear : Obligations.ModeRequestsStartStopAndClear := by
  unfold Obligations.ModeRequestsStartStopAndClear
  refine ⟨fun s => ⟨fun run => ?_, fun config => ?_⟩, fun s => ?_, fun s => ?_⟩
  · show execStart s = _
    unfold execStart
    rw [if_pos (by simp [inRun, run])]
    rfl
  · obtain ⟨branches, read, begun⟩ := startBranches_eq (setMode .run s)
    refine ⟨branches, startRefill (takeWork { setMode .run s with branches := branches }), read, rfl, ?_⟩
    show execStart s = _
    unfold execStart startPart
    rw [if_neg (by simp [inRun, config]), begun]
    rfl
  · show execStop s = _
    unfold execStop
    by_cases run : s.console.mode = .run
    · rw [if_pos (by simp [inRun, run]), if_pos run, stopPart_eq, abandonWork_eq]
      rfl
    · rw [if_neg (by simpa [inRun] using run), if_neg run]
      rfl
  · show execClear s = _
    unfold execClear clearPart
    by_cases run : s.console.mode = .run
    · rw [if_pos (by simp [inRun, run]), if_pos run, stopPart_eq, abandonWork_eq]
      rfl
    · rw [if_neg (by simpa [inRun] using run), if_neg run, abandonWork_eq]
      rfl

end Sys2Proof.Machine
end

section
/-! ## Proofs: the evaluation of an index

What each of the six tests answers, as a failure found or as none, and with it what an evaluation passes and names. -/

namespace Sys2Proof.Machine

-- One elaboration thread: the check's memory limit counts the stack of each.
set_option Elab.async false

section
variable {s : State} {p z : Fin 16} {leftOut : Option (Fin 384)} {f : Nat}

/-! ### What a test that finds nothing says -/

/-- T2 finds no band (R56). -/
theorem testExclusion_eq_none :
    testExclusion s f = none ↔ ∀ b ∈ s.plan.exclusions, ¬((b.lo : Int) - s.plan.g ≤ f ∧ (f : Int) ≤ b.hi + s.plan.g) := by
  simp only [testExclusion, Option.map_eq_none_iff, List.findIdx?_eq_none_iff, Bool.eq_false_iff, ne_eq,
    inGuardedBand_iff]

/-- T3 finds no CONFIRMED carrier (R57). -/
theorem testForeign_eq_none :
    testForeign s f = none ↔
      ∀ e ∈ s.sweep.foreign, ¬(e.confirmed = true ∧ ((f : Int) - e.index).natAbs < s.plan.fg) := by
  simp only [testForeign, Option.map_eq_none_iff, List.find?_eq_none, Bool.and_eq_true, decide_eq_true_eq]
  exact Iff.rfl

/-- T4 finds no carrier (R58). -/
theorem testSpacing_eq_none :
    testSpacing s p z (carriersBut s leftOut) f = none ↔ ∀ c, isCarrier s leftOut c → tooNear s p z f c ≠ true := by
  simp only [testSpacing, Option.map_eq_none_iff, List.find?_eq_none, mem_carriersBut, ne_eq]

/-- A search for a pair of carriers finds none (R53, R60, R61). -/
theorem findPair_eq_none {β : Type} (bad : Carrier → Carrier → Bool) (g : Carrier → Carrier → β) :
    ((carriersBut s leftOut).findSome? fun a =>
        ((carriersBut s leftOut).find? fun b => pairCounts s z a b && bad a b).map (g a)) = none ↔
      ∀ a b, isCarrier s leftOut a → isCarrier s leftOut b → pairCounts s z a b = true → bad a b ≠ true := by
  rw [findSome?_none_iff fun a b => pairCounts s z a b && bad a b]
  simp only [mem_carriersBut, Bool.and_eq_false_imp, ne_eq, Bool.not_eq_true]
  exact ⟨fun h a b ha hb => h a ha b hb, fun h a ha b hb => h a b ha hb⟩

/-! ### What a test finds -/

/-- T2 finds the first band that holds the index (R56). -/
theorem testExclusion_eq_some {n : Nat} (found : testExclusion s f = some n) :
    ∃ front b back, s.plan.exclusions = front ++ b :: back ∧ n = front.length + 1 ∧
      ((b.lo : Int) - s.plan.g ≤ f ∧ (f : Int) ≤ b.hi + s.plan.g) ∧
      ∀ x ∈ front, ¬((x.lo : Int) - s.plan.g ≤ f ∧ (f : Int) ≤ x.hi + s.plan.g) := by
  unfold testExclusion at found
  obtain ⟨i, place, rfl⟩ := Option.map_eq_some_iff.1 found
  obtain ⟨bound, holds, before⟩ := List.findIdx?_eq_some_iff_getElem.1 place
  refine ⟨s.plan.exclusions.take i, s.plan.exclusions[i], s.plan.exclusions.drop (i + 1), ?_, ?_,
    (inGuardedBand_iff _ _ _).1 holds, fun x hx => ?_⟩
  · rw [List.getElem_cons_drop, List.take_append_drop]
  · rw [List.length_take, Nat.min_eq_left bound.le]
  · obtain ⟨j, hj, rfl⟩ := List.mem_take_iff_getElem.1 hx
    rw [← inGuardedBand_iff]
    exact before j (by omega)

/-- T3 finds the first CONFIRMED carrier that stands too near (R57). -/
theorem testForeign_eq_some {x : Nat} (found : testForeign s f = some x) :
    ∃ front e back, s.sweep.foreign = front ++ e :: back ∧ x = e.index ∧
      (e.confirmed = true ∧ ((f : Int) - e.index).natAbs < s.plan.fg) ∧
      ∀ d ∈ front, ¬(d.confirmed = true ∧ ((f : Int) - d.index).natAbs < s.plan.fg) := by
  unfold testForeign at found
  obtain ⟨e, first, rfl⟩ := Option.map_eq_some_iff.1 found
  obtain ⟨near, front, back, split, before⟩ := List.find?_eq_some_iff_append.1 first
  rw [Bool.and_eq_true, decide_eq_true_eq] at near
  refine ⟨front, e, back, split, rfl, near, fun d hd both => ?_⟩
  have clear := before d hd
  simp only [both.1, Bool.true_and, Bool.not_eq_eq_eq_not, Bool.not_true, decide_eq_false_iff_not] at clear
  exact clear both.2

/-- T4 finds the first carrier that stands too near (R58). -/
theorem testSpacing_eq_some {i : Fin 384} (found : testSpacing s p z (carriersBut s leftOut) f = some i) :
    ∃ c, isCarrier s leftOut c ∧ tooNear s p z f c = true ∧ c.slot = i ∧
      ∀ d, isCarrier s leftOut d → tooNear s p z f d = true → ¬carrierBefore d c := by
  unfold testSpacing at found
  obtain ⟨c, first, rfl⟩ := Option.map_eq_some_iff.1 found
  obtain ⟨here, near, before⟩ := find?_first (fun _ _ => carrierBefore_asymm) (carriersBut_order s leftOut) first
  exact ⟨c, (mem_carriersBut _ _ _).1 here, near, rfl, fun d hd => before d ((mem_carriersBut _ _ _).2 hd)⟩

/-- A search for a pair of carriers finds the first, by the order of the first member and then of the second (R53, R60,
R61). -/
theorem findPair_eq_some {bad : Carrier → Carrier → Bool} {i j : Fin 384}
    (found : ((carriersBut s leftOut).findSome? fun a =>
      ((carriersBut s leftOut).find? fun b => pairCounts s z a b && bad a b).map fun b => (a.slot, b.slot)) = some (i, j)) :
    ∃ a b, ((isCarrier s leftOut a ∧ isCarrier s leftOut b ∧ pairCounts s z a b = true) ∧ bad a b = true) ∧
      a.slot = i ∧ b.slot = j ∧
      (∀ c d, (isCarrier s leftOut c ∧ isCarrier s leftOut d ∧ pairCounts s z c d = true) ∧ bad c d = true →
        ¬carrierBefore c a) ∧
      ∀ d, (isCarrier s leftOut a ∧ isCarrier s leftOut d ∧ pairCounts s z a d = true) ∧ bad a d = true →
        ¬carrierBefore d b := by
  obtain ⟨a, b, ha, hb, both, slots, first, second⟩ := findSome?_first (fun _ _ => carrierBefore_asymm)
    (p := fun a b => pairCounts s z a b && bad a b) (fun a b => (a.slot, b.slot)) (carriersBut_order s leftOut) found
  simp only [mem_carriersBut, Bool.and_eq_true, Prod.mk.injEq] at ha hb both slots first second
  exact ⟨a, b, ⟨⟨ha, hb, both.1⟩, both.2⟩, slots.1.symm, slots.2.symm,
    fun c d ⟨⟨hc, hd, pair⟩, h⟩ => first c hc d hd ⟨pair, h⟩, fun d ⟨⟨_, hd, pair⟩, h⟩ => second d hd ⟨pair, h⟩⟩

/-- The failure that an evaluation answers is the first test's that finds one (R54). -/
theorem evaluate_eq_some {x : TestFailure} (fails : evaluate s p z leftOut f = some x) :
    match x with
    | .t1 => testWindow s p z f = false
    | .t2 n => testWindow s p z f = true ∧ testExclusion s f = some n
    | .t3 i => testWindow s p z f = true ∧ testExclusion s f = none ∧ testForeign s f = some i
    | .t4 i => testWindow s p z f = true ∧ testExclusion s f = none ∧ testForeign s f = none ∧
        testSpacing s p z (carriersBut s leftOut) f = some i
    | .t5 i j => testWindow s p z f = true ∧ testExclusion s f = none ∧ testForeign s f = none ∧
        testSpacing s p z (carriersBut s leftOut) f = none ∧
        testProducts s p z (carriersBut s leftOut) f = some (i, j)
    | .t6 i j => testWindow s p z f = true ∧ testExclusion s f = none ∧ testForeign s f = none ∧
        testSpacing s p z (carriersBut s leftOut) f = none ∧ testProducts s p z (carriersBut s leftOut) f = none ∧
        testHarm s z (carriersBut s leftOut) f = some (i, j) := by
  unfold evaluate at fails
  dsimp only at fails
  split_ifs at fails with t1
  · cases fails
    exact t1
  have t1 : testWindow s p z f = true := by simpa using t1
  split at fails
  next t2 => cases fails; exact ⟨t1, t2⟩
  next t2 =>
  split at fails
  next t3 => cases fails; exact ⟨t1, t2, t3⟩
  next t3 =>
  split at fails
  next t4 => cases fails; exact ⟨t1, t2, t3, t4⟩
  next t4 =>
  split at fails
  next t5 => cases fails; exact ⟨t1, t2, t3, t4, t5⟩
  next t5 =>
  split at fails
  next t6 => cases fails; exact ⟨t1, t2, t3, t4, t5, t6⟩
  next => cases fails

end

/-- Settles O17: the six parts of a passing evaluation, each comparison turned into its opposite. -/
theorem evaluationPassesExactly : Obligations.EvaluationPassesExactly := by
  intro s p z leftOut f
  have product : ∀ a b, (¬productOnto s p f a b = true) ↔ _ := fun a b => not_congr (productOnto_iff s p f a b)
  have harm : ∀ e v, (¬harms s f e v = true) ↔ _ := fun e v => not_congr (harms_iff s f e v)
  simp only [not_or, Nat.not_lt] at product harm
  dsimp only
  rw [evaluate_eq_none]
  constructor
  · intro h
    refine ⟨(testWindow_iff s p z f).1 h.window, fun b hb => ?_, h.foreign, fun c hc coupled => ?_,
      fun a b ⟨ha, hb, pair⟩ => ?_, fun e v ⟨he, hv, pair⟩ => ?_⟩
    · exact fun held => Bool.eq_false_iff.1 (h.exclusions b hb) ((inGuardedBand_iff _ _ _).2 held)
    · exact Nat.not_lt.1 fun near => Bool.eq_false_iff.1 (h.spacing c hc) ((tooNear_iff s p z f c).2 ⟨coupled, near⟩)
    · exact (product a b).1 (Bool.eq_false_iff.1 (h.products a b ha hb ((pairCounts_iff s z a b).2 pair)))
    · exact (harm e v).1 (Bool.eq_false_iff.1 (h.harm e v he hv ((pairCounts_iff s z e v).2 pair)))
  · rintro ⟨window, exclusions, foreign, spacing, products, harmed⟩
    refine ⟨(testWindow_iff s p z f).2 window, fun b hb => ?_, foreign, fun c hc => ?_, fun a b ha hb pair => ?_,
      fun e v he hv pair => ?_⟩
    · exact Bool.eq_false_iff.2 fun held => exclusions b hb ((inGuardedBand_iff _ _ _).1 held)
    · refine Bool.eq_false_iff.2 fun near => ?_
      obtain ⟨coupled, close⟩ := (tooNear_iff s p z f c).1 near
      exact absurd close (Nat.not_lt.2 (spacing c hc coupled))
    · exact Bool.eq_false_iff.2 ((product a b).2 (products a b ⟨ha, hb, (pairCounts_iff s z a b).1 pair⟩))
    · exact Bool.eq_false_iff.2 ((harm e v).2 (harmed e v ⟨he, hv, (pairCounts_iff s z e v).1 pair⟩))

/-- Settles O18: the failing test finds its first item, and every test before it finds none. -/
theorem evaluationNamesTheFirstFailure : Obligations.EvaluationNamesTheFirstFailure := by
  intro s p z leftOut f
  dsimp only
  cases answer : evaluate s p z leftOut f with
  | none => trivial
  | some x =>
    have fails := evaluate_eq_some answer
    cases x with
    | t1 => exact fun window => Bool.eq_false_iff.1 fails ((testWindow_iff s p z f).2 window)
    | t2 n => exact ⟨(testWindow_iff s p z f).1 fails.1, testExclusion_eq_some fails.2⟩
    | t3 i =>
      obtain ⟨t1, t2, found⟩ := fails
      exact ⟨(testWindow_iff s p z f).1 t1, testExclusion_eq_none.1 t2, testForeign_eq_some found⟩
    | t4 i =>
      obtain ⟨t1, t2, t3, found⟩ := fails
      refine ⟨(testWindow_iff s p z f).1 t1, testExclusion_eq_none.1 t2, testForeign_eq_none.1 t3, ?_⟩
      simpa only [tooNear_iff, and_assoc, and_imp] using testSpacing_eq_some found
    | t5 i j =>
      obtain ⟨t1, t2, t3, t4, found⟩ := fails
      refine ⟨(testWindow_iff s p z f).1 t1, testExclusion_eq_none.1 t2, testForeign_eq_none.1 t3, ?_, ?_⟩
      · simpa only [tooNear_iff, ne_eq, not_and] using testSpacing_eq_none.1 t4
      · simpa only [productOnto_iff, pairCounts_iff] using findPair_eq_some found
    | t6 i j =>
      obtain ⟨t1, t2, t3, t4, t5, found⟩ := fails
      refine ⟨(testWindow_iff s p z f).1 t1, testExclusion_eq_none.1 t2, testForeign_eq_none.1 t3, ?_, ?_, ?_⟩
      · simpa only [tooNear_iff, ne_eq, not_and] using testSpacing_eq_none.1 t4
      · have clear := (findPair_eq_none (productOnto s p f) _).1 t5
        simp only [ne_eq, productOnto_iff, pairCounts_iff] at clear
        exact fun a b ⟨⟨ha, hb, pair⟩, near⟩ => clear a b ha hb pair near
      · simpa only [harms_iff, pairCounts_iff] using findPair_eq_some found

end Sys2Proof.Machine
end

section
/-! ## Proofs: the orders of a walk

The aligned indices as multiples of the step above the lowest one, the snapped hint among them, and the places that a
hinted walk visits in turn (R45 to R49). -/

namespace Sys2Proof.Machine

-- One elaboration thread: the check's memory limit counts the stack of each.
set_option Elab.async false

/-! ### The aligned indices (R45, R47) -/

/-- The lowest aligned index: at or above the low edge, less than a step above it, and aligned. -/
theorem alignUp_spec {origin step low : Nat} (hstep : step ∈ [1, 2, 4, 8]) (above : origin ≤ low) :
    low ≤ alignUp origin step low ∧ alignUp origin step low < low + step ∧
      (alignUp origin step low - origin) % step = 0 := by
  unfold alignUp
  simp only [List.mem_cons, List.not_mem_nil, or_false] at hstep
  rcases hstep with rfl | rfl | rfl | rfl <;> omega

/-- A place is one of the aligned indices' exactly when its index reaches no higher than the high edge. -/
theorem lt_alignedCount {first step high k : Nat} (hstep : step ∈ [1, 2, 4, 8]) :
    k < alignedCount first step high ↔ first + k * step ≤ high := by
  unfold alignedCount
  simp only [List.mem_cons, List.not_mem_nil, or_false] at hstep
  rcases hstep with rfl | rfl | rfl | rfl <;> split_ifs <;> omega

/-- An index is at a place of the aligned indices exactly when it lies in the window and is aligned to the origin. -/
theorem exists_place_iff {origin step low high f : Nat} (hstep : step ∈ [1, 2, 4, 8]) (above : origin ≤ low) :
    (∃ k < alignedCount (alignUp origin step low) step high, alignUp origin step low + k * step = f) ↔
      low ≤ f ∧ f ≤ high ∧ (f - origin) % step = 0 := by
  obtain ⟨lower, upper, aligned⟩ := alignUp_spec hstep above
  generalize alignUp origin step low = first at *
  simp only [lt_alignedCount hstep]
  simp only [List.mem_cons, List.not_mem_nil, or_false] at hstep
  constructor
  · rintro ⟨k, hk, rfl⟩
    rcases hstep with rfl | rfl | rfl | rfl <;> omega
  · rintro ⟨hl, hh, ha⟩
    refine ⟨(f - first) / step, ?_⟩
    rcases hstep with rfl | rfl | rfl | rfl <;> omega

/-- The aligned indices of the effective window, as the statement of the walk orders lists them. -/
def alignedIndices (s : State) (p z : Fin 16) : List Nat :=
  (List.range 9120).filter fun f =>
    decide ((s.plan.profiles.read p).low ≤ f ∧ (s.plan.zones.read z).zlo ≤ f ∧ f ≤ (s.plan.profiles.read p).high ∧
      f ≤ (s.plan.zones.read z).zhi ∧ (f - (s.plan.profiles.read p).low) % (s.plan.profiles.read p).step = 0)

section
variable {s : State} {p z : Fin 16}

/-- The aligned indices are the places that a walk of the profile and the zone counts. -/
theorem mem_alignedIndices (profile : (s.plan.profiles.read p).inRange) (f : Nat) :
    f ∈ alignedIndices s p z ↔
      ∃ k < (formWalk s p z none).count, (formWalk s p z none).lowest + k * (formWalk s p z none).step = f := by
  obtain ⟨-, high, hstep, -⟩ := profile
  refine Iff.trans ?_ (exists_place_iff hstep (Nat.le_max_left _ _)).symm
  simp only [alignedIndices, windowHigh, List.mem_filter, List.mem_range, decide_eq_true_eq, max_le_iff,
    le_min_iff]
  exact ⟨by tauto, fun h => ⟨by omega, by tauto⟩⟩

/-- A walk's step is positive (R5). -/
theorem formWalk_step_pos (profile : (s.plan.profiles.read p).inRange) : 0 < (formWalk s p z none).step := by
  obtain ⟨-, -, hstep, -⟩ := profile
  have hstep : (formWalk s p z none).step ∈ [1, 2, 4, 8] := hstep
  exact Nat.pos_of_ne_zero fun zero => by simp [zero] at hstep

/-- Without a hint a walk's candidates are the aligned indices, ascending. -/
theorem order_formWalk_none (profile : (s.plan.profiles.read p).inRange) :
    (List.range (formWalk s p z none).count).map (formWalk s p z none).candidate = alignedIndices s p z := by
  have ascending : ((List.range (formWalk s p z none).count).map (formWalk s p z none).candidate).Pairwise (· < ·) := by
    refine List.pairwise_map.2 (List.pairwise_lt_range.imp fun {j k} less => ?_)
    exact Nat.add_lt_add_left (Nat.mul_lt_mul_of_pos_right less (formWalk_step_pos profile)) _
  have sorted : (alignedIndices s p z).Pairwise (· < ·) := List.pairwise_lt_range.filter _
  refine List.Perm.eq_of_pairwise (fun a b _ _ hab hba => absurd hba (lt_asymm hab)) ascending sorted ?_
  refine (List.perm_ext_iff_of_nodup (ascending.imp ne_of_lt) (sorted.imp ne_of_lt)).2 fun f => ?_
  rw [mem_alignedIndices profile, List.mem_map]
  simp only [List.mem_range]
  exact Iff.rfl

end

/-! ### The places of a hinted walk (R49) -/

/-- A hinted walk keeps within the aligned indices. -/
theorem hintedPlace_lt {count p k : Nat} (start : p < count) (bound : k < count) : hintedPlace count p k < count := by
  unfold hintedPlace
  dsimp only
  split_ifs <;> omega

/-- One place comes before another in a hinted walk: nearer to the start, or as near and lower. -/
def placeBefore (p x y : Nat) : Prop := distance x p < distance y p ∨ (distance x p = distance y p ∧ x < y)

/-- A hinted walk visits its places in that order. -/
theorem hintedPlace_order {count p j k : Nat} (start : p < count) (less : j < k) (bound : k < count) :
    placeBefore p (hintedPlace count p j) (hintedPlace count p k) := by
  unfold placeBefore hintedPlace distance
  dsimp only
  split_ifs <;> omega

/-- A hinted walk visits every place of the aligned indices once. -/
theorem hintedPlaces_perm {count p : Nat} (start : p < count) :
    ((List.range count).map (hintedPlace count p)).Perm (List.range count) := by
  have nodup : ((List.range count).map (hintedPlace count p)).Nodup := by
    refine List.pairwise_map.2 (List.pairwise_lt_range.imp_of_mem fun {j k} _ hk less same => ?_)
    have before := hintedPlace_order start less (List.mem_range.1 hk)
    rw [same] at before
    rcases before with closer | ⟨-, lower⟩
    · exact lt_irrefl _ closer
    · exact lt_irrefl _ lower
  have within : (List.range count).map (hintedPlace count p) ⊆ List.range count := fun x hx => by
    obtain ⟨k, hk, rfl⟩ := List.mem_map.1 hx
    exact List.mem_range.2 (hintedPlace_lt start (List.mem_range.1 hk))
  exact (List.subperm_of_subset nodup within).perm_of_length_le (by simp)

/-- The order of two places is the order of their indices about the start's. -/
theorem placeBefore_scaled {first step p x y : Nat} (positive : 0 < step) (before : placeBefore p x y) :
    placeBefore (first + p * step) (first + x * step) (first + y * step) := by
  have scaled : ∀ x : Nat, distance (first + x * step : Nat) (first + p * step : Nat) = distance x p * step := fun x => by
    unfold distance
    rw [← Int.natAbs_natCast step, ← Int.natAbs_mul, Int.natAbs_natCast]
    congr 1
    push_cast
    ring
  unfold placeBefore at *
  rw [scaled, scaled]
  rcases before with closer | ⟨same, lower⟩
  · exact .inl (Nat.mul_lt_mul_of_pos_right closer positive)
  · exact .inr ⟨by rw [same], Nat.add_lt_add_left (Nat.mul_lt_mul_of_pos_right lower positive) _⟩

/-! ### The snapped hint (R48) -/

/-- The hint is snapped to a place of the aligned indices. -/
theorem snapPlace_lt {low high first step count hint : Nat} (nonempty : 0 < count) :
    snapPlace low high first step count hint < count := by
  unfold snapPlace
  dsimp only
  omega

/-- The snapped hint is the place nearest to the clamped hint, the lower on a tie. -/
theorem snapPlace_nearest {low high first step hint k : Nat} (hstep : step ∈ [1, 2, 4, 8])
    (lower : low ≤ first) (upper : first < low + step) (bound : first + k * step ≤ high) :
    let snapped := first + snapPlace low high first step (alignedCount first step high) hint * step
    distance snapped (clampTo low high hint) ≤ distance (first + k * step : Nat) (clampTo low high hint) ∧
      (distance (first + k * step : Nat) (clampTo low high hint) = distance snapped (clampTo low high hint) →
        snapped ≤ first + k * step) := by
  have clamped : low ≤ clampTo low high hint ∧ clampTo low high hint ≤ high := by
    unfold clampTo
    rcases List.mem_cons.1 hstep with rfl | _ <;> omega
  unfold snapPlace distance alignedCount
  dsimp only
  generalize clampTo low high hint = h at *
  rw [if_pos (by rcases List.mem_cons.1 hstep with rfl | _ <;> omega)]
  simp only [List.mem_cons, List.not_mem_nil, or_false] at hstep
  rcases hstep with rfl | rfl | rfl | rfl <;> split_ifs <;> omega

/-! ### The hinted order (R48, R49) -/

section
variable {s : State} {p z : Fin 16}

/-- The place of the snapped hint among the aligned indices of a profile and a zone (R48). -/
def snappedPlace (s : State) (p z : Fin 16) (hint : Nat) : Nat :=
  snapPlace (windowLow s p z) (windowHigh s p z) (formWalk s p z none).lowest (formWalk s p z none).step
    (formWalk s p z none).count hint

/-- With a hint a walk's candidates are those without one, by places about the snapped hint. -/
theorem order_formWalk_some (hint : Nat) :
    (List.range (formWalk s p z (some hint)).count).map (formWalk s p z (some hint)).candidate =
      ((List.range (formWalk s p z none).count).map
        (hintedPlace (formWalk s p z none).count (snappedPlace s p z hint))).map (formWalk s p z none).candidate := by
  rw [List.map_map]
  rfl

/-- With a hint a walk visits the aligned indices, each once. -/
theorem order_formWalk_some_perm (profile : (s.plan.profiles.read p).inRange) (hint : Nat) :
    ((List.range (formWalk s p z (some hint)).count).map (formWalk s p z (some hint)).candidate).Perm
      (alignedIndices s p z) := by
  rw [order_formWalk_some, ← order_formWalk_none profile]
  rcases Nat.eq_zero_or_pos (formWalk s p z none).count with empty | nonempty
  · rw [empty]
    exact .refl _
  · exact (hintedPlaces_perm (snapPlace_lt nonempty)).map _

/-- With a hint a walk's candidates stand by their distance from the snapped hint, the lower first on a tie. -/
theorem order_formWalk_some_pairwise (profile : (s.plan.profiles.read p).inRange) (hint : Nat)
    (nonempty : 0 < (formWalk s p z none).count) :
    ((List.range (formWalk s p z (some hint)).count).map (formWalk s p z (some hint)).candidate).Pairwise
      (placeBefore ((formWalk s p z none).candidate (snappedPlace s p z hint))) := by
  rw [order_formWalk_some, List.map_map]
  refine List.pairwise_map.2 (List.pairwise_lt_range.imp_of_mem fun {j k} _ hk less => ?_)
  exact placeBefore_scaled (formWalk_step_pos profile) (hintedPlace_order (snapPlace_lt nonempty) less (List.mem_range.1 hk))

end

/-- Settles O19: the candidates by their places, ascending or about the snapped hint. -/
theorem walkOrders : Obligations.WalkOrders := by
  intro s p z profile zone
  dsimp only
  rw [← alignedIndices]
  refine ⟨order_formWalk_none profile, fun hint => ⟨order_formWalk_some_perm profile hint, fun listed => ?_⟩⟩
  have nonempty : 0 < (formWalk s p z none).count := by
    refine Nat.pos_of_ne_zero fun zero => listed ?_
    rw [← order_formWalk_none profile, zero, List.range_zero, List.map_nil]
  obtain ⟨-, -, hstep, -⟩ := id profile
  obtain ⟨lower, upper, -⟩ := alignUp_spec hstep (Nat.le_max_left _ (s.plan.zones.read z).zlo)
  refine ⟨(formWalk s p z none).candidate (snappedPlace s p z hint),
    (mem_alignedIndices profile _).2 ⟨_, snapPlace_lt nonempty, rfl⟩, fun f hf => ?_,
    order_formWalk_some_pairwise profile hint nonempty⟩
  obtain ⟨k, hk, rfl⟩ := (mem_alignedIndices profile f).1 hf
  exact snapPlace_nearest hstep lower upper ((lt_alignedCount hstep).1 hk)

end Sys2Proof.Machine
end

section
/-! ## Proofs: the beginning, the course and the end of a walk -/

namespace Sys2Proof.Machine

-- One elaboration thread: the check's memory limit counts the stack of each.
set_option Elab.async false

section
variable {s : State} {job : Job} {c : SearchContext}

/-! ### The next candidate (R50) -/

/-- The place of the next candidate to visit: the cursor's, or the one after it where the walk passes over the cursor's. -/
def Walk.nextPlace (w : Walk) (own : Option Nat) : Nat :=
  if w.cursor < w.count ∧ own = some (w.candidate w.cursor) then w.cursor + 1 else w.cursor

/-- A walk's next candidate is the one at its next place, while there is one (R50). -/
theorem Walk.next_eq (w : Walk) (own : Option Nat) :
    w.next own =
      if w.nextPlace own < w.count then some (w.candidate (w.nextPlace own), w.nextPlace own + 1) else none := by
  unfold Walk.next Walk.nextPlace
  by_cases more : w.cursor < w.count
  · by_cases own : own = some (w.candidate w.cursor)
    · simp only [more, own, and_self, if_true]
    · simp only [more, own, and_false, if_true, if_false]
  · simp only [more, false_and, if_false]

/-- There is a next place while two are left, or one that the walk does not pass over. -/
theorem Walk.nextPlace_lt (w : Walk) (own : Option Nat) :
    w.nextPlace own < w.count ↔
      w.cursor + 1 < w.count ∨ (w.cursor + 1 = w.count ∧ own ≠ some (w.candidate w.cursor)) := by
  unfold Walk.nextPlace
  split_ifs with passed
  · simp only [passed.2, ne_eq, not_true, and_false, or_false]
  · rw [not_and] at passed
    exact ⟨fun more => (Nat.lt_or_eq_of_le more).imp id fun last => ⟨last, passed more⟩, by omega⟩

/-- A walk that passes nothing over goes to its cursor's candidate. -/
@[simp] theorem Walk.nextPlace_none (w : Walk) : w.nextPlace none = w.cursor := by simp [Walk.nextPlace]

/-- A walk has no further candidate. -/
theorem Walk.next_isNone (w : Walk) (own : Option Nat) : (w.next own).isNone = true ↔ ¬w.nextPlace own < w.count := by
  rw [Walk.next_eq]
  split_ifs with more <;> simp [more]

/-! ### The ends of a search (R78, R80, R83) -/

/-- The end of a MOVE's search answers with the reason while the slot is the mover's, or else with UNKNOWN_CHANNEL. -/
theorem closeSearch_move (w : MoveWork) (why : RefuseReason) (s : State) :
    closeSearch (.move w) why s =
      { s with
        engine := { s.engine with foreground := none }
        stations := s.stations.change w.station (Option.map fun st =>
          { st with
            answers :=
              st.answers ++ [.refused (BitVec.ofNat 8 w.channel.val) (if stillMoving s w then why else .unknownChannel)]
            openRequest := false }) } :=
  answerWork_eq _ _ _

/-! ### The beginning of a walk (R73) -/

/-- The walk of a search formed now (R73). -/
def Job.walk (job : Job) (s : State) : Walk := formWalk s (job.profile s) (job.zone s) job.hint

/-- A walk begins unless it has no candidate to visit: none at all, or only the one it passes over (R50, R73, R78). -/
theorem beginWalk_eq (job : Job) (n : Nat) (s : State) :
    beginWalk job n s =
      if (job.walk s).count = 0 ∨ ((job.walk s).count = 1 ∧ job.passOver s = some ((job.walk s).candidate 0)) then
        closeSearch job .noneFound s
      else
        setContext job { e0 := s.epoch, moved := false, research := n, walk := job.walk s, stage := .walking } s := by
  have begun : (job.walk s).nextPlace (job.passOver s) < (job.walk s).count ↔
      ¬((job.walk s).count = 0 ∨ ((job.walk s).count = 1 ∧ job.passOver s = some ((job.walk s).candidate 0))) := by
    rw [Walk.nextPlace_lt]
    show 0 + 1 < _ ∨ (0 + 1 = _ ∧ ¬job.passOver s = some ((job.walk s).candidate 0)) ↔ _
    by_cases same : job.passOver s = some ((job.walk s).candidate 0)
    · simp only [same, not_true, and_false, or_false, and_true]
      omega
    · simp only [same, not_false_eq_true, and_true, and_false, or_false]
      omega
  unfold beginWalk
  dsimp only
  rw [← Job.walk, Walk.next_eq]
  by_cases candidate : (job.walk s).nextPlace (job.passOver s) < (job.walk s).count
  · rw [if_pos candidate, if_neg (begun.1 candidate)]
  · rw [if_neg candidate, if_pos (not_not.1 fun some => candidate (begun.2 some))]

/-- A walk that passes nothing over begins unless no index is aligned. -/
theorem beginWalk_of_passOver_none (n : Nat) (nothing : job.passOver s = none) :
    beginWalk job n s =
      if (job.walk s).count = 0 then closeSearch job .noneFound s
      else
        setContext job { e0 := s.epoch, moved := false, research := n, walk := job.walk s, stage := .walking } s := by
  rw [beginWalk_eq, nothing]
  exact if_congr (by simp) rfl rfl

/-! ### The course of a walk (R74, R78) -/

/-- A walk with its cursor after a place. -/
def SearchContext.after (c : SearchContext) (k : Nat) : SearchContext :=
  { c with walk := { c.walk with cursor := k + 1 } }

/-- The next candidate of the walk is evaluated: a result, the next one, or the end with NONE. -/
theorem evaluateNext_eq (job : Job) (c : SearchContext) (s : State) :
    evaluateNext job c s =
      (let k := c.walk.nextPlace (job.passOver s)
      if k < c.walk.count then
        if evaluateFor job (c.walk.candidate k) s = none then
          setContext job { c.after k with stage := .found (c.walk.candidate k) } s
        else if k + 2 < c.walk.count ∨ (k + 2 = c.walk.count ∧ job.passOver s ≠ some (c.walk.candidate (k + 1))) then
          setContext job (c.after k) s
        else closeSearch job .noneFound s
      else closeSearch job .noneFound s) := by
  unfold evaluateNext
  rw [Walk.next_eq]
  dsimp only
  by_cases more : c.walk.nextPlace (job.passOver s) < c.walk.count
  · rw [if_pos more, if_pos more]
    refine if_congr Option.isNone_iff_eq_none rfl ((if_congr (Walk.next_isNone _ _) rfl rfl).trans ?_)
    rw [ite_not]
    exact if_congr (Walk.nextPlace_lt (c.after _).walk _) rfl rfl
  · rw [if_neg more, if_neg more]

/-- No refill starts while a search goes on (R82). -/
theorem startRefill_setContext (job : Job) (c : SearchContext) (s : State) :
    startRefill (setContext job c s) = setContext job c s := by
  cases job with
  | request w => exact startRefill_of_foreground rfl
  | move w => exact startRefill_of_foreground rfl
  | refill z => exact startRefill_of_background rfl

/-- The evaluation that is due: a search that goes on starts no refill, and one that ends may (R74, R82). -/
theorem exec_candidateEvaluation (active : activeSearch s = some (job, c)) (walking : c.stage = .walking) :
    exec .candidateEvaluation s = .next
      (let k := c.walk.nextPlace (job.passOver s)
      if k < c.walk.count then
        if evaluateFor job (c.walk.candidate k) s = none then
          setContext job { c.after k with stage := .found (c.walk.candidate k) } s
        else if k + 2 < c.walk.count ∨ (k + 2 = c.walk.count ∧ job.passOver s ≠ some (c.walk.candidate (k + 1))) then
          setContext job (c.after k) s
        else startRefill (closeSearch job .noneFound s)
      else startRefill (closeSearch job .noneFound s)) := by
  show execCandidateEvaluation s = _
  unfold execCandidateEvaluation
  rw [active]
  dsimp only
  rw [if_pos walking, evaluateNext_eq]
  simp only [apply_ite startRefill, startRefill_setContext]

/-- With no walk due nothing happens (log entry 2). -/
theorem exec_candidateEvaluation_of_not_due (none : ∀ job c, activeSearch s = some (job, c) → c.stage ≠ .walking) :
    exec .candidateEvaluation s = .next s := by
  show execCandidateEvaluation s = _
  unfold execCandidateEvaluation
  split
  · rename_i job c active
    exact if_neg (none job c active)
  · rfl

/-- The evaluation that is due for a search that passes nothing over. -/
theorem exec_candidateEvaluation_of_passOver_none (active : activeSearch s = some (job, c))
    (walking : c.stage = .walking) (nothing : job.passOver s = none) :
    exec .candidateEvaluation s = .next
      (let k := c.walk.cursor
      if k < c.walk.count then
        if evaluateFor job (c.walk.candidate k) s = none then
          setContext job { c.after k with stage := .found (c.walk.candidate k) } s
        else if k + 1 < c.walk.count then setContext job (c.after k) s
        else startRefill (closeSearch job .noneFound s)
      else startRefill (closeSearch job .noneFound s)) := by
  rw [exec_candidateEvaluation active walking, nothing]
  have further : ∀ k, (k + 2 < c.walk.count ∨ (k + 2 = c.walk.count ∧ none ≠ some (c.walk.candidate (k + 1)))) ↔
      k + 1 < c.walk.count := fun k => by
    simp only [ne_eq, reduceCtorEq, not_false_eq_true, and_true]
    omega
  simp only [Walk.nextPlace_none, further]

end

/-- Settles O21: the answers by whose search it is, and the beginning by what the walk passes over. -/
theorem walksBeginAndEnd : Obligations.WalksBeginAndEnd := by
  unfold Obligations.WalksBeginAndEnd
  refine ⟨fun w why s => answerWork_eq _ _ _, fun w why s => ⟨fun owned => ?_, fun gone => ?_⟩, fun z why s => rfl,
    fun w n s => ?_, fun w o n s slot station channel => ?_, fun z n s => beginWalk_of_passOver_none n rfl⟩
  · rw [closeSearch_move, if_pos ((stillMoving_iff s w).2 owned)]
  · rw [closeSearch_move, if_neg (mt (stillMoving_iff s w).1 gone)]
  · refine (beginWalk_of_passOver_none n rfl).trans (if_congr Iff.rfl (answerWork_eq _ _ _) rfl)
  · have moving : stillMoving s w = true := (stillMoving_iff s w).2 ⟨o, slot, station, channel⟩
    have own : (Job.move w).passOver s = some o.frequency := by
      show (if stillMoving s w then (s.slots.read w.slot).frequency? else none) = _
      rw [if_pos moving, slot]
      rfl
    have only : some o.frequency = some (((Job.move w).walk s).candidate 0) ↔
        (formWalk s w.profile w.zone none).lowest = o.frequency := by
      show some o.frequency = some ((formWalk s w.profile w.zone none).lowest + 0 * _) ↔ _
      rw [Nat.zero_mul, Nat.add_zero, Option.some.injEq, eq_comm]
    rw [beginWalk_eq, own, closeSearch_move, if_pos moving]
    exact if_congr (or_congr Iff.rfl (and_congr_right' only)) rfl rfl

/-- Settles O23: the walk's next candidate by whose search it is. -/
theorem candidateEvaluationWalksOn : Obligations.CandidateEvaluationWalksOn := by
  unfold Obligations.CandidateEvaluationWalksOn
  refine ⟨fun s w c held walking => ?_, fun s w c held walking => ?_, fun s b idle held walking => ?_, fun s none => ?_⟩
  · have active : activeSearch s = some (.request w, c) := by simp [activeSearch, held]
    exact exec_candidateEvaluation_of_passOver_none (job := .request w) active walking rfl
  · have active : activeSearch s = some (.move w, c) := by simp [activeSearch, held]
    exact exec_candidateEvaluation (job := .move w) active walking
  · by_cases due : s.engine.queue = [] ∧ s.console.mode = .run
    · have active : activeSearch s = some (.refill b.zone, b.context) := by
        simp [activeSearch, idle, held, inRun, due.1, due.2]
      dsimp only
      rw [if_pos due]
      exact exec_candidateEvaluation_of_passOver_none (job := .refill b.zone) active walking rfl
    · have inactive : activeSearch s = none := by
        simp only [activeSearch, idle]
        exact if_neg fun run => due (by simpa [inRun] using run)
      dsimp only
      rw [if_neg due]
      exact exec_candidateEvaluation_of_not_due fun job c active => absurd (inactive.symm.trans active) nofun
  · exact exec_candidateEvaluation_of_not_due none

end Sys2Proof.Machine
end

section
/-! ## Proofs: the sweep's requests, the stages of a point and the tune lines -/

namespace Sys2Proof.Machine

-- One elaboration thread: the check's memory limit counts the stack of each.
set_option Elab.async false

/-- The checks of a WRITE SWEEP as ranges (R135, checks 2 to 6). -/
theorem sweepValid_iff (c : SweepConfig) :
    sweepValid c = true ↔
      c.lo ≤ c.hi ∧ c.hi < 9120 ∧ c.step ≤ 16 ∧ 1 ≤ c.settle ∧ c.hysteresis ≤ 63 ∧ 1 ≤ c.k ∧ c.k ≤ 4 ∧ 1 ≤ c.m ∧
        c.m ≤ 8 ∧ c.e ≤ 8 ∧ 1 ≤ c.scale := by
  simp only [sweepValid, Bool.and_eq_true, edgesValid_iff, decide_eq_true_eq, and_assoc]

/-- A step of 0 is stored as 1 (R135). -/
theorem storedStep_eq (n : Nat) : max 1 n = if n = 0 then 1 else n := by
  split_ifs <;> omega

/-- WRITE SWEEP: BUSY while the sweep runs, then the ranges (R135). -/
theorem exec_writeSweep (lo hi : Word) (step settle threshold hysteresis k m e gap : Byte) (offset : Word24)
    (scale : Byte) (s : State) :
    exec (.writeSweep lo hi step settle threshold hysteresis k m e gap offset scale) s = .next
      (if s.sweep.activity ≠ none then respond .busy [] s
      else if lo.toNat ≤ hi.toNat ∧ hi.toNat < 9120 ∧ step.toNat ≤ 16 ∧ 1 ≤ settle.toNat ∧ hysteresis.toNat ≤ 63 ∧
          1 ≤ k.toNat ∧ k.toNat ≤ 4 ∧ 1 ≤ m.toNat ∧ m.toNat ≤ 8 ∧ e.toNat ≤ 8 ∧ 1 ≤ scale.toNat then
        respond .ok []
          { s with
            sweep :=
              { s.sweep with
                config :=
                  { lo := lo.toNat, hi := hi.toNat, step := if step.toNat = 0 then 1 else step.toNat,
                    settle := settle.toNat, threshold := threshold.toNat, hysteresis := hysteresis.toNat,
                    k := k.toNat, m := m.toNat, e := e.toNat, gap := gap.toNat, offset := offset.toNat,
                    scale := scale.toNat } } }
      else respond .range [] s) := by
  show execWriteSweep lo hi step settle threshold hysteresis k m e gap offset scale s = _
  unfold execWriteSweep
  simp only [sweepValid_iff, storedStep_eq, Option.isSome_iff_ne_none]
  split_ifs <;> rfl

/-- While a word is clocked out, half microsecond by half microsecond: its bits, most significant first, each under a low
and then a high clock (R194). -/
theorem tuneWave_of_lt {word half : Nat} (early : half < 48) :
    tuneWave word half =
      { clk := decide (half % 2 = 1), data := decide (word / 2 ^ (23 - half / 2) % 2 = 1), latch := false } := by
  unfold tuneWave
  rw [if_pos early, Nat.testBit_eq_decide_div_mod_eq]
  rfl

/-- From the end of the word the clock rests, and the latch pulse lasts one microsecond (R194). -/
theorem tuneWave_of_le {word half : Nat} (late : 48 ≤ half) :
    (tuneWave word half).clk = false ∧ ((tuneWave word half).latch = true ↔ half < 50) := by
  unfold tuneWave
  rw [if_neg (Nat.not_lt.2 late)]
  split_ifs with pulse
  · exact ⟨rfl, iff_of_true rfl pulse⟩
  · exact ⟨rfl, iff_of_false Bool.false_ne_true pulse⟩

/-- Settles O32: each request and stage by the sweep's activity, and the tune lines by the half microsecond. -/
theorem sweepRequestsAndPointStages : Obligations.SweepRequestsAndPointStages := by
  unfold Obligations.SweepRequestsAndPointStages
  refine ⟨exec_writeSweep, fun s => ?_, fun s => rfl, fun s => ?_, fun s => ?_, fun s => ?_, tuneLines_rest,
    fun w s tuning => ?_⟩
  · show execSweepStart s = _
    unfold execSweepStart
    cases s.sweep.activity <;> rfl
  · show execTuneLatch s = _
    unfold execTuneLatch
    rcases s.sweep.activity with _ | (w | _ | _ | _) <;> rfl
  · show execSettleEnd s = _
    unfold execSettleEnd
    split
    · rw [if_pos ‹_›]
    · rw [if_neg ‹_›]
  · show execPassGapEnd s = _
    unfold execPassGapEnd
    split
    · rw [if_pos ‹_›]
      rfl
    · rw [if_neg ‹_›]
  · have lines : ∀ half, tuneLines half s = tuneWave w half := fun half => by rw [tuneLines, tuning]
    refine ⟨fun k hk => ⟨?_, ?_⟩, fun half late => ?_⟩
    · have even : 2 * k % 2 = 0 ∧ 2 * k / 2 = k := by omega
      rw [lines, tuneWave_of_lt (by omega), even.1, even.2]
      rfl
    · have odd : (2 * k + 1) % 2 = 1 ∧ (2 * k + 1) / 2 = k := by omega
      rw [lines, tuneWave_of_lt (by omega), odd.1, odd.2]
      rfl
    · rw [lines]
      exact tuneWave_of_le late

end Sys2Proof.Machine
end

section
/-! ## Proofs: the refills -/

namespace Sys2Proof.Machine

-- One elaboration thread: the check's memory limit counts the stack of each.
set_option Elab.async false

section
variable {s : State} {z : Fin 16} {zs : List (Fin 16)}

/-! ### The zone that a refill starts for (R82, R83, R127) -/

/-- The zone wants a spare and is not barred. -/
def wantsRefill (s : State) (z : Fin 16) : Prop := wantsSpare s z = true ∧ s.engine.barred.read z = false

/-- The number of candidates that a refill of the zone would visit. -/
def refillCandidates (s : State) (z : Fin 16) : Nat := (formWalk s (s.plan.zones.read z).spareProfile z none).count

/-- A state with other barred zones. -/
def withBarred (s : State) (barred : Table Bool 16) : State := { s with engine := { s.engine with barred := barred } }

/-- A refill under way for the zone. -/
def withRefill (s : State) (z : Fin 16) : State :=
  { s with
    engine :=
      { s.engine with
        background := some
          { zone := z
            context :=
              { e0 := s.epoch, moved := false, research := 0,
                walk := formWalk s (s.plan.zones.read z).spareProfile z none, stage := .walking } } } }

theorem startRefillFrom_cons_passed (unwanted : ¬wantsRefill s z) : startRefillFrom (z :: zs) s = startRefillFrom zs s := by
  rw [startRefillFrom, if_neg]
  simpa [wantsRefill] using unwanted

/-- A walk without a candidate bars its zone at once (log entry 14). -/
theorem startRefillFrom_cons_barred (free : s.engine.background = none) (wanted : wantsRefill s z)
    (empty : refillCandidates s z = 0) :
    startRefillFrom (z :: zs) s = startRefillFrom zs (withBarred s (s.engine.barred.write z true)) := by
  have walked : beginWalk (.refill z) 0 s = withBarred s (s.engine.barred.write z true) := by
    rw [beginWalk_of_passOver_none 0 rfl]
    refine (if_pos empty).trans ?_
    have ended : closeSearch (.refill z) .noneFound s =
        { s with engine := { s.engine with background := none, barred := s.engine.barred.write z true } } := rfl
    rw [ended, ← free]
    rfl
  obtain ⟨wants, unbarred⟩ := wanted
  rw [startRefillFrom, if_pos (by simp [wants, unbarred]), walked]
  exact if_neg (by simp [withBarred, free])

theorem startRefillFrom_cons_begun (wanted : wantsRefill s z) (some : refillCandidates s z ≠ 0) :
    startRefillFrom (z :: zs) s = withRefill s z := by
  have walked : beginWalk (.refill z) 0 s = withRefill s z := by
    rw [beginWalk_of_passOver_none 0 rfl]
    exact if_neg some
  obtain ⟨wants, unbarred⟩ := wanted
  rw [startRefillFrom, if_pos (by simp [wants, unbarred]), walked]
  exact if_pos rfl

/-- The zone's walk holds no candidate, and before it in the list no wanting zone's does. -/
def passedOver (zs : List (Fin 16)) (s : State) (z : Fin 16) : Prop :=
  ∀ y ∈ zs, y < z → wantsRefill s y → refillCandidates s y = 0

/-- What becomes of the zones of an ascending list: those that are passed over with an empty walk are barred, up to the
first with candidates, for which the refill starts. -/
structure RefillResult (zs : List (Fin 16)) (s : State) (barred : Table Bool 16) : Prop where
  barring : ∀ z, barred.read z = true ↔ s.engine.barred.read z = true ∨
    (z ∈ zs ∧ wantsRefill s z ∧ refillCandidates s z = 0 ∧ passedOver zs s z)
  none : (∀ z ∈ zs, wantsRefill s z → refillCandidates s z = 0) → startRefillFrom zs s = withBarred s barred
  starts : ∀ z ∈ zs, wantsRefill s z → refillCandidates s z ≠ 0 → passedOver zs s z →
    startRefillFrom zs s = withRefill (withBarred s barred) z

theorem refillResult_exists (free : s.engine.background = none) (ascending : zs.Pairwise (· < ·)) :
    ∃ barred, RefillResult zs s barred := by
  induction zs generalizing s with
  | nil => exact ⟨s.engine.barred, by simp, fun _ => rfl, by simp⟩
  | cons z rest ih =>
    obtain ⟨first, ascending⟩ := List.pairwise_cons.1 ascending
    by_cases wanted : wantsRefill s z
    · by_cases empty : refillCandidates s z = 0
      · obtain ⟨barred, result⟩ := ih (s := withBarred s (s.engine.barred.write z true)) free ascending
        have others : ∀ y ∈ rest, wantsRefill (withBarred s (s.engine.barred.write z true)) y ↔ wantsRefill s y := by
          intro y hy
          show wantsSpare s y = true ∧ (s.engine.barred.write z true).read y = false ↔ _
          rw [Table.read_write, if_neg (ne_of_lt (first y hy))]
          rfl
        have candidates : ∀ y, refillCandidates (withBarred s (s.engine.barred.write z true)) y = refillCandidates s y :=
          fun _ => rfl
        have passed : ∀ y,
            passedOver rest (withBarred s (s.engine.barred.write z true)) y ↔ passedOver (z :: rest) s y := by
          intro y
          unfold passedOver
          rw [List.forall_mem_cons]
          refine ⟨fun h => ⟨fun _ _ => empty, fun x hx lt wants => h x hx lt ((others x hx).2 wants)⟩,
            fun h x hx lt wants => h.2 x hx lt ((others x hx).1 wants)⟩
        refine ⟨barred, fun y => ?_, fun none => ?_, fun y hy wants some before => ?_⟩
        · rw [result.barring y, passed, candidates, List.mem_cons]
          show (s.engine.barred.write z true).read y = true ∨ _ ↔ _
          rw [Table.read_write]
          by_cases same : z = y
          · subst same
            rw [if_pos rfl]
            refine iff_of_true (.inl rfl) (.inr ⟨.inl rfl, wanted, empty, fun x hx lt => ?_⟩)
            rcases List.mem_cons.1 hx with rfl | hx
            · exact absurd lt (lt_irrefl _)
            · exact absurd lt (first x hx).asymm
          · rw [if_neg same]
            refine or_congr_right ⟨fun h => ⟨.inr h.1, (others y h.1).1 h.2.1, h.2.2⟩, fun h => ?_⟩
            have hy := h.1.resolve_left (Ne.symm same)
            exact ⟨hy, (others y hy).2 h.2.1, h.2.2⟩
        · rw [startRefillFrom_cons_barred free wanted empty,
            result.none fun y hy wants => none y (.tail _ hy) ((others y hy).1 wants)]
          rfl
        · have hy : y ∈ rest := (List.mem_cons.1 hy).resolve_left fun same => some (same ▸ empty)
          rw [startRefillFrom_cons_barred free wanted empty,
            result.starts y hy ((others y hy).2 wants) some ((passed y).2 before)]
          rfl
      · have stops : ∀ y, y ∈ z :: rest → passedOver (z :: rest) s y → y = z := fun y hy before =>
          (List.mem_cons.1 hy).resolve_right fun hy => empty (before z (.head _) (first y hy) wanted)
        refine ⟨s.engine.barred, fun y => (or_iff_left ?_).symm, fun none => absurd (none z (.head _) wanted) empty,
          fun y hy wants some before => ?_⟩
        · rintro ⟨hy, -, candidates, before⟩
          exact empty (stops y hy before ▸ candidates)
        · rw [stops y hy before, startRefillFrom_cons_begun wanted empty]
          rfl
    · obtain ⟨barred, result⟩ := ih free ascending
      have passed : ∀ y, passedOver rest s y ↔ passedOver (z :: rest) s y := fun y => by
        unfold passedOver
        rw [List.forall_mem_cons]
        exact ⟨fun h => ⟨fun _ wants => absurd wants wanted, h⟩, And.right⟩
      have member : ∀ y, wantsRefill s y → (y ∈ z :: rest ↔ y ∈ rest) := fun y wants =>
        List.mem_cons.trans (or_iff_right fun same => wanted (same ▸ wants))
      refine ⟨barred, fun y => (result.barring y).trans (or_congr_right ?_), fun none => ?_,
        fun y hy wants some before => ?_⟩
      · rw [passed]
        exact ⟨fun h => ⟨.tail _ h.1, h.2⟩, fun h => ⟨(member y h.2.1).1 h.1, h.2⟩⟩
      · rw [startRefillFrom_cons_passed wanted, result.none fun y hy => none y (.tail _ hy)]
      · rw [startRefillFrom_cons_passed wanted, result.starts y ((member y wants).1 hy) wants some ((passed y).2 before)]

end

/-- Settles O27, by induction on the zones in ascending order. -/
theorem refillsStartAtTheLowestZone : Obligations.RefillsStartAtTheLowestZone := by
  unfold Obligations.RefillsStartAtTheLowestZone
  refine fun s => ⟨fun undue => ?_, fun due => ?_⟩
  · unfold startRefill
    rw [if_neg (mt (refillAllowed_iff s).1 undue)]
  · have begins : startRefill s = startRefillFrom (List.finRange 16) s := if_pos ((refillAllowed_iff s).2 due)
    obtain ⟨-, -, free, -⟩ := due
    obtain ⟨barred, result⟩ := refillResult_exists (zs := List.finRange 16) free (by decide)
    have passed : ∀ z, passedOver (List.finRange 16) s z ↔ ∀ y < z, wantsRefill s y → refillCandidates s y = 0 := fun z => by
      simp [passedOver]
    refine ⟨barred, fun z => ?_, fun none => ?_, fun z wants some before => ?_⟩
    · rw [result.barring z, passed]
      exact or_congr_right (and_iff_right (List.mem_finRange z))
    · rw [begins]
      exact result.none fun z _ => none z
    · rw [begins]
      exact result.starts z (List.mem_finRange z) wants some ((passed z).2 before)

end Sys2Proof.Machine
end

section
/-! ## Proofs: the answer queues, the polls and the refills

A third view of the commands. `Served` says of an operation what it does to the answers and the open requests that it may
count, with one answer more allowed to the station whose frame is handled; from it, and from what the branches do, follows what
every command keeps of the modes, the answer queues and the refills that are due (`exec_upkeep`). -/

namespace Sys2Proof.Machine

-- One elaboration thread: the check's memory limit counts the stack of each.
set_option Elab.async false

/-! ### Answers given and work counted -/

/-- A record whose branch, open-request flag and answers stay. -/
structure Station.Linked (st st' : Station) : Prop where
  branch : st'.branch = st.branch := by rfl
  openRequest : st'.openRequest = st.openRequest := by rfl
  answers : st'.answers = st.answers := by rfl

/-- A record of a station with `n` pieces of work before an operation and `m` after it: its flag keeps agreeing with them,
its answers stand behind those it had, and the answers and the work together grow by no more than `k`. -/
structure Station.Served (k n m : Nat) (st st' : Station) : Prop where
  branch : st'.branch = st.branch := by rfl
  openRequest : n = st.openRequest.toNat → m = st'.openRequest.toNat
  room : st'.answers.length + m ≤ st.answers.length + n + k
  head : st.answers <+: st'.answers

theorem Station.Linked.refl (st : Station) : st.Linked st := {}

theorem Station.Linked.trans {a b c : Station} (h : a.Linked b) (k : b.Linked c) : a.Linked c where
  branch := k.branch.trans h.branch
  openRequest := k.openRequest.trans h.openRequest
  answers := k.answers.trans h.answers

theorem Station.Linked.served {st st' : Station} (h : st.Linked st') (n : Nat) : st.Served 0 n n st' where
  branch := h.branch
  openRequest := by rw [h.openRequest]; exact id
  room := by rw [h.answers]; exact le_refl _
  head := by rw [h.answers]

theorem Station.Served.trans {k j n m o : Nat} {a b c : Station} (h : a.Served k n m b) (q : b.Served j m o c) :
    a.Served (k + j) n o c where
  branch := q.branch.trans h.branch
  openRequest := q.openRequest ∘ h.openRequest
  room := by have := h.room; have := q.room; omega
  head := h.head.trans q.head

/-- The answers that an operation may add for a station: one for the station whose frame is handled, none for another. -/
def allowance (who : Option (Fin 48)) (r : Fin 48) : Nat := if who = some r then 1 else 0

@[simp] theorem allowance_none (r : Fin 48) : allowance none r = 0 := rfl

/-- An operation that leaves the mode and the branches and serves every record: for each but the station whose frame it
handles, answers come only in place of work that is done. -/
structure Served (who : Option (Fin 48)) (s t : State) : Prop where
  mode : t.console.mode = s.console.mode
  branches : t.branches = s.branches
  background : s.console.mode = .config → s.engine.background = none → t.engine.background = none
  work : ∀ r, stationWork t.engine r ≤ stationWork s.engine r + allowance who r
  host : hostWork s.engine = s.console.openRequest.toNat → hostWork t.engine = t.console.openRequest.toNat
  stations : ∀ r, Option.Rel (Station.Served (allowance who r) (stationWork s.engine r) (stationWork t.engine r))
    (s.stations.read r) (t.stations.read r)

section
variable {s t u : State} {who : Option (Fin 48)}

/-- A pair of served records, one after the other. -/
theorem optionRel_served {k j n m o : Nat} {x y z : Option Station} (h : Option.Rel (Station.Served k n m) x y)
    (q : Option.Rel (Station.Served j m o) y z) : Option.Rel (Station.Served (k + j) n o) x z := by
  cases h with
  | none => cases q with | none => exact .none
  | some hab => cases q with | some hbc => exact .some (hab.trans hbc)

theorem Served.trans (h : Served who s t) (k : Served none t u) : Served who s u where
  mode := k.mode.trans h.mode
  branches := k.branches.trans h.branches
  background config none := k.background (h.mode.trans config) (h.background config none)
  work r := (k.work r).trans (h.work r)
  host := k.host ∘ h.host
  stations r := optionRel_served (h.stations r) (k.stations r)

theorem Served.andThen (h : Served none s t) (k : Served who t u) : Served who s u where
  mode := k.mode.trans h.mode
  branches := k.branches.trans h.branches
  background config none := k.background (h.mode.trans config) (h.background config none)
  work r := (k.work r).trans (Nat.add_le_add_right (h.work r) _)
  host := k.host ∘ h.host
  stations r := by
    have both := optionRel_served (h.stations r) (k.stations r)
    rwa [allowance_none, Nat.zero_add] at both

/-! ### Operations that serve no one -/

theorem linkedStations_of_eq (h : t.stations = s.stations) (r : Fin 48) :
    Option.Rel Station.Linked (s.stations.read r) (t.stations.read r) := h ▸ optionRel_refl Station.Linked.refl _

theorem linkedStations_change {r : Fin 48} {f : Station → Station} (hf : ∀ st : Station, st.Linked (f st))
    (h : t.stations = s.stations.change r (Option.map f)) (q : Fin 48) :
    Option.Rel Station.Linked (s.stations.read q) (t.stations.read q) := by
  rw [h, Table.read_change]
  split
  · exact optionRel_map hf _
  · exact optionRel_refl Station.Linked.refl _

theorem linkedStations_each {f : Station → Station} (hf : ∀ st : Station, st.Linked (f st))
    (h : t.stations = s.stations.each (Option.map f)) (q : Fin 48) :
    Option.Rel Station.Linked (s.stations.read q) (t.stations.read q) := by
  rw [h, Table.read_each]
  exact optionRel_map hf _

/-- An operation that gives no answer and leaves the work as it is counted. -/
structure Plain (s t : State) : Prop where
  mode : t.console.mode = s.console.mode := by simp
  branches : t.branches = s.branches := by simp
  background : s.console.mode = .config → s.engine.background = none → t.engine.background = none := by
    exact fun _ h => by simpa using h
  work : ∀ r, stationWork t.engine r = stationWork s.engine r := by exact fun r => by simp [stationWork_eq]
  host : hostWork t.engine = hostWork s.engine := by simp [hostWork_eq]
  openRequest : t.console.openRequest = s.console.openRequest := by simp
  stations : ∀ r, Option.Rel Station.Linked (s.stations.read r) (t.stations.read r) := by
    exact linkedStations_of_eq (by simp)

theorem Plain.served (h : Plain s t) : Served none s t where
  mode := h.mode
  branches := h.branches
  background := h.background
  work r := (h.work r).le
  host := by rw [h.host, h.openRequest]; exact id
  stations r := by
    rw [h.work r]
    exact optionRel_mono (fun k => k.served _) (h.stations r)

theorem Served.refl (s : State) : Served none s s := Plain.served {}

/-- A fold of operations that serve no one. -/
theorem served_foldl {α : Type} {f : State → α → State} (h : ∀ t a, Served none t (f t a)) (l : List α) (s : State) :
    Served none s (l.foldl f s) :=
  foldl_ind (Served none s) f (fun t a k => k.trans (h t a)) l s (.refl s)

theorem plain_changeStation {r : Fin 48} {f : Station → Station} (h : ∀ st : Station, st.Linked (f st)) :
    Plain s (changeStation r f s) where
  stations := linkedStations_change h rfl

theorem takeNotice_linked (n : Notice) (st : Station) : st.Linked (st.takeNotice n) := by
  unfold Station.takeNotice
  split_ifs <;> exact {}

theorem failed_linked (st : Station) : st.Linked st.failed := {}

theorem plain_raise (a : Attention) (s : State) : Plain s (raise a s) := {}

theorem plain_setClearing (z : Fin 16) (c : Option TickCounter) (s : State) :
    Plain s (changeZone z (fun zs => { zs with clearing := c }) s) := {}

theorem plain_giveNotice (r : Fin 48) (n : Notice) (s : State) : Plain s (giveNotice r n s) :=
  plain_changeStation (takeNotice_linked n)

theorem plain_withdrawAdvice (r : Fin 48) (ch : Fin 64) (s : State) : Plain s (withdrawAdvice r ch s) :=
  plain_changeStation fun _ => {}

theorem plain_countFailure (p : Poll) (s : State) : Plain s (countFailure p s) := by
  unfold countFailure
  split
  · exact {}
  · exact plain_changeStation failed_linked

/-- The epoch advances (R30): the contexts are marked, their work is the same. -/
theorem plain_advanceEpoch (s : State) : Plain s (advanceEpoch s) := by
  have foreground : (advanceEpoch s).engine.foreground = s.engine.foreground.map Foreground.marked := rfl
  obtain ⟨work, host⟩ := sameWork_of_foreground (e := s.engine) (e' := (advanceEpoch s).engine) rfl
    (by rw [foreground]; cases s.engine.foreground with | none => rfl | some f => cases f <;> rfl)
    (by rw [foreground]; cases s.engine.foreground with | none => rfl | some f => cases f <;> rfl)
  exact { work := work, host := host, background := fun _ h => by simp [h] }

/-! ### The Grant Table and the zones -/

theorem served_retireSlot (cause : Option RetireCause) (i : Fin 384) (s : State) :
    Served none s (retireSlot cause i s) := by
  unfold retireSlot
  split
  · exact .refl s
  · exact Plain.served {}
  · exact Plain.served {}
  · rename_i o _
    have freed : Served none s (lowerHeld o.station (freeSlot i s)) :=
      (Plain.served (t := freeSlot i s) {}).trans
        (plain_changeStation (s := freeSlot i s) (f := fun st => { st with held := st.held - 1 }) fun _ => {}).served
    have told : ∀ v, Served none v (giveRetired o cause v) := fun v => by
      cases cause with
      | none => exact .refl v
      | some c => exact (plain_giveNotice _ _ v).served
    have withdrawn := (freed.trans (told _)).trans (plain_withdrawAdvice o.station o.channel _).served
    dsimp only
    split
    · exact withdrawn.trans (Plain.served {})
    · exact withdrawn

theorem served_retireSlots (cause : Option RetireCause) (is : List (Fin 384)) (s : State) :
    Served none s (retireSlots cause is s) :=
  served_foldl (fun t i => served_retireSlot cause i t) is s

theorem served_announcePhases (z : Fin 16) (s : State) : Served none s (announcePhases z s) :=
  served_foldl (fun _ _ => (plain_giveNotice _ _ _).served) _ s

theorem served_changeoverSteady (z : Fin 16) (forced : Nat) (s : State) :
    Served none s (changeoverSteady z forced s).1 := by
  have turned : Served none s (announcePhases z { s with slots := s.slots.each (Slot.turn z) }) :=
    (Plain.served {}).trans (served_announcePhases z _)
  unfold changeoverSteady
  dsimp only
  split_ifs
  · exact turned
  · exact turned.trans (Plain.served {})
  · exact turned.trans (served_retireSlots _ _ _)

theorem served_changeoverZone {z : Fin 16} {force : Bool} {c : ChangeoverCounts}
    (h : changeoverZone z force s = some (t, c)) : Served none s t := by
  unfold changeoverZone at h
  split_ifs at h
  · have e : t = (changeoverSteady z (endingSlots z s).length (retireForced z s)).1 := by rw [Option.some.inj h]
    have forced : Served none s (retireForced z s) := (served_retireSlots _ _ s).trans (plain_setClearing z none _).served
    exact e ▸ forced.trans (served_changeoverSteady _ _ _)
  · have e : t = (changeoverSteady z 0 s).1 := by rw [Option.some.inj h]
    exact e ▸ served_changeoverSteady _ _ _

/-- A refill starts in RUN only (R82). -/
theorem plain_startRefill (s : State) : Plain s (startRefill s) where
  background config none := by
    unfold startRefill
    rw [if_neg]
    · exact none
    · intro allowed
      rw [((refillAllowed_iff s).1 allowed).1] at config
      cases config

theorem plain_dropPending (i : Fin 384) (s : State) : Plain s (dropPending i s) := {}

theorem served_lapseMove (i : Fin 384) (s : State) : Served none s (lapseMove i s) := by
  unfold lapseMove
  split
  · exact (plain_dropPending i s).served.trans (plain_giveNotice _ _ _).served
  · exact .refl s

theorem served_tickHold (i : Fin 384) (s : State) : Served none s (tickHold i s) := by
  unfold tickHold
  split
  · exact .refl s
  · split_ifs
    · exact .refl s
    · exact (served_retireSlot _ _ s).trans (plain_startRefill _).served
    · exact Plain.served {}

theorem served_tickMove (i : Fin 384) (s : State) : Served none s (tickMove i s) := by
  unfold tickMove
  split
  · exact .refl s
  · split_ifs
    · exact .refl s
    · exact (served_lapseMove i s).trans (plain_startRefill _).served
    · exact Plain.served {}

theorem served_tickClear (z : Fin 16) (s : State) : Served none s (tickClear z s) := by
  unfold tickClear
  split
  · exact .refl s
  · split_ifs
    · exact .refl s
    · exact ((served_retireSlots _ _ s).trans (plain_setClearing z none _).served).trans (plain_startRefill _).served
    · exact Plain.served {}

/-! ### The plan and the foreign list -/

theorem served_writePlan (plan : Plan) (tightens : Bool) (s : State) : Served none s (writePlan plan tightens s) := by
  have stored : Served none s (writePlan plan false s) :=
    Plain.served { background := fun _ h => h, work := fun _ => rfl, host := rfl }
  rw [writePlan_eq]
  split
  · exact stored.trans (plain_advanceEpoch _).served
  · exact stored

theorem plain_discardRefill (z : Fin 16) (s : State) : Plain s (discardRefill z s) where
  background _ none := by
    unfold discardRefill
    rw [none]
    exact none

theorem served_applySpareSettings (z : Fin 16) (old new : ZonePlan) (s : State) :
    Served none s (applySpareSettings z old new s) := by
  have discarded := (plain_discardRefill z s).served
  unfold applySpareSettings
  dsimp only
  split_ifs
  · exact .refl s
  · exact discarded.trans (served_retireSlots _ _ _)
  · exact discarded.trans (served_retireSlots _ _ _)

theorem served_reachSlot (index : Nat) (i : Fin 384) (s : State) : Served none s (reachSlot index i s) := by
  unfold reachSlot
  split
  · exact .refl s
  · exact (Plain.served {}).trans (plain_giveNotice _ _ _).served
  · exact Plain.served {}
  · exact served_retireSlot _ _ s

theorem served_confirmForeign (index : Nat) (s : State) : Served none s (confirmForeign index s) := by
  have advanced : Served none s (raise .foreignNew (advanceEpoch s)) :=
    (plain_advanceEpoch s).served.trans (Plain.served {})
  unfold confirmForeign
  dsimp only
  split
  · exact (advanced.trans (served_foldl (fun t i => served_reachSlot index i t) _ _)).trans (plain_raise _ _).served
  · exact advanced.trans (served_foldl (fun t i => served_reachSlot index i t) _ _)

theorem plain_dropEntry (e : ForeignEntry) (s : State) : Plain s (dropEntry e s) := {}

theorem served_decidePoint (index level : Nat) (s : State) : Served none s (decidePoint index level s) := by
  have listed : ∀ l, Served none s (setForeign l s) := fun l => Plain.served {}
  unfold decidePoint
  split
  · exact .refl s
  · split
    · split
      · unfold hitEntry
        dsimp only
        split
        · exact (listed _).trans (served_confirmForeign _ _)
        · exact listed _
      · exact Plain.served {}
    · split
      · unfold hitNew
        dsimp only
        split_ifs
        · exact Plain.served {}
        · exact (listed _).trans (served_confirmForeign _ _)
        · exact listed _
      · exact .refl s

theorem plain_nextPoint (s : State) : Plain s (nextPoint s) := {}

theorem served_completePoint (level : Nat) (s : State) : Served none s (completePoint level s) := by
  have shown : Served none s { s with sweep := { s.sweep with last := some (level, s.sweep.cursor) } } := Plain.served {}
  exact (shown.trans (served_decidePoint _ _ _)).trans (plain_nextPoint _).served

/-! ### The Lease Timer -/

theorem plain_issueTick (s : State) : Plain s (issueTick s) where
  stations := linkedStations_each (f := fun st => if leaseReached s.branches st then { st with lease := st.lease.owe } else st)
    (fun st => by split <;> exact {}) rfl

theorem plain_stopTick (s : State) : Plain s (stopTick s) where
  stations := linkedStations_each (f := fun st => { st with lease := st.lease.settle }) (fun _ => {}) rfl

theorem plain_tickLease (r : Fin 48) (s : State) : Plain s (tickLease r s) := by
  unfold tickLease
  split
  · exact {}
  · split_ifs
    · exact {}
    · exact { stations := linkedStations_change (r := r) (f := Station.lapse) (fun _ => {}) rfl }
    · exact plain_changeStation fun _ => {}
    · exact plain_changeStation fun _ => {}

theorem plain_takeReplyNotice (r : Fin 48) (s : State) : Plain s (takeReplyNotice r s) := by
  have taken (st : Station) : st.Linked { st with
      validReplies := st.validReplies - 1, leaseState := .current, lease := { st.lease with count := s.timing.lease } } := {}
  refine { stations := ?_ }
  unfold takeReplyNotice
  split
  · exact linkedStations_of_eq rfl
  · split_ifs
    · exact linkedStations_of_eq rfl
    · exact linkedStations_change (r := r) taken rfl
    · exact linkedStations_change (r := r) taken rfl

end

end Sys2Proof.Machine
end

section
namespace Sys2Proof.Machine

-- One elaboration thread: the check's memory limit counts the stack of each.
set_option Elab.async false

/-! ### Work that is answered, taken and opened -/

section
variable {s t u : State} {job : Job} {c : SearchContext}

/-- A station's work answered: the answer stands in the place of the work, which is counted no longer (R67). -/
theorem served_answerWork (q : Fin 48) (a : Answer) (mode : u.console.mode = s.console.mode)
    (branches : u.branches = s.branches) (background : u.engine.background = s.engine.background)
    (stations : u.stations = s.stations) (console : u.console.openRequest = s.console.openRequest)
    (work : ∀ r, stationWork s.engine r = (decide (q = r)).toNat + (u.engine.queue.filterMap Work.station?).count r)
    (host : hostWork s.engine = (u.engine.queue.filterMap Work.hostKind?).length) :
    Served none s (answerWork q a u) := by
  have left : ∀ r, stationWork (answerWork q a u).engine r = (u.engine.queue.filterMap Work.station?).count r := fun r => by
    rw [stationWork_idle (by rw [answerWork_eq]), (answerWork_frame q a u).2.2.2.1]
  refine
    { mode := by simpa using mode
      branches := by simpa using branches
      background := fun _ none => by simpa [background] using none
      work := fun r => by rw [left, work]; simp
      host := fun h => by
        rw [hostWork_idle (by rw [answerWork_eq]), (answerWork_frame q a u).2.2.2.1, ← host, h]
        simp [console]
      stations := fun r => ?_ }
  have answered : (answerWork q a u).stations.read r =
      if q = r then (s.stations.read r).map fun st => { st with answers := st.answers ++ [a], openRequest := false }
      else s.stations.read r := by
    rw [answerWork_eq, ← stations, Table.read_change]
  rw [answered, left, work]
  split_ifs with hq
  · refine optionRel_map (fun st => ⟨rfl, fun flag => ?_, ?_, ⟨_, rfl⟩⟩) _
    · have := Bool.toNat_le st.openRequest
      simp only [decide_true, hq, Bool.toNat_true] at flag
      show _ = 0
      omega
    · simp [hq]
      omega
  · rw [decide_eq_false hq, Bool.toNat_false, Nat.zero_add]
    exact optionRel_refl (fun st => (Station.Linked.refl st).served _) _

/-- The work of a station in the foreground answered. -/
theorem served_answerForeground {f : Foreground} {q : Fin 48} (held : s.engine.foreground = some f)
    (station : f.station? = some q) (a : Answer) : Served none s (answerWork q a s) :=
  served_answerWork q a rfl rfl rfl rfl rfl (stationWork_foreground held station) (hostWork_foreground held station)

/-- A station's work at the front answered in the event that takes it. -/
theorem served_answerFront {w : Work} {q : Fin 48} {rest : List Work} (free : s.engine.foreground = none)
    (front : s.engine.queue = w :: rest) (station : w.station? = some q) (a : Answer) :
    Served none s (answerWork q a (dequeue rest s)) := by
  have queue : (dequeue rest s).engine.queue = rest := by rw [dequeue_eq]
  refine served_answerWork q a (by simp) (by simp) (by simp) (by simp) (by simp) (fun r => ?_) ?_
  · rw [queue, stationWork_front free front, Work.isOf_eq station]
  · rw [queue, hostWork_front free front, Work.host_of_station station]
    simp

/-- A search that is held ends (R78, R80, R83). -/
theorem served_close (held : holdsSearch s.engine job c) (why : RefuseReason) : Served none s (closeSearch job why s) := by
  cases job with
  | request w => exact served_answerForeground (f := .request w c) held rfl _
  | move w => exact served_answerForeground (f := .move w c) held rfl _
  | refill z => exact Plain.served { background := fun _ _ => rfl }

/-- The front entry ends in the event that takes it (R78, R80). -/
theorem served_turnAway {w : Work} {rest : List Work} (free : s.engine.foreground = none)
    (front : s.engine.queue = w :: rest) (entry : job.entry = some w) (why : RefuseReason) :
    Served none s (closeSearch job why (dequeue rest s)) := by
  cases job with
  | request v => cases entry; exact served_answerFront free front rfl _
  | move v => cases entry; exact served_answerFront free front rfl _
  | refill z => cases entry

/-- The foreground's work goes on as work of the same station or kind. -/
theorem plain_setForeground {f g : Foreground} (held : s.engine.foreground = some f) (station : g.station? = f.station?)
    (kind : g.hostKind? = f.hostKind?) : Plain s (setForeground g s) := by
  obtain ⟨work, host⟩ := sameWork_of_foreground (e := s.engine) (e' := (setForeground g s).engine) rfl
    (by rw [held]; exact station) (by rw [held]; exact kind)
  exact
    { mode := rfl, branches := rfl, background := fun _ h => h, work := work, host := host, openRequest := rfl,
      stations := linkedStations_of_eq rfl }

/-- The front entry becomes the foreground's work (R66). -/
theorem plain_takeFront {w : Work} {rest : List Work} {f : Foreground} (free : s.engine.foreground = none)
    (front : s.engine.queue = w :: rest) (station : f.station? = w.station?) (kind : f.hostKind? = w.hostKind?) :
    Plain s (setForeground f (dequeue rest s)) := by
  have queue : (setForeground f (dequeue rest s)).engine.queue = rest := by
    show (dequeue rest s).engine.queue = rest
    rw [dequeue_eq]
  have foreground : (setForeground f (dequeue rest s)).engine.foreground = some f := rfl
  refine
    { mode := by simp [setForeground], branches := by simp [setForeground], openRequest := by simp [setForeground]
      background := fun _ h => by simpa [setForeground] using h
      work := fun r => ?_
      host := ?_
      stations := linkedStations_of_eq (by simp [setForeground]) }
  · rw [stationWork_front free front, stationWork_eq, queue, foreground]
    unfold Work.isOf
    rw [← station]
    cases hf : f.station? with
    | none => simp [hf]
    | some q => by_cases hq : q = r <;> simp [hf, hq]
  · rw [hostWork_front free front, hostWork_eq, queue, foreground, ← kind]
    cases hf : f.hostKind? <;> simp [hf]

/-- A search that is held goes on (R74 to R77): a refill is held in RUN only. -/
theorem plain_setContext (held : holdsSearch s.engine job c) (c' : SearchContext) : Plain s (setContext job c' s) := by
  cases job with
  | request w => exact plain_setForeground (f := .request w c) held rfl rfl
  | move w => exact plain_setForeground (f := .move w c) held rfl rfl
  | refill z =>
    refine { background := fun _ none => ?_, work := fun _ => rfl, host := rfl }
    have held : s.engine.background = some { zone := z, context := c } := held
    rw [held] at none
    cases none

theorem served_beginWalk (held : holdsSearch s.engine job c) (n : Nat) : Served none s (beginWalk job n s) := by
  rcases beginWalk_cases job n s with hw | ⟨d, -, -, -, hw⟩ <;> rw [hw]
  · exact served_close held _
  · exact (plain_setContext held d).served

theorem served_fullResearch (held : holdsSearch s.engine job c) : Served none s (fullResearch job c s) := by
  unfold fullResearch
  split
  · exact served_beginWalk held _
  · exact served_close held _

theorem served_evaluateNext (held : holdsSearch s.engine job c) : Served none s (evaluateNext job c s) := by
  unfold evaluateNext
  split
  · exact served_close held _
  · dsimp only
    split_ifs
    · exact (plain_setContext held _).served
    · exact served_close held _
    · exact (plain_setContext held _).served

theorem served_retestSearch (held : holdsSearch s.engine job c) (f : Nat) : Served none s (retestSearch job c f s) := by
  unfold retestSearch
  split
  · exact (plain_setContext held _).served
  · exact served_fullResearch held

theorem served_recordFound (held : holdsSearch s.engine job c) (f : Nat) : Served none s (recordFound job f s) := by
  have advanced : ∀ v : State, Served none v (advanceEpoch v) := fun v => (plain_advanceEpoch v).served
  cases job with
  | request w =>
    show Served none s (recordGrant w f s)
    unfold recordGrant
    split
    · exact served_close held _
    · rename_i i _
      have raised : Served none s (raiseHeld w.station (setSlot i (grantSlot s w f) s)) :=
        (Plain.served (t := setSlot i (grantSlot s w f) s) {}).trans
          (plain_changeStation (f := fun st => { st with held := st.held + 1 }) fun _ => {}).served
      have held : (advanceEpoch (raiseHeld w.station (setSlot i (grantSlot s w f) s))).engine.foreground =
          some (.request w c.marked) := by
        show s.engine.foreground.map Foreground.marked = _
        rw [show s.engine.foreground = some (.request w c) from held]
        rfl
      exact (raised.trans (advanced _)).trans (served_answerForeground held rfl _)
  | move w =>
    have held : (advanceEpoch (setSlot w.slot (openMove f s.timing.moveTime (s.slots.read w.slot)) s)).engine.foreground =
        some (.move w c.marked) := by
      show s.engine.foreground.map Foreground.marked = _
      rw [show s.engine.foreground = some (.move w c) from held]
      rfl
    exact ((Plain.served {}).trans (advanced _)).trans (served_answerForeground held rfl _)
  | refill z =>
    show Served none s (recordSpare z f s)
    unfold recordSpare
    split
    · exact served_close held _
    · rename_i i _
      have listed : Served none s (changeZone z (fun zs => { zs with spares := zs.spares ++ [i] }) (setSlot i
          (.spare { frequency := f, profile := (s.plan.zones.read z).spareProfile, zone := z, conflict := false }) s)) :=
        Plain.served {}
      exact (listed.trans (advanced _)).trans (Plain.served { background := fun _ _ => rfl })

theorem served_completeSearch (held : holdsSearch s.engine job c) (f : Nat) (afterRetest : Bool) :
    Served none s (completeSearch job c f afterRetest s) := by
  unfold completeSearch
  split_ifs
  · exact served_close held _
  · exact served_recordFound held f
  · exact served_fullResearch held
  · exact (plain_setContext held _).served
  · exact served_close held _

/-! ### The console's work -/

/-- Console work ends with its result: it is counted no longer, and the console's request is closed (R67, R179). -/
theorem served_placeResult (mode : t.console.mode = s.console.mode) (branches : t.branches = s.branches)
    (background : t.engine.background = s.engine.background) (stations : t.stations = s.stations)
    (closed : t.console.openRequest = false) (work : ∀ r, stationWork t.engine r = stationWork s.engine r)
    (host : hostWork s.engine = hostWork t.engine + 1) : Served none s t where
  mode := mode
  branches := branches
  background _ none := background.trans none
  work r := (work r).le
  host h := by
    have := Bool.toNat_le s.console.openRequest
    rw [closed, Bool.toNat_false]
    omega
  stations r := by
    rw [work, stations]
    exact optionRel_refl (fun st => (Station.Linked.refl st).served _) _

/-- Console work at the front ends in the event that takes it (R88, R89). -/
theorem served_finishHost {w : Work} {rest : List Work} (kind : HostKind) (outcome : HostOutcome)
    (free : s.engine.foreground = none) (front : s.engine.queue = w :: rest) (host : w.hostKind?.isSome = true) :
    Served none s (placeResult kind outcome (dequeue rest s)) := by
  have queue : (placeResult kind outcome (dequeue rest s)).engine.queue = rest := by
    rw [(placeResult_frame kind outcome (dequeue rest s)).2.2.2.1, dequeue_eq]
  have idle : (placeResult kind outcome (dequeue rest s)).engine.foreground = none := by
    rw [(placeResult_frame kind outcome (dequeue rest s)).2.2.2.1]
    simpa using free
  refine served_placeResult (by simp) (by simp) (by simp) (by simp) rfl (fun r => ?_) ?_
  · rw [stationWork_idle idle, queue, stationWork_front free front, Work.isOf_of_host host]
    simp
  · rw [hostWork_idle idle, queue, hostWork_front free front, host, Bool.toNat_true, Nat.add_comm]

/-- Console work in the foreground ends (R89, R91). -/
theorem served_closeHost {f : Foreground} (kind : HostKind) (outcome : HostOutcome)
    (held : s.engine.foreground = some f) (host : f.hostKind?.isSome = true) :
    Served none s (leaveForeground (placeResult kind outcome s)) := by
  have station : f.station? = none := by
    cases f with
    | request | move => cases host
    | pin | audit => rfl
  refine served_placeResult rfl rfl rfl rfl rfl (fun r => ?_) ?_
  · rw [stationWork_idle rfl, stationWork_eq, held]
    simp [station, placeResult, raise, leaveForeground]
  · obtain ⟨k, hk⟩ := Option.isSome_iff_exists.1 host
    rw [hostWork_idle (e := (leaveForeground (placeResult kind outcome s)).engine) rfl, hostWork_eq, held]
    simp [hk, placeResult, raise, leaveForeground, Nat.add_comm]

theorem served_closePin {w : PinWork} (held : s.engine.foreground = some (.pin w c)) (outcome : HostOutcome) :
    Served none s (closePin outcome s) := served_closeHost .pin outcome held rfl

theorem served_beginPin {w : PinWork} (held : s.engine.foreground = some (.pin w c)) (n : Nat) :
    Served none s (beginPin w n s) := by
  rcases beginPin_cases w n s with ⟨f, h⟩ | ⟨d, -, -, -, h⟩ <;> rw [h]
  · exact served_closePin held _
  · exact (plain_setForeground (g := .pin w d) held rfl rfl).served

theorem served_retestPin {w : PinWork} (held : s.engine.foreground = some (.pin w c)) : Served none s (retestPin w c s) := by
  unfold retestPin
  split
  · exact served_closePin held _
  · exact (plain_setForeground (g := .pin w { c with stage := .retested w.index }) held rfl rfl).served

theorem served_recordPin (i : Fin 384) (index : Nat) (p z : Fin 16) (label : List Byte) (s : State) :
    Served none s (recordPin i index p z label s) :=
  (Plain.served (t := setSlot i (pinnedSlot s index p z label) s) {}).trans (plain_advanceEpoch _).served

theorem served_completePin {w : PinWork} (held : s.engine.foreground = some (.pin w c)) (afterRetest : Bool) :
    Served none s (completePin w c afterRetest s) := by
  unfold completePin
  split_ifs
  · unfold recordCheckedPin
    split
    · exact served_closePin held _
    · rename_i i _
      have marked : (recordPin i w.index w.profile w.zone w.label s).engine.foreground = some (.pin w c.marked) := by
        show s.engine.foreground.map Foreground.marked = _
        rw [held]
        rfl
      exact (served_recordPin i _ _ _ _ s).trans (served_closePin marked _)
  · exact served_closePin held _
  · exact served_beginPin held _
  · exact (plain_setForeground (g := .pin w { c with e0 := s.epoch, moved := false, stage := .retestDue w.index })
      held rfl rfl).served

theorem plain_auditSlot (i : Fin 384) (s : State) : Plain s (auditSlot i s) := {}

theorem served_auditVisit {n flagged : Nat} (held : s.engine.foreground = some (.audit n flagged)) :
    Served none s (auditVisit n flagged s) := by
  unfold auditVisit
  split
  · rename_i h
    have visited := (plain_auditSlot ⟨n, h⟩ s).served
    have held' : (auditSlot ⟨n, h⟩ s).engine.foreground = some (.audit n flagged) := held
    dsimp only
    split
    · exact visited.trans
        (plain_setForeground (g := .audit (n + 1) (auditTally ⟨n, h⟩ flagged s)) held' rfl rfl).served
    · have closed := visited.trans
        (served_closeHost .audit (.count (auditTally ⟨n, h⟩ flagged s)) held' rfl)
      unfold closeAudit
      dsimp only
      split
      · exact closed
      · exact closed.trans (plain_raise _ _).served
  · exact .refl s

/-! ### The taking -/

/-- The front entry is taken (R66). -/
theorem served_beginWork {w : Work} {rest : List Work} (free : s.engine.foreground = none)
    (front : s.engine.queue = w :: rest) : Served none s (beginWork w (dequeue rest s)) := by
  have walk : ∀ job : Job, job.entry = some w → Served none s (beginWalk job 0 (dequeue rest s)) := by
    intro job entry
    rcases beginWalk_cases job 0 (dequeue rest s) with h | ⟨c, -, -, -, h⟩ <;> rw [h]
    · exact served_turnAway free front entry _
    · cases job with
      | request v => cases entry; exact (plain_takeFront (f := .request v c) free front rfl rfl).served
      | move v => cases entry; exact (plain_takeFront (f := .move v c) free front rfl rfl).served
      | refill z => cases entry
  cases w with
  | request r => exact walk (.request r) rfl
  | move m =>
    unfold beginWork
    dsimp only
    split
    · exact walk (.move m) rfl
    · exact served_turnAway (job := .move m) free front rfl _
  | check k => exact served_finishHost _ _ free front rfl
  | pin p =>
    show Served none s (beginPin p 0 (dequeue rest s))
    rcases beginPin_cases p 0 (dequeue rest s) with ⟨f, h⟩ | ⟨c, -, -, -, h⟩ <;> rw [h]
    · have left : ∀ v : State, v.engine.foreground = none → Plain v (leaveForeground v) := fun v idle =>
        { work := fun r => by simp [stationWork_eq, idle], host := by simp [hostWork_eq, idle] }
      exact (served_finishHost .pin (.fail f) free front rfl).trans (left _ (by simpa using free)).served
    · exact (plain_takeFront (f := .pin p c) free front rfl rfl).served
  | audit =>
    have taken : beginWork .audit (dequeue rest s) = auditSlot 0
        (setForeground (.audit 1 (auditTally 0 0 (dequeue rest s))) (dequeue rest s)) := rfl
    rw [taken]
    have taken : Plain s (setForeground (.audit 1 (auditTally 0 0 (dequeue rest s))) (dequeue rest s)) :=
      plain_takeFront free front rfl rfl
    exact taken.served.trans (plain_auditSlot 0 _).served

theorem served_takeWork (s : State) : Served none s (takeWork s) := by
  unfold takeWork
  split
  · rename_i free
    split
    · exact .refl s
    · exact served_beginWork (Option.isNone_iff_eq_none.1 free) ‹_›
  · exact .refl s

/-- Console work joins the queue while none is open (R72). -/
theorem served_openHostWork {w : Work} (host : w.hostKind?.isSome = true) (closed : s.console.openRequest = false) :
    Served none s (openHostWork w s) := by
  have foreground : (openHostWork w s).engine.foreground = s.engine.foreground := by simp
  have queue : (openHostWork w s).engine.queue = enqueue w s.engine.queue := by
    rw [openHostWork, joinQueue_eq]
  have same : ∀ r, stationWork (openHostWork w s).engine r = stationWork s.engine r := fun r => by
    rw [stationWork_enqueue foreground queue, Work.isOf_of_host host]
    simp
  exact
    { mode := by simp
      branches := by simp
      background := fun _ h => by simpa using h
      work := fun r => (same r).le
      host := fun h => by
        rw [hostWork_enqueue foreground queue, host, h, closed, openHostWork, joinQueue_eq]
        rfl
      stations := fun r => by
        rw [same, show (openHostWork w s).stations = s.stations by simp]
        exact optionRel_refl (fun st => (Station.Linked.refl st).served _) _ }

/-- Work of a station that has none open joins the queue (R67). -/
theorem served_openStationWork {r : Fin 48} {w : Work} (station : w.station? = some r) (closed : requestOpen s r = false) :
    Served (some r) s (openStationWork r w s) := by
  have foreground : (openStationWork r w s).engine.foreground = s.engine.foreground := by simp
  have queue : (openStationWork r w s).engine.queue = enqueue w s.engine.queue := by
    rw [openStationWork, joinQueue_eq]
    rfl
  have more : ∀ q, stationWork (openStationWork r w s).engine q = stationWork s.engine q + allowance (some r) q := fun q => by
    rw [stationWork_enqueue foreground queue, Work.isOf_eq station, Nat.add_comm]
    by_cases hq : r = q <;> simp [allowance, hq]
  refine
    { mode := by simp
      branches := by simp
      background := fun _ h => by simpa using h
      work := fun q => (more q).le
      host := fun h => by
        rw [hostWork_enqueue foreground queue, Work.host_of_station station, h]
        simp
      stations := fun q => ?_ }
  have opened : (openStationWork r w s).stations.read q =
      if r = q then (s.stations.read q).map fun st => { st with openRequest := true } else s.stations.read q := by
    rw [openStationWork, joinQueue_eq, ← Table.read_change]
    rfl
  rw [opened, more]
  by_cases hq : r = q
  · subst hq
    rw [if_pos rfl]
    cases hst : s.stations.read r with
    | none => exact .none
    | some st =>
      rw [requestOpen_some hst] at closed
      refine .some ⟨rfl, fun flag => ?_, ?_, ⟨_, List.append_nil _⟩⟩
      · rw [flag, closed]
        simp [allowance]
      · show st.answers.length + _ ≤ _
        omega
  · rw [if_neg hq, show allowance (some r) q = 0 by simp [allowance, hq]]
    exact optionRel_refl (fun st => (Station.Linked.refl st).served _) _

/-- An answer is given to the station whose frame is handled. -/
theorem served_giveAnswer (r : Fin 48) (a : Answer) (s : State) : Served (some r) s (giveAnswer r a s) where
  mode := by simp
  branches := by simp
  background _ h := by simpa using h
  work q := by simp
  host h := by simpa using h
  stations q := by
    rw [(giveAnswer_frame r a s).2.2.2.1, show (giveAnswer r a s).stations =
      s.stations.change r (Option.map fun st => { st with answers := st.answers ++ [a] }) from rfl, Table.read_change]
    split_ifs with hq
    · refine optionRel_map (fun st => ⟨rfl, id, ?_, ⟨_, rfl⟩⟩) _
      simp [allowance, hq]
      omega
    · rw [show allowance (some r) q = 0 by simp [allowance, hq]]
      exact optionRel_refl (fun st => (Station.Linked.refl st).served _) _

theorem served_refuse (r : Fin 48) (ch : Fin 64) (why : RefuseReason) (s : State) :
    Served (some r) s (refuse r ch why s) := served_giveAnswer _ _ _

/-! ### The station frames (R105 to R111, R164) -/

theorem served_handleRelease (r : Fin 48) (ch : Fin 64) (s : State) : Served (some r) s (handleRelease r ch s) := by
  unfold handleRelease
  split
  · exact served_refuse _ _ _ s
  · exact (served_retireSlot _ _ s).andThen (served_giveAnswer _ _ _)

theorem served_moveOnward (r : Fin 48) (ch : Fin 64) (i : Fin 384) (o : Owned) (closed : requestOpen s r = false) :
    Served (some r) s (moveOnward r ch i o s) := by
  unfold moveOnward
  split
  · rename_i j sp _
    exact ((served_retireSlot none j s).trans (Plain.served {})).andThen (served_giveAnswer _ _ _)
  · split
    · exact served_openStationWork rfl closed
    · exact served_refuse _ _ _ s

theorem served_handleMove (r : Fin 48) (ch : Fin 64) (s : State) : Served (some r) s (handleMove r ch s) := by
  unfold handleMove
  split
  · exact served_refuse _ _ _ s
  · rename_i i o _
    split
    · exact served_refuse _ _ _ s
    · rename_i closed
      have closed : requestOpen s r = false := by simpa using closed
      split
      · exact served_moveOnward r ch i o closed
      · split
        · exact (plain_dropPending i s).served.andThen
            (served_moveOnward r ch i o (by simpa [requestOpen] using closed))
        · exact served_giveAnswer _ _ s

theorem served_handleConfirm (r : Fin 48) (ch : Fin 64) (s : State) : Served (some r) s (handleConfirm r ch s) := by
  unfold handleConfirm
  split
  · exact served_refuse _ _ _ s
  · rename_i i o _
    split
    · exact served_refuse _ _ _ s
    · rename_i w _
      have moved : Served none s (withdrawAdvice r ch (emptyBarred (setSlot i (confirmSlot s o w.pending) s))) :=
        (Plain.served (t := emptyBarred (setSlot i (confirmSlot s o w.pending) s)) {}).trans
          (plain_withdrawAdvice r ch _).served
      dsimp only
      split
      · exact moved.andThen (served_giveAnswer _ _ _)
      · exact (moved.trans (plain_giveNotice _ _ _).served).andThen (served_giveAnswer _ _ _)

theorem served_handleQuery (r : Fin 48) (ch : Fin 64) (s : State) : Served (some r) s (handleQuery r ch s) := by
  unfold handleQuery
  split
  · exact served_refuse _ _ _ s
  · exact served_giveAnswer _ _ s

/-- What serves no one serves a station as well. -/
theorem Served.weaken (h : Served none s t) (who : Option (Fin 48)) : Served who s t where
  mode := h.mode
  branches := h.branches
  background := h.background
  work r := (h.work r).trans (Nat.le_add_right _ _)
  host := h.host
  stations r := optionRel_mono
    (fun k => ⟨k.branch, k.openRequest, k.room.trans (Nat.le_add_right _ _), k.head⟩) (h.stations r)

theorem served_handleRequest (r : Fin 48) (profile phase : Byte) (hint : Option Nat) (label : List Byte) (ch : Fin 64)
    (s : State) : Served (some r) s (handleRequest r profile phase hint label ch s) := by
  unfold handleRequest
  split
  · exact (Served.refl s).weaken _
  · rename_i st present
    split
    · exact served_refuse _ _ _ s
    · split_ifs with _ closed
      · exact served_refuse _ _ _ s
      · exact served_refuse _ _ _ s
      · split
        · split
          · exact served_giveAnswer _ _ s
          · exact served_refuse _ _ _ s
        · unfold intakeQueue
          split
          · split_ifs
            iterate 5 exact served_refuse _ _ _ s
            exact served_openStationWork rfl (by rw [requestOpen_some present]; simpa using closed)
          · exact served_refuse _ _ _ s

theorem served_handleChangeover (r : Fin 48) (force : Bool) (s : State) :
    Served (some r) s (handleChangeover r force s) := by
  unfold handleChangeover
  split
  · exact (Served.refl s).weaken _
  · split
    · split
      · exact served_giveAnswer _ _ s
      · rename_i h
        exact (served_changeoverZone h).andThen (served_giveAnswer _ _ _)
    · exact served_giveAnswer _ _ s

/-- The handling of a frame gives its station one answer or opens its one request. -/
theorem served_routeFrame (r : Fin 48) (f : Frame) (s : State) : Served (some r) s (routeFrame r f s) := by
  have channel : ∀ (ch : Byte) (handle : Fin 64 → State → State), (∀ c, Served (some r) s (handle c s)) →
      Served (some r) s (withChannel r ch handle s) := fun ch handle h => by
    unfold withChannel
    split
    · exact h _
    · exact served_giveAnswer _ _ s
  cases f with
  | idle => exact (Served.refl s).weaken _
  | request ch pr ph hint label => exact channel ch _ fun c => served_handleRequest r pr ph hint label c s
  | release ch => exact channel ch _ fun c => served_handleRelease r c s
  | move ch => exact channel ch _ fun c => served_handleMove r c s
  | confirm ch => exact channel ch _ fun c => served_handleConfirm r c s
  | query ch => exact channel ch _ fun c => served_handleQuery r c s
  | changeover force => exact served_handleChangeover r force s

end

end Sys2Proof.Machine
end

section
namespace Sys2Proof.Machine

-- One elaboration thread: the check's memory limit counts the stack of each.
set_option Elab.async false

/-! ### The polls in progress -/

/-- A record that a poll in progress on a branch may rest on: it is the branch's, the answer carried heads its queue, and
beside any other item it has room for one answer more. -/
structure Station.Carrying (st : Station) (b : Fin 4) (n : Nat) (a : Activity) : Prop where
  branch : st.branch = b
  carried : ∀ x, a.carries? = some (.answer x) → st.answers.head? = some x
  free : ∀ i, a.carries? = some i → i.isAnswer = false → st.answers.length + n ≤ 1

/-- What the branches are doing. -/
def activities (s : State) (b : Fin 4) : Activity := (s.branches.read b).activity

/-- The open requests are counted, every answer queue has room for the answers to come, and the polls in progress, given by
what each branch does, rest on their records. -/
structure RoomSound (a : Fin 4 → Activity) (s : State) : Prop where
  flags : ∀ r, stationWork s.engine r = (requestOpen s r).toNat
  host : hostWork s.engine = s.console.openRequest.toNat
  room : ∀ r st, s.stations.read r = some st → st.answers.length + stationWork s.engine r ≤ 2
  polls : ∀ b r, (a b).polled? = some r →
    ∃ st, s.stations.read r = some st ∧ st.Carrying b (stationWork s.engine r) (a b)

theorem answersSound_iff {s : State} : AnswersSound s ↔ ModeSound s ∧ RoomSound (activities s) s := by
  constructor
  · intro h
    have work := openSound_iff.1 h.requests
    refine ⟨h.link, work.stations, work.host, h.room, fun b r polled => ?_⟩
    obtain ⟨st, present, branch⟩ := h.requests.polled b r polled
    exact ⟨st, present, branch, h.carried b r st polled present, fun i => h.free b r st i polled present⟩
  · rintro ⟨link, flags, host, room, polls⟩
    refine ⟨openSound_iff.2 ⟨flags, host, fun b r polled => ?_⟩, link, room, fun b r st polled present => ?_,
      fun b r st i polled present => ?_⟩
    · obtain ⟨st, present, carrying⟩ := polls b r polled
      exact ⟨st, present, carrying.branch⟩
    · obtain ⟨st', present', carrying⟩ := polls b r polled
      cases present.symm.trans present'
      exact carrying.carried
    · obtain ⟨st', present', carrying⟩ := polls b r polled
      cases present.symm.trans present'
      exact carrying.free i

/-- A branch goes on with the poll that it was at, or is at none. -/
def Activity.Follows (a a' : Activity) : Prop :=
  a'.polled? = none ∨ a'.polled? = a.polled? ∧ a'.carries? = a.carries?

theorem Activity.Follows.refl (a : Activity) : a.Follows a := .inr ⟨rfl, rfl⟩

section
variable {s t u : State} {a a' : Fin 4 → Activity}

/-- A branch's activity matters by the poll that it is at. -/
theorem RoomSound.follows (h : RoomSound a s) (k : ∀ b, (a b).Follows (a' b)) : RoomSound a' s where
  flags := h.flags
  host := h.host
  room := h.room
  polls b r polled := by
    rcases k b with none | ⟨same, carries⟩
    · rw [none] at polled
      cases polled
    · obtain ⟨st, present, carrying⟩ := h.polls b r (same ▸ polled)
      exact ⟨st, present, carrying.branch, by rw [carries]; exact carrying.carried,
        by rw [carries]; exact carrying.free⟩

/-- Only the work, the records and the console's request matter. -/
theorem RoomSound.same (h : RoomSound a s) (engine : t.engine = s.engine) (stations : t.stations = s.stations)
    (openRequest : t.console.openRequest = s.console.openRequest) : RoomSound a t where
  flags r := by unfold requestOpen; rw [engine, stations]; exact h.flags r
  host := by rw [engine, openRequest]; exact h.host
  room := by rw [engine, stations]; exact h.room
  polls := by rw [engine, stations]; exact h.polls

/-- The station served, if there is one, must have room for one answer more and be at no poll. -/
theorem RoomSound.served {who : Option (Fin 48)} (h : RoomSound a s) (k : Served who s t)
    (one : ∀ r, who = some r → (∀ b, (a b).polled? ≠ some r) ∧
      ∃ st, s.stations.read r = some st ∧ st.answers.length + stationWork s.engine r ≤ 1) : RoomSound a t where
  flags r := by
    have kept := k.stations r
    have before := h.flags r
    have more := k.work r
    unfold requestOpen at before ⊢
    cases hs : s.stations.read r with
    | none =>
      rw [hs] at kept before
      generalize t.stations.read r = y at kept
      cases kept
      have : allowance who r = 0 := by
        unfold allowance
        rw [if_neg]
        intro served
        obtain ⟨-, st, present, -⟩ := one r served
        cases hs.symm.trans present
      show _ = 0
      simp only [Bool.toNat_false] at before
      omega
    | some st =>
      rw [hs] at kept before
      generalize t.stations.read r = y at kept
      cases kept with
      | some kept => exact kept.openRequest before
  host := k.host h.host
  room r st' present := by
    have kept := k.stations r
    rw [present] at kept
    cases hs : s.stations.read r with
    | none => rw [hs] at kept; cases kept
    | some st =>
      rw [hs] at kept
      cases kept with
      | some kept =>
        have room := kept.room
        have before := h.room r st hs
        by_cases served : who = some r
        · obtain ⟨-, st₁, present₁, little⟩ := one r served
          cases hs.symm.trans present₁
          simp only [allowance, if_pos served] at room
          omega
        · simp only [allowance, if_neg served] at room
          omega
  polls b r polled := by
    obtain ⟨st, present, carrying⟩ := h.polls b r polled
    have kept := k.stations r
    rw [present] at kept
    generalize t.stations.read r = y at kept
    cases kept with
    | some kept =>
      have served : allowance who r = 0 := if_neg fun served => (one r served).1 b polled
      refine ⟨_, rfl, kept.branch.trans carrying.branch, fun x carries => ?_, fun i carries other => ?_⟩
      · obtain ⟨l, hl⟩ := kept.head
        rw [← hl, List.head?_append, carrying.carried x carries]
        rfl
      · have := carrying.free i carries other
        have := kept.room
        omega

/-- No station's work. -/
theorem openStations_eq_nil {e : Engine} : openStations e = [] ↔ ∀ r, stationWork e r = 0 := by
  unfold stationWork
  simp only [List.count_eq_zero, List.eq_nil_iff_forall_not_mem]

/-- A station is served in RUN only. -/
theorem ModeSound.served {who : Option (Fin 48)} (h : ModeSound s) (k : Served who s t)
    (run : who = none ∨ s.console.mode = .run) : ModeSound t where
  branches b := by
    unfold inRun
    rw [k.branches, k.mode]
    exact h.branches b
  refill config := k.background (k.mode.symm.trans config) (h.refill (k.mode.symm.trans config))
  stations config := by
    have config := k.mode.symm.trans config
    rcases run with rfl | run
    · refine openStations_eq_nil.2 fun r => ?_
      have := k.work r
      have := openStations_eq_nil.1 (h.stations config) r
      rw [allowance_none] at *
      omega
    · cases config.symm.trans run

/-- An operation that keeps the modes, the branches and the answer queues as they agree. -/
structure Tidy (s t : State) : Prop where
  mode : ModeSound s → ModeSound t
  room : ModeSound s → RoomSound (activities s) s → RoomSound (activities t) t

theorem Tidy.trans (h : Tidy s t) (k : Tidy t u) : Tidy s u where
  mode := k.mode ∘ h.mode
  room m r := k.room (h.mode m) (h.room m r)

theorem Tidy.answers (h : Tidy s t) (k : AnswersSound s) : AnswersSound t := by
  obtain ⟨mode, room⟩ := answersSound_iff.1 k
  exact answersSound_iff.2 ⟨h.mode mode, h.room mode room⟩

theorem Served.tidy (h : Served none s t) : Tidy s t where
  mode k := k.served h (.inl rfl)
  room _ k := by
    have same : activities t = activities s := by
      unfold activities
      rw [h.branches]
    rw [same]
    exact k.served h nofun

theorem Plain.tidy (h : Plain s t) : Tidy s t := h.served.tidy

theorem Tidy.refl (s : State) : Tidy s s := (Served.refl s).tidy

/-! ### Branches changed -/

/-- A branch changed so that it is as its state and the mode allow, and at the poll that it was at or at none. -/
structure Branch.Linked (run : Bool) (br br' : Branch) : Prop where
  sound : br.linkSound run → br'.linkSound run
  follows : br.linkSound run → br.activity.Follows br'.activity

theorem Branch.Linked.refl (run : Bool) (br : Branch) : br.Linked run br := ⟨id, fun _ => .refl _⟩

/-- The branches changed alone. -/
theorem tidy_branches (t : Table Branch 4) (h : ∀ b, (s.branches.read b).Linked (inRun s) (t.read b)) :
    Tidy s { s with branches := t } where
  mode k := { branches := fun b => (h b).sound (k.branches b), refill := k.refill, stations := k.stations }
  room m k := (k.follows fun b => (h b).follows (m.branches b)).same rfl rfl rfl

theorem tidy_changeBranch {b : Fin 4} {f : Branch → Branch}
    (h : (s.branches.read b).Linked (inRun s) (f (s.branches.read b))) : Tidy s (changeBranch b f s) :=
  tidy_branches _ fun c => by
    rw [Table.read_change]
    split_ifs with hc
    · exact hc ▸ h
    · exact .refl _ _

/-- A branch that polls is RUNNING in RUN. -/
theorem Branch.linkSound.polling {run : Bool} {br : Branch} (h : br.linkSound run) (busy : br.activity ≠ .idle) :
    br.state = .running ∧ run = true := h.1 busy

/-- A branch at work goes on to something that is no poll. -/
theorem linked_setActivity {run : Bool} {br : Branch} (busy : br.linkSound run → br.state = .running ∧ run = true)
    {a : Activity} (unsent : ∀ p, a ≠ .sending p) (unheard : ∀ p rx seen, a ≠ .listening p rx seen) :
    br.Linked run { br with activity := a } where
  sound h := by
    have := busy h
    obtain ⟨-, -, -, space, mark, fault⟩ := h
    exact ⟨fun _ => this, fun p hp => absurd hp (unsent p), fun p rx seen hp => absurd hp (unheard p rx seen), space, mark,
      fault⟩
  follows _ := .inl (by
    cases a with
    | sending p => exact absurd rfl (unsent p)
    | listening p rx seen => exact absurd rfl (unheard p rx seen)
    | idle | inRound | quiet | gap => rfl)

end

end Sys2Proof.Machine
end

section
namespace Sys2Proof.Machine

-- One elaboration thread: the check's memory limit counts the stack of each.
set_option Elab.async false

section
variable {s t : State} {b : Fin 4} {p : Poll} {rx : List Byte} {seen : Bool}

/-! ### Rounds, failures and the fault watch (R157, R159, R161, R162) -/

/-- The branch is one whose rounds go on. -/
def Polling (b : Fin 4) (s : State) : Prop := (s.branches.read b).state = .running ∧ inRun s = true

theorem ModeSound.polling (h : ModeSound s) (busy : (s.branches.read b).activity ≠ .idle) : Polling b s :=
  (h.branches b).polling busy

theorem tidy_setActivity (due : (s.branches.read b).linkSound (inRun s) → Polling b s) {a : Activity}
    (unsent : ∀ p, a ≠ .sending p) (unheard : ∀ p rx seen, a ≠ .listening p rx seen) : Tidy s (setActivity b a s) :=
  tidy_changeBranch (linked_setActivity due unsent unheard)

theorem tidy_quiet (busy : (s.branches.read b).activity ≠ .idle) (last : Nat) : Tidy s (setActivity b (.quiet last) s) :=
  tidy_setActivity (fun h => h.polling busy) nofun nofun

theorem tidy_continueRound (due : (s.branches.read b).linkSound (inRun s) → Polling b s) (last : Nat) :
    Tidy s (continueRound b last s) := by
  unfold continueRound
  split_ifs
  · exact tidy_setActivity due nofun nofun
  · exact tidy_setActivity due nofun nofun

theorem tidy_failPoll (busy : (s.branches.read b).activity ≠ .idle) (p : Poll) : Tidy s (failPoll b p s) :=
  (plain_countFailure p s).tidy.trans (tidy_quiet (by rwa [(plain_countFailure p s).branches]) p.address)

theorem linked_releaseTxen (run : Bool) (br : Branch) : br.Linked run br.releaseTxen where
  sound := by
    rintro ⟨busy, -, heard, -, mark, -⟩
    refine ⟨fun h => busy fun idle => h (by simp [Branch.releaseTxen, idle]), fun q hq => ?_, fun _ _ _ _ => rfl,
      by simp [Branch.releaseTxen], mark, fun _ => rfl⟩
    cases ha : br.activity <;> simp [Branch.releaseTxen, ha] at hq
  follows _ := .inr (by
    unfold Branch.releaseTxen
    cases br.activity <;> exact ⟨rfl, rfl⟩)

theorem linked_lineChanges (run : Bool) (level : LineLevel) (br : Branch) : br.Linked run (br.lineChanges level) where
  sound h := by
    obtain ⟨busy, sent, heard, space, mark, fault⟩ := h
    unfold Branch.lineChanges
    split_ifs with same txen
    · exact ⟨busy, sent, heard, space, mark, fault⟩
    · refine ⟨busy, sent, heard, fun k => ?_, fun k => ?_, fault⟩
      · rw [(space k).2.2] at txen
        cases txen
      · rw [fault (mark k).1] at txen
        cases txen
    · have txen : br.txen = false := by simpa using txen
      split
      · rename_i hs
        refine ⟨busy, sent, heard, fun k => ?_, fun k => ?_, fault⟩
        · cases hs.symm.trans (space k).1
        · cases hs.symm.trans (mark k).1
      · rename_i hs
        refine ⟨busy, sent, heard, fun k => ?_, fun k => ⟨hs, by simpa using k⟩, fault⟩
        cases hs.symm.trans (space k).1
      · rename_i hs
        refine ⟨fun k => busy fun idle => k (by simp [idle]), fun q hq => ?_, fun _ _ _ _ => txen,
          fun k => ⟨hs, by simpa using k, txen⟩, fun k => ?_, fun _ => txen⟩
        · cases ha : br.activity <;> simp [ha] at hq
          exact sent _ ha
        · cases hs.symm.trans (mark k).1
  follows _ := by
    unfold Branch.lineChanges
    split_ifs
    · exact .refl _
    · exact .refl _
    · cases br.state with
      | disabled | faulted => exact .refl _
      | running => cases br.activity <;> exact .inr ⟨rfl, rfl⟩

theorem plain_failOpenPoll (b : Fin 4) (s : State) : Plain s (failOpenPoll b s) := by
  unfold failOpenPoll
  split
  · exact plain_countFailure _ s
  · exact plain_countFailure _ s
  all_goals exact {}

/-- A watched run of space stands only while TXEN is released, so the branch that it faults is not sending (R157). -/
theorem tidy_faultBranch (space : (s.branches.read b).spaceRun = true) : Tidy s (faultBranch b s) := by
  have counted := plain_failOpenPoll b s
  refine (counted.tidy.trans (tidy_changeBranch ?_)).trans (plain_raise _ _).tidy
  refine ⟨fun h => ?_, fun _ => .inl rfl⟩
  have released := (h.2.2.2.1 (by rwa [counted.branches])).2.2
  exact ⟨fun k => absurd rfl k, nofun, nofun, nofun, nofun, fun _ => released⟩

theorem tidy_recoverBranch (faulted : (s.branches.read b).state = .faulted) : Tidy s (recoverBranch b s) := by
  refine tidy_changeBranch ⟨fun h => ?_, fun _ => .inl ?_⟩
  · obtain ⟨busy, -, -, space, -, released⟩ := h
    have txen := released faulted
    refine ⟨fun k => ⟨rfl, ?_⟩, fun q hq => ?_, fun _ _ _ _ => txen, fun k => ?_, nofun, nofun⟩
    · by_contra off
      simp [off] at k
    · split_ifs at hq
    · cases faulted.symm.trans (space k).1
  · split_ifs <;> rfl

/-! ### Branch requests (R155, R156) -/

theorem tidy_enableBranch (b : Fin 4) (s : State) : Tidy s (enableBranch b s) := by
  unfold enableBranch
  dsimp only
  have enabled : Tidy s (changeBranch b (fun br =>
      { br with
        state := .running, roundCount := 0, activity := .idle, markRun := false,
        spaceRun := br.line == .space && !br.txen }) s) :=
    tidy_changeBranch ⟨fun _ => ⟨fun k => absurd rfl k, nofun, nofun, by simp, nofun, nofun⟩, fun _ => .inl rfl⟩
  split
  · rename_i run
    exact enabled.trans (tidy_continueRound (fun _ => ⟨by rw [changeBranch_branches, Table.read_change, if_pos rfl], run⟩) 0)
  · exact enabled

theorem linked_disabled (run : Bool) (br : Branch) :
    br.Linked run { br with state := .disabled, activity := .idle, spaceRun := false, markRun := false } :=
  ⟨fun _ => ⟨fun k => absurd rfl k, nofun, nofun, nofun, nofun, nofun⟩, fun _ => .inl rfl⟩

theorem tidy_disableBranch (b : Fin 4) (s : State) : Tidy s (disableBranch b s) := by
  have disabled : Tidy s (changeBranch b
      (fun br => { br with state := .disabled, activity := .idle, spaceRun := false, markRun := false }) s) :=
    tidy_changeBranch (linked_disabled _ _)
  refine disabled.trans (Plain.tidy ?_)
  have settled : ∀ st : Station, st.Linked (if st.branch = b then { st with lease := st.lease.settle } else st) :=
    fun st => by split <;> exact {}
  exact { branches := rfl, stations := linkedStations_each settled rfl }

/-! ### Polls (R160) -/

theorem tidy_formPoll {r : Fin 48} {st : Station} (present : s.stations.read r = some st) (branch : st.branch = b)
    (due : Polling b s) : Tidy s (formPoll b r st s) := by
  have marked : Plain (changeBranch b (fun br =>
      { br with
        activity := .sending { station := r, address := st.address, item := st.pollItem, stationGone := false }
        txen := true
        spaceRun := false
        txFrame := pollFrame st.address s.engine.defer st.pollItem }) s) (formPoll b r st s) :=
    plain_changeStation fun _ => {}
  obtain ⟨running, run⟩ := due
  refine Tidy.trans (t := changeBranch b _ s) ⟨fun h => ⟨fun c => ?_, h.refill, h.stations⟩, fun mode h => ?_⟩ marked.tidy
  · rw [changeBranch_branches, Table.read_change]
    split_ifs with hc
    · subst hc
      obtain ⟨-, -, -, -, mark, -⟩ := h.branches b
      exact ⟨fun _ => ⟨running, run⟩, fun _ _ => rfl, nofun, nofun, mark, fun k => by cases running.symm.trans k⟩
    · exact h.branches c
  · refine ⟨h.flags, h.host, h.room, fun c q polled => ?_⟩
    unfold activities at polled ⊢
    rw [changeBranch_branches, Table.read_change] at polled ⊢
    split_ifs at polled ⊢ with hc
    · cases polled
      refine ⟨st, present, branch.trans hc, fun x carries => ?_, fun i carries other => ?_⟩
      · have item : st.pollItem = .answer x := Option.some.inj carries
        unfold Station.pollItem at item
        cases answers : st.answers with
        | nil => simp only [answers] at item; split_ifs at item; split at item <;> cases item
        | cons y rest => simp only [answers] at item; cases item; rfl
      · have item : st.pollItem = i := Option.some.inj carries
        have : st.answers = [] := by
          cases answers : st.answers with
          | nil => rfl
          | cons y rest => simp only [Station.pollItem, answers] at item; cases item; cases other
        have := Bool.toNat_le (requestOpen s r)
        have := h.flags r
        simp only [‹st.answers = []›, List.length_nil]
        show 0 + stationWork s.engine r ≤ 1
        omega
    · exact h.polls c q polled

/-! ### Accepted replies (R163, R171) -/

theorem acceptReply_answers (item : PollItem) (st : Station) :
    (st.acceptReply item).answers = if item.isAnswer then st.answers.tail else st.answers := by
  unfold Station.acceptReply Station.removeItem
  cases item with
  | nothing | answer | notice => rfl
  | resync => dsimp only; split <;> rfl

/-- The item carried leaves the queue of the station polled: then it has room for the answer to its frame. -/
theorem RoomSound.replied {a : Activity} {r : Fin 48} {item : PollItem} (h : RoomSound (activities s) s)
    (at_ : activities s b = a) (polled : a.polled? = some r) (carries : a.carries? = some item) :
    RoomSound (Function.update (activities s) b .idle) (changeStation r (Station.acceptReply item) s) ∧
      (∀ c, (Function.update (activities s) b .idle c).polled? ≠ some r) ∧
      ∃ st, (changeStation r (Station.acceptReply item) s).stations.read r = some st ∧
        st.answers.length + stationWork s.engine r ≤ 1 := by
  obtain ⟨st, present, carrying⟩ := h.polls b r (at_ ▸ polled)
  have flagged : ∀ q, requestOpen (changeStation r (Station.acceptReply item) s) q = requestOpen s q :=
    StationsStill.requestOpen_eq (stationsStill_change (acceptReply_still item) rfl)
  have others : ∀ c q, (Function.update (activities s) b .idle c).polled? = some q →
      q ≠ r ∧ c ≠ b ∧ (activities s c).polled? = some q := by
    intro c q hq
    rw [Function.update_apply] at hq
    split_ifs at hq with hc
    · cases hq
    · refine ⟨fun same => ?_, hc, hq⟩
      obtain ⟨st', present', carrying'⟩ := h.polls c q hq
      rw [same] at present'
      cases present.symm.trans present'
      exact hc (carrying'.branch.symm.trans carrying.branch)
  have dropped : (st.acceptReply item).answers.length + stationWork s.engine r ≤ 1 := by
    rw [acceptReply_answers]
    split_ifs with answer
    · have := h.room r st present
      cases item with
      | answer x =>
        have head := carrying.carried x (at_ ▸ carries)
        cases answers : st.answers with
        | nil => rw [answers] at head; cases head
        | cons y rest => rw [answers] at this; simp at this ⊢; omega
      | nothing | resync | notice => cases answer
    · exact carrying.free item (at_ ▸ carries) (by simpa using answer)
  have read : ∀ q, (changeStation r (Station.acceptReply item) s).stations.read q =
      if r = q then (s.stations.read q).map (Station.acceptReply item) else s.stations.read q := fun q => by
    rw [← Table.read_change]
    rfl
  refine ⟨⟨fun q => (h.flags q).trans (congrArg _ (flagged q).symm), h.host, fun q st' hq => ?_, fun c q hq => ?_⟩,
    fun c hc => (others c r hc).1 rfl, _, by rw [read, if_pos rfl, present]; rfl, dropped⟩
  · rw [read] at hq
    split_ifs at hq with same
    · subst same
      rw [present] at hq
      cases hq
      exact dropped.trans (by omega)
    · exact h.room q st' hq
  · obtain ⟨other, hc, before⟩ := others c q hq
    obtain ⟨st', present', carrying'⟩ := h.polls c q before
    refine ⟨st', by rw [read, if_neg (Ne.symm other)]; exact present', ?_⟩
    rw [Function.update_of_ne hc]
    exact carrying'

theorem tidy_acceptPoll (listening : (s.branches.read b).activity = .listening p rx seen) (f : Frame) :
    Tidy s (acceptPoll b p f s) := by
  have busy : (s.branches.read b).activity ≠ .idle := by rw [listening]; nofun
  unfold acceptPoll
  split
  · exact tidy_quiet busy _
  · rename_i here
    dsimp only
    have routed := (served_routeFrame p.station f (changeStation p.station (Station.acceptReply p.item) s)).trans
      (plain_changeStation (r := p.station) (f := Station.owedNotice) fun _ => {}).served
    generalize hu : changeStation p.station Station.owedNotice (routeFrame p.station f _) = u at routed
    have branches : u.branches = s.branches := routed.branches
    have goesOn : ∀ m : ModeSound s, Polling b u := fun m => by
      obtain ⟨running, run⟩ := m.polling busy
      refine ⟨by rw [branches]; exact running, ?_⟩
      unfold inRun
      rw [routed.mode]
      exact run
    refine Tidy.trans ⟨fun m => ?_, fun m h => ?_⟩ (plain_startRefill _).tidy
    · have accepted : ModeSound (changeStation p.station (Station.acceptReply p.item) s) := ⟨m.branches, m.refill, m.stations⟩
      exact (tidy_continueRound (fun _ => goesOn m) _).mode (accepted.served routed (.inr (by
        have := (m.polling busy).2
        simpa [inRun] using this)))
    · obtain ⟨accepted, unpolled, one⟩ := h.replied (a := .listening p rx seen) (r := p.station) (item := p.item) listening
        (by simp [Activity.polled?, here]) (by simp [Activity.carries?, here])
      have served := accepted.served routed fun r hr => by cases hr; exact ⟨unpolled, one⟩
      have next : ∀ c, (Function.update (activities s) b .idle c).Follows (activities (continueRound b p.address u) c) := by
        intro c
        have elsewhere : c ≠ b → ∀ a, ((setActivity b a u).branches.read c).activity = activities s c := fun hc a => by
          unfold setActivity
          rw [changeBranch_branches, Table.read_change, if_neg (Ne.symm hc), branches]
          rfl
        have here : ∀ a, ((setActivity b a u).branches.read b).activity = a := fun a => by
          unfold setActivity
          rw [changeBranch_branches, Table.read_change, if_pos rfl]
        rw [Function.update_apply]
        unfold activities continueRound
        split_ifs with hc
        · subst hc; rw [here]; exact .inl rfl
        · subst hc; rw [here]; exact .inl rfl
        · rw [elsewhere hc]; exact .refl _
        · rw [elsewhere hc]; exact .refl _
      have frame : (continueRound b p.address u).engine = u.engine ∧ (continueRound b p.address u).stations = u.stations ∧
          (continueRound b p.address u).console = u.console := by
        unfold continueRound
        split_ifs <;> exact ⟨rfl, rfl, rfl⟩
      exact (served.follows next).same frame.1 frame.2.1 (by rw [frame.2.2])

theorem tidy_receiveChar (b : Fin 4) (c : RxChar) (s : State) : Tidy s (receiveChar b c s) := by
  unfold receiveChar
  split
  · rename_i p rx seen listening
    split
    · refine tidy_changeBranch ⟨fun h => ?_, fun _ => .inr ?_⟩
      · obtain ⟨busy, -, heard, space, mark, fault⟩ := h
        exact ⟨fun _ => busy (by rw [listening]; nofun), nofun, fun _ _ _ _ => heard _ _ _ listening, space, mark, fault⟩
      · rw [listening]
        exact ⟨rfl, rfl⟩
    · exact tidy_failPoll (by rw [listening]; nofun) p
    · exact tidy_acceptPoll listening _
  · exact .refl s

end

end Sys2Proof.Machine
end

section
namespace Sys2Proof.Machine

-- One elaboration thread: the check's memory limit counts the stack of each.
set_option Elab.async false

section
variable {s t u : State}

/-! ### No refill is left owed (R82) -/

/-- After the starting of refills none is owed. -/
theorem refillsStarted_startRefill (s : State) : RefillsStarted (startRefill s) := by
  by_cases allowed : refillAllowed s = true
  · have begins : startRefill s = startRefillFrom (List.finRange 16) s := if_pos allowed
    obtain ⟨-, -, free, -, -⟩ := (refillAllowed_iff s).1 allowed
    obtain ⟨barred, result⟩ := refillResult_exists (zs := List.finRange 16) free (by decide)
    rw [begins]
    by_cases none : ∀ z, wantsRefill s z → refillCandidates s z = 0
    · rw [result.none fun z _ => none z]
      intro _ _ _ _ _ z wants
      refine (result.barring z).2 ?_
      cases unbarred : s.engine.barred.read z with
      | true => exact .inl rfl
      | false => exact .inr ⟨List.mem_finRange z, ⟨wants, unbarred⟩, none z ⟨wants, unbarred⟩, fun y _ _ => none y⟩
    · obtain ⟨z, ⟨wants, some⟩, lowest⟩ := WellFounded.has_min (wellFounded_lt (α := Fin 16))
        {z | wantsRefill s z ∧ refillCandidates s z ≠ 0} (by simpa [Set.Nonempty] using none)
      have before : passedOver (List.finRange 16) s z := fun y _ lt wants => by
        by_contra some
        exact lowest y ⟨wants, some⟩ lt
      rw [result.starts z (List.mem_finRange z) wants some before]
      exact fun _ _ free => nomatch free
  · have stays : startRefill s = s := if_neg allowed
    rw [stays]
    exact fun run foreground background queue free =>
      absurd ((refillAllowed_iff s).2 ⟨run, foreground, background, queue, free⟩) allowed

/-- An operation that brings none of a refill's conditions about. -/
structure Unrefilled (s t : State) : Prop where
  mode : t.console.mode = .run → s.console.mode = .run := by exact fun h => by simpa using h
  foreground : t.engine.foreground = none → s.engine.foreground = none := by exact fun h => by simpa using h
  background : t.engine.background = none → s.engine.background = none := by exact fun h => by simpa using h
  queue : t.engine.queue = [] → s.engine.queue = [] := by exact fun h => by simpa using h
  slots : ∀ i, t.slots.read i = .free → s.slots.read i = .free := by exact fun i h => by simpa using h
  wants : ∀ z, wantsSpare t z = true → wantsSpare s z = true := by exact fun z h => by simpa [wantsSpare] using h
  barred : ∀ z, s.engine.barred.read z = true → t.engine.barred.read z = true := by exact fun z h => by simpa using h

theorem Unrefilled.kept (h : Unrefilled s t) (k : RefillsStarted s) : RefillsStarted t :=
  fun run foreground background queue ⟨i, free⟩ z wants =>
    h.barred z (k (h.mode run) (h.foreground foreground) (h.background background) (h.queue queue) ⟨i, h.slots i free⟩ z
      (h.wants z wants))

/-! ### What every command keeps of the modes, the answers and the refills -/

/-- The record that the completion of a search writes in a slot. -/
def RecordedAt (s : State) (i : Fin 384) (x : Slot) : Prop :=
  ∃ job c f, holdsSearch s.engine job c ∧ c.ready? = some f ∧ (recordFound job f s).slots.read i = x

/-- What every command keeps: the modes, the branches and the answer queues as they agree; that no refill is owed; and of
a FREE slot, that it is FREE unless a pin or the completion of a search is recorded in it. -/
structure Upkeep (s t : State) : Prop extends Tidy s t where
  refills : RefillsStarted s → RefillsStarted t
  slots : ∀ i, s.slots.read i = .free →
    t.slots.read i = .free ∨ (∃ p, t.slots.read i = .pinned p) ∨ RecordedAt s i (t.slots.read i)

/-- A FREE slot that is kept stays FREE. -/
theorem Slot.Kept.free {x y : Slot} (h : x.Kept y) (k : x = .free) : y = .free := by
  cases h with
  | freed => rfl
  | owned | pinned | spare => cases k

theorem Tidy.upkeep (tidy : Tidy s t) (keeps : Keeps s t) (refills : RefillsStarted s → RefillsStarted t) : Upkeep s t where
  toTidy := tidy
  refills := refills
  slots i free := .inl ((keeps.records i).free free)

theorem Unrefilled.upkeep (h : Unrefilled s t) (tidy : Tidy s t) (keeps : Keeps s t) : Upkeep s t :=
  tidy.upkeep keeps h.kept

/-- An event that ends with the starting of refills. -/
theorem upkeep_refill (tidy : Tidy s t)
    (slots : ∀ i, s.slots.read i = .free →
      t.slots.read i = .free ∨ (∃ p, t.slots.read i = .pinned p) ∨ RecordedAt s i (t.slots.read i)) :
    Upkeep s (startRefill t) where
  toTidy := tidy.trans (plain_startRefill t).tidy
  refills _ := refillsStarted_startRefill t
  slots i free := by simpa using slots i free

theorem Tidy.refilled (tidy : Tidy s t) (keeps : Keeps s t) : Upkeep s (startRefill t) :=
  upkeep_refill tidy fun i free => .inl ((keeps.records i).free free)

theorem Served.refilled (served : Served none s t) (keeps : Keeps s t) : Upkeep s (startRefill t) :=
  served.tidy.refilled keeps

theorem Upkeep.respond (h : Upkeep s t) (x : Status) (data : List Byte) : Upkeep s (respond x data t) where
  toTidy := h.toTidy.trans (Plain.tidy {})
  refills k := (Unrefilled.kept {} (h.refills k) : RefillsStarted (Machine.respond x data t))
  slots i free := by simpa using h.slots i free

/-- A change that reaches none of the parts in question. -/
theorem upkeep_of_plain (plain : Plain s t) (unrefilled : Unrefilled s t) (calm : Calm s t) : Upkeep s t :=
  unrefilled.upkeep plain.tidy calm.keeps

theorem Upkeep.refl (s : State) : Upkeep s s := upkeep_of_plain {} {} {}

theorem Upkeep.occurs (h : Upkeep s t) : leadsTo (Upkeep s) (.next t) := leadsTo_next.2 h

theorem Upkeep.accepted (h : Upkeep s t) (data : List Byte) : leadsTo (Upkeep s) (accept data t) :=
  leadsTo_accept.2 (h.respond .ok data)

theorem denied_upkeep (x : Status) (s : State) : leadsTo (Upkeep s) (deny x s) := leadsTo_deny.2 ((Upkeep.refl s).respond x [])

theorem read_upkeep (data : List Byte) (s : State) : leadsTo (Upkeep s) (accept data s) := (Upkeep.refl s).accepted data

theorem idle_upkeep (s : State) : leadsTo (Upkeep s) (.next s) := leadsTo_next.2 (.refl s)

/-- An event that is due on a condition. -/
theorem due_upkeep {p : Prop} [Decidable p] (h : p → Upkeep s t) : leadsTo (Upkeep s) (if p then .next t else .next s) := by
  split
  · exact leadsTo_next.2 (h ‹p›)
  · exact idle_upkeep s

end

end Sys2Proof.Machine
end

section
namespace Sys2Proof.Machine

-- One elaboration thread: the check's memory limit counts the stack of each.
set_option Elab.async false

section
variable {s t u : State}

/-! ### START, STOP, CLEAR and hardware reset (R43, R92, R93, R158, R176 to R178) -/

/-- A record whose branch and answers stay. -/
def Station.Alike (st st' : Station) : Prop := st'.branch = st.branch ∧ st'.answers = st.answers

theorem Station.Alike.refl (st : Station) : st.Alike st := ⟨rfl, rfl⟩

theorem Station.Alike.trans {a b c : Station} (h : a.Alike b) (k : b.Alike c) : a.Alike c :=
  ⟨k.1.trans h.1, k.2.trans h.2⟩

/-- Requests closed without an answer. -/
theorem closeRequests_alike (rs : List (Fin 48)) (s : State) (r : Fin 48) :
    Option.Rel Station.Alike (s.stations.read r) ((rs.foldl (fun t q => closeRequest q t) s).stations.read r) := by
  refine foldl_ind (fun t : State => Option.Rel Station.Alike (s.stations.read r) (t.stations.read r))
    (fun t q => closeRequest q t) (fun t q h => ?_) rs s (optionRel_refl Station.Alike.refl _)
  refine optionRel_trans (R := Station.Alike) (fun _ _ _ => Station.Alike.trans) h ?_
  rw [show (closeRequest q t).stations = t.stations.change q (Option.map fun st => { st with openRequest := false })
    from rfl, Table.read_change]
  split
  · exact optionRel_map (fun _ => ⟨rfl, rfl⟩) _
  · exact optionRel_refl Station.Alike.refl _

/-- All engine work abandoned: each open request is closed with its work. -/
theorem served_abandonWork (s : State) : Served none s (abandonWork s) := by
  have alike : ∀ r, Option.Rel Station.Alike (s.stations.read r) ((abandonWork s).stations.read r) := by
    rw [abandonWork_stations]
    exact closeRequests_alike _ s
  have idle : ∀ r, stationWork (abandonWork s).engine r = 0 := fun r => rfl
  have flag : ∀ r, requestOpen (abandonWork s) r = (requestOpen s r && decide (r ∉ openStations s.engine)) := fun r => by
    rw [← closeRequests_flags]
    unfold requestOpen
    rw [abandonWork_stations]
  have host : (abandonWork s).console.openRequest = (s.console.openRequest && decide (openHostKinds s.engine = [])) := by
    have closed : ((openStations s.engine).foldl (fun t r => closeRequest r t) s).console = s.console :=
      foldl_ind (fun t => t.console = s.console) (fun t r => closeRequest r t) (fun _ _ h => h) _ s rfl
    rw [← closed]
    exact placeResults_openRequest _ .abandoned _
  refine
    { mode := by simp
      branches := by simp
      background := fun _ _ => rfl
      work := fun r => Nat.zero_le _
      host := fun h => ?_
      stations := fun r => ?_ }
  · rw [host]
    show 0 = _
    cases hq : s.console.openRequest with
    | false => rfl
    | true =>
      rw [hq] at h
      have some : openHostKinds s.engine ≠ [] := fun none => by simp [hostWork, none] at h
      simp [some]
  · have rel := alike r
    have flag := flag r
    unfold requestOpen at flag
    generalize s.stations.read r = x at rel flag
    generalize (abandonWork s).stations.read r = y at rel flag
    cases rel with
    | none => exact .none
    | @some st st' kept =>
      obtain ⟨branch, answers⟩ := kept
      refine .some ⟨branch, fun flagged => ?_, ?_, answers ▸ ⟨_, List.append_nil _⟩⟩
      · have flag : st'.openRequest = (st.openRequest && decide (r ∉ openStations s.engine)) := flag
        rw [idle, flag]
        cases hq : st.openRequest with
        | false => rfl
        | true =>
          have some : r ∈ openStations s.engine := List.count_pos_iff.1 (by
            show 0 < stationWork s.engine r
            rw [flagged, hq]
            decide)
          simp [some]
      · rw [idle, answers]
        omega

/-- All branches put to idle, whatever the mode, with no engine work left. -/
theorem tidy_halted (read : ∀ b, t.branches.read b = { s.branches.read b with activity := .idle })
    (engine : t.engine = s.engine) (stations : t.stations = s.stations)
    (openRequest : t.console.openRequest = s.console.openRequest) (background : s.engine.background = none)
    (idle : openStations s.engine = []) : Tidy s t where
  mode h :=
    { branches := fun b => by
        obtain ⟨-, -, -, space, mark, fault⟩ := h.branches b
        rw [read]
        exact ⟨fun k => absurd rfl k, nofun, nofun, space, mark, fault⟩
      refill := fun _ => engine ▸ background
      stations := fun _ => engine ▸ idle }
  room _ h := (h.follows fun b => .inl (by unfold activities; rw [read]; rfl)).same engine stations openRequest

theorem tidy_stopPart (s : State) : Tidy s (stopPart s) := by
  have polling : ∀ v : State, (List.finRange 4).foldl (fun t b => stopPolling b t) v =
      { v with branches := v.branches.each fun br => { br with activity := .idle } } := fun v => changeBranches_all _ v
  have stopped := (served_abandonWork s).tidy.trans (plain_stopTick (abandonWork s)).tidy
  unfold stopPart
  rw [polling]
  exact stopped.trans (tidy_halted (fun b => Table.read_each _ b _) rfl rfl rfl rfl rfl)

/-- In CONFIG no branch polls. -/
theorem ModeSound.unpolled (h : ModeSound s) (config : s.console.mode = .config) (b : Fin 4) : activities s b = .idle := by
  by_contra busy
  have run := ((h.branches b).polling busy).2
  simp [inRun, config] at run

/-- The tables emptied in CONFIG, with no engine work left (R178). -/
theorem tidy_emptyTables (config : s.console.mode = .config) (queue : s.engine.queue = [])
    (foreground : s.engine.foreground = none) : Tidy s (emptyTables s) where
  mode h := ⟨h.branches, h.refill, h.stations⟩
  room m h := by
    have idle : ∀ r, stationWork (emptyTables s).engine r = 0 := fun r => by
      rw [stationWork_idle (e := (emptyTables s).engine) foreground, show (emptyTables s).engine.queue = [] from queue]
      rfl
    have read : ∀ r, (emptyTables s).stations.read r = (s.stations.read r).map Station.fresh :=
      fun r => Table.read_each _ r _
    refine ⟨fun r => ?_, h.host, fun r st present => ?_, fun b r polled => ?_⟩
    · rw [idle]
      unfold requestOpen
      rw [read]
      cases s.stations.read r <;> rfl
    · rw [idle]
      rw [read] at present
      obtain ⟨st, -, rfl⟩ := Option.map_eq_some_iff.1 present
      exact Nat.zero_le _
    · rw [show activities (emptyTables s) b = activities s b from rfl, m.unpolled config] at polled
      cases polled

theorem tidy_clearPart (s : State) : Tidy s (clearPart s) := by
  unfold clearPart
  split
  · refine (tidy_stopPart s).trans (tidy_emptyTables rfl ?_ ?_)
    · rw [stopPart_eq]; rfl
    · rw [stopPart_eq]; rfl
  · rename_i config
    refine (served_abandonWork s).tidy.trans (tidy_emptyTables ?_ rfl rfl)
    cases hm : s.console.mode with
    | config => simpa using hm
    | run => exact absurd (by simp [inRun, hm]) config

theorem tidy_resetPart (s : State) : Tidy s (resetPart s) := by
  have read : ∀ b, (resetPart s).branches.read b = resetBranch (s.branches.read b) := fun b => Table.read_each _ b _
  refine ⟨fun _ => ⟨fun b => ?_, fun _ => rfl, fun _ => rfl⟩,
    fun _ _ => ⟨fun r => ?_, rfl, fun r st present => ?_, fun b r polled => ?_⟩⟩
  · rw [read]
    exact ⟨fun k => absurd rfl k, nofun, nofun, nofun, nofun, fun _ => rfl⟩
  · rw [requestOpen_none (s := resetPart s) (reset_stations_read r)]
    rfl
  · cases (reset_stations_read r).symm.trans present
  · unfold activities at polled
    rw [read] at polled
    cases polled

/-- A branch that is not RUNNING begins no round at START, and one that is polls in RUN (R158). -/
theorem tidy_startBranch (run : inRun s = true) (b : Fin 4) : Tidy s (startBranch b s) := by
  unfold startBranch
  split
  · rename_i running
    have counted : Tidy s (changeBranch b (fun br => { br with roundCount := 0 }) s) :=
      tidy_changeBranch ⟨id, fun _ => .refl _⟩
    have due : Polling b (changeBranch b (fun br => { br with roundCount := 0 }) s) :=
      ⟨by rw [changeBranch_branches, Table.read_change, if_pos rfl]; exact running, run⟩
    exact counted.trans (tidy_continueRound (fun _ => due) 0)
  · exact .refl s

theorem startBranch_inRun (b : Fin 4) (s : State) : inRun (startBranch b s) = inRun s := by
  unfold startBranch beginRound continueRound
  split_ifs <;> rfl

theorem tidy_setRun (s : State) : Tidy s (setMode .run s) where
  mode h :=
    { branches := fun b => by
        obtain ⟨busy, rest⟩ := h.branches b
        exact ⟨fun k => ⟨(busy k).1, rfl⟩, rest⟩
      refill := nofun
      stations := nofun }
  room _ h := h.same rfl rfl rfl

theorem tidy_startPart (s : State) : Tidy s (startPart s) := by
  have rounds := foldl_ind (fun t => Tidy s t ∧ inRun t = true) (fun t b => startBranch b t)
    (fun t b h => ⟨h.1.trans (tidy_startBranch h.2 b), (startBranch_inRun b t).trans h.2⟩) (List.finRange 4) (setMode .run s)
    ⟨tidy_setRun s, rfl⟩
  exact (rounds.1.trans (served_takeWork _).tidy).trans (plain_startRefill _).tidy

/-! ### Station records written and removed (R166, R167) -/

theorem orphanPolls_follows (r : Fin 48) (s : State) (b : Fin 4) :
    (activities s b).Follows (activities (orphanPolls r s) b) := by
  unfold activities orphanPolls
  rw [Table.read_each]
  cases (s.branches.read b).activity with
  | sending p | listening p =>
    by_cases hr : p.station = r
    · exact .inl (by simp [Activity.polled?, hr])
    · exact .inr (by simp [hr])
  | idle | inRound | quiet | gap => exact .inl rfl

theorem orphanPolls_modeSound {r : Fin 48} (h : ModeSound s) : ModeSound (orphanPolls r s) where
  branches b := by
    obtain ⟨busy, sent, heard, rest⟩ := h.branches b
    unfold orphanPolls
    rw [Table.read_each]
    refine ⟨fun k => busy fun idle => k (by simp [idle]), fun p hp => ?_, fun p rx seen hp => ?_, rest⟩
    · cases ha : (s.branches.read b).activity <;> simp [ha] at hp
      exact sent _ ha
    · cases ha : (s.branches.read b).activity <;> simp [ha] at hp
      exact heard _ _ _ ha
  refill := h.refill
  stations := h.stations

/-- A record written without answers and with no request open, where none was open, its polls orphaned. -/
theorem tidy_recordWritten {r : Fin 48} {x : Option Station} (closed : requestOpen s r = false)
    (fresh : ∀ st, x = some st → st.answers = [] ∧ st.openRequest = false) :
    Tidy s (orphanPolls r (setStation r x s)) where
  mode h := orphanPolls_modeSound ⟨h.branches, h.refill, h.stations⟩
  room _ h := by
    have read : ∀ q, (orphanPolls r (setStation r x s)).stations.read q = if r = q then x else s.stations.read q :=
      fun q => Table.read_write _ _ q _
    have idle : stationWork s.engine r = 0 := by rw [h.flags, closed]; rfl
    refine ⟨fun q => ?_, h.host, fun q st present => ?_, fun b q polled => ?_⟩
    · refine (h.flags q).trans (congrArg _ ?_)
      by_cases hq : r = q
      · subst hq
        rw [closed]
        unfold requestOpen
        rw [read, if_pos rfl]
        cases x with
        | none => rfl
        | some st => exact (fresh st rfl).2.symm
      · unfold requestOpen
        rw [read, if_neg hq]
    · rw [read] at present
      split_ifs at present with hq
      · subst hq
        rw [(fresh st present).1]
        show 0 + stationWork s.engine r ≤ 2
        omega
      · exact h.room q st present
    · obtain ⟨other, before⟩ := orphanPolls_polled polled
      obtain ⟨st, present, carrying⟩ := h.polls b q before
      refine ⟨st, by rw [read, if_neg (Ne.symm other)]; exact present, ?_⟩
      rcases orphanPolls_follows r (setStation r x s) b with none | ⟨-, carries⟩
      · rw [none] at polled
        cases polled
      · exact ⟨carrying.branch, by rw [carries]; exact carrying.carried, by rw [carries]; exact carrying.free⟩

/-- A new record. -/
theorem tidy_newStation {r : Fin 48} (absent : s.stations.read r = none) (new : StationSettings) :
    Tidy s (setStation r (some (newStation new)) s) where
  mode h := ⟨h.branches, h.refill, h.stations⟩
  room _ h := by
    have read : ∀ q, (setStation r (some (newStation new)) s).stations.read q =
      if r = q then some (newStation new) else s.stations.read q := fun q => Table.read_write _ _ q _
    refine ⟨fun q => (h.flags q).trans (congrArg _ ?_), h.host, fun q st present => ?_, fun b q polled => ?_⟩
    · unfold requestOpen
      rw [read]
      split_ifs with hq
      · rw [← hq, absent]
        rfl
      · rfl
    · rw [read] at present
      split_ifs at present with hq
      · cases present
        show 0 + stationWork s.engine q ≤ 2
        rw [h.flags, ← hq, requestOpen_none absent]
        decide
      · exact h.room q st present
    · obtain ⟨st, present, carrying⟩ := h.polls b q polled
      refine ⟨st, ?_, carrying⟩
      rw [read, if_neg]
      · exact present
      · rintro rfl
        cases absent.symm.trans present

theorem tidy_storeStation {r : Fin 48} {new : StationSettings} (unlocked : stationLocked new (s.stations.read r) = false) :
    Tidy s (storeStation r new s) := by
  unfold storeStation
  split
  · exact tidy_newStation ‹_› new
  · rename_i st present
    rw [present] at unlocked
    split
    · rename_i moves
      have unused : stationInUse st = false := by simpa [stationLocked, moves] using unlocked
      refine tidy_recordWritten ?_ fun st h => ?_
      · rw [requestOpen_some present]
        exact (stationInUse_eq_false unused).1
      · cases h
        exact ⟨rfl, rfl⟩
    · refine Plain.tidy { stations := fun q => ?_ }
      rw [show (setStation r _ s).stations.read q = _ from Table.read_write _ _ _ _]
      split
      · rename_i same
        rw [← same, present]
        exact .some {}
      · exact optionRel_refl Station.Linked.refl _

theorem tidy_removeStation {r : Fin 48} {st : Station} (present : s.stations.read r = some st)
    (unused : stationInUse st = false) : Tidy s (orphanPolls r (setStation r none s)) :=
  tidy_recordWritten (by rw [requestOpen_some present]; exact (stationInUse_eq_false unused).1) nofun

end

end Sys2Proof.Machine
end

section
namespace Sys2Proof.Machine

-- One elaboration thread: the check's memory limit counts the stack of each.
set_option Elab.async false

section
variable {s t u : State}

/-! ### What the counters' ticks leave (R82, R96) -/

theorem eachCounter_eq_free {f : TickCounter → TickCounter} {x : Slot} : x.eachCounter f = .free ↔ x = .free := by
  cases x <;> simp [Slot.eachCounter]

theorem holdDown_eq_free {x : Slot} : x.holdDown = .free ↔ x = .free := by
  cases x with
  | owned o => unfold Slot.holdDown; dsimp only; split <;> simp
  | free | pinned | spare => simp [Slot.holdDown]

theorem moveDown_eq_free {x : Slot} : x.moveDown = .free ↔ x = .free := by
  cases x <;> simp [Slot.moveDown]

theorem lapse_eq_free {r : Fin 48} {hold : Option TickCounter} {x : Slot} : x.lapse r hold = .free ↔ x = .free := by
  cases x with
  | owned o => unfold Slot.lapse; dsimp only; split <;> simp
  | free | pinned | spare => simp [Slot.lapse]

theorem comeBack_eq_free {r : Fin 48} {x : Slot} : x.comeBack r = .free ↔ x = .free := by
  cases x with
  | owned o => unfold Slot.comeBack; dsimp only; split <;> simp
  | free | pinned | spare => simp [Slot.comeBack]

/-- Every slot changed, none to FREE. -/
theorem each_free_back {x : Table Slot 384} {f : Slot → Slot} (h : ∀ y, f y = .free ↔ y = .free) (slots : t.slots = x.each f)
    (i : Fin 384) (free : t.slots.read i = .free) : x.read i = .free := by
  rw [slots, Table.read_each] at free
  exact (h _).1 free

/-- A slot changed, but not to FREE. -/
theorem setSlot_free_back {j : Fin 384} {x : Slot} (h : x = .free → s.slots.read j = .free) (i : Fin 384)
    (free : (setSlot j x s).slots.read i = .free) : s.slots.read i = .free := by
  rw [setSlot_slots, Table.read_write] at free
  split_ifs at free with same
  · exact same ▸ h free
  · exact free

theorem unrefilled_issueTick (s : State) : Unrefilled s (issueTick s) where
  slots := each_free_back (fun _ => eachCounter_eq_free) rfl
  wants z h := by simpa [wantsSpare, issueTick, Table.read_each] using h

theorem unrefilled_tickLease (r : Fin 48) (s : State) : Unrefilled s (tickLease r s) := by
  unfold tickLease
  split
  · exact {}
  · split_ifs
    · exact {}
    · exact { slots := each_free_back (fun _ => lapse_eq_free) rfl }
    · exact {}
    · exact {}

theorem unrefilled_takeReplyNotice (r : Fin 48) (s : State) : Unrefilled s (takeReplyNotice r s) := by
  refine { slots := ?_ }
  unfold takeReplyNotice
  split
  · exact fun _ h => h
  · split_ifs
    · exact fun _ h => h
    · exact each_free_back (fun _ => comeBack_eq_free) rfl
    · exact fun _ h => h

theorem upkeep_tickHold (i : Fin 384) (s : State) : Upkeep s (tickHold i s) := by
  refine (served_tickHold i s).tidy.upkeep (keeps_tickHold i s) ?_
  unfold tickHold
  split
  · exact id
  · split_ifs
    · exact id
    · exact fun _ => refillsStarted_startRefill _
    · exact Unrefilled.kept { slots := setSlot_free_back holdDown_eq_free.1 }

theorem upkeep_tickMove (i : Fin 384) (s : State) : Upkeep s (tickMove i s) := by
  refine (served_tickMove i s).tidy.upkeep (keeps_tickMove i s) ?_
  unfold tickMove
  split
  · exact id
  · split_ifs
    · exact id
    · exact fun _ => refillsStarted_startRefill _
    · exact Unrefilled.kept { slots := setSlot_free_back moveDown_eq_free.1 }

theorem upkeep_tickClear (z : Fin 16) (s : State) : Upkeep s (tickClear z s) := by
  refine (served_tickClear z s).tidy.upkeep (keeps_tickClear z s) ?_
  unfold tickClear
  split
  · exact id
  · split_ifs
    · exact id
    · exact fun _ => refillsStarted_startRefill _
    · refine Unrefilled.kept { wants := fun y h => ?_ }
      unfold wantsSpare at h ⊢
      rw [changeZone_zones, Table.read_change] at h
      split_ifs at h <;> simpa using h

/-! ### Pins and completions -/

theorem recordPin_slot {i : Fin 384} (index : Nat) (p z : Fin 16) (label : List Byte) (j : Fin 384)
    (free : s.slots.read j = .free) :
    (recordPin i index p z label s).slots.read j = .free ∨
      ∃ q, (recordPin i index p z label s).slots.read j = .pinned q := by
  have slots : (recordPin i index p z label s).slots = s.slots.write i (pinnedSlot s index p z label) := rfl
  rw [slots, Table.read_write]
  split_ifs
  · exact .inr ⟨_, rfl⟩
  · exact .inl free

theorem upkeep_recordPin (i : Fin 384) (index : Nat) (p z : Fin 16) (label : List Byte) :
    Upkeep s (recordPin i index p z label s) where
  toTidy := (served_recordPin i index p z label s).tidy
  refills := by
    have pinned : Unrefilled s (setSlot i (pinnedSlot s index p z label) s) :=
      { slots := setSlot_free_back nofun }
    have advanced : Unrefilled (setSlot i (pinnedSlot s index p z label) s) (recordPin i index p z label s) :=
      { foreground := fun h => Option.map_eq_none_iff.1 h, background := fun h => Option.map_eq_none_iff.1 h,
        queue := id, slots := fun _ h => h, wants := fun _ h => h, barred := fun _ h => h, mode := id }
    exact advanced.kept ∘ pinned.kept
  slots j free := (recordPin_slot index p z label j free).imp id .inl

theorem upkeep_completePin {w : PinWork} {c : SearchContext} (held : s.engine.foreground = some (.pin w c))
    (afterRetest : Bool) : Upkeep s (startRefill (completePin w c afterRetest s)) := by
  refine upkeep_refill (served_completePin held afterRetest).tidy fun i free => ?_
  have calm : ∀ {v : State}, Calm s v → v.slots.read i = .free ∨ (∃ p, v.slots.read i = .pinned p) ∨
      RecordedAt s i (v.slots.read i) := fun h => .inl ((h.keeps.records i).free free)
  unfold completePin
  split_ifs
  · unfold recordCheckedPin
    split
    · exact calm (calm_closePin _ s)
    · rename_i j _
      exact (recordPin_slot (i := j) w.index w.profile w.zone w.label i free).imp id .inl
  · exact calm (calm_closePin _ s)
  · exact calm (calm_beginPin (.refl s) w _)
  · exact calm (calm_setForeground (.refl s) (f := .pin w { c with e0 := s.epoch, moved := false, stage := .retestDue w.index })
      fun _ => trivial)

theorem ready_of_unmoved {c : SearchContext} {f : Nat} (stage : c.stage = .found f ∨ c.stage = .retested f)
    (unmoved : c.moved = false) : c.ready? = some f := by
  unfold SearchContext.ready?
  rw [unmoved]
  rcases stage with stage | stage <;> rw [stage] <;> rfl

/-- A completion that finds the epoch unmoved records the candidate that its search is ready with. -/
theorem upkeep_completeSearch {job : Job} {c : SearchContext} {f : Nat} (held : holdsSearch s.engine job c)
    (stage : c.stage = .found f ∨ c.stage = .retested f) (afterRetest : Bool) :
    Upkeep s (startRefill (completeSearch job c f afterRetest s)) := by
  refine upkeep_refill (served_completeSearch held f afterRetest).tidy fun i free => ?_
  have calm : ∀ {v : State}, Calm s v → v.slots.read i = .free ∨ (∃ p, v.slots.read i = .pinned p) ∨
      RecordedAt s i (v.slots.read i) := fun h => .inl ((h.keeps.records i).free free)
  unfold completeSearch
  split_ifs with gone unmoved
  · exact calm (calm_closeSearch _ _ s)
  · exact .inr (.inr ⟨job, c, f, held, ready_of_unmoved stage unmoved, rfl⟩)
  · exact calm (calm_fullResearch held)
  · exact calm (calm_setContext (.refl s) (held_phaseSound held) _)
  · exact calm (calm_closeSearch _ _ s)

/-! ### The modes, the records and the characters -/

/-- In CONFIG no refill is owed. -/
theorem upkeep_of_config (config : t.console.mode = .config) (tidy : Tidy s t) (keeps : Keeps s t) : Upkeep s t :=
  tidy.upkeep keeps fun _ run => nomatch config.symm.trans run

theorem upkeep_stopPart (s : State) : Upkeep s (stopPart s) :=
  upkeep_of_config rfl (tidy_stopPart s) (calm_stopPart s).keeps

theorem upkeep_clearPart (s : State) : Upkeep s (clearPart s) := by
  refine upkeep_of_config ?_ (tidy_clearPart s) (keeps_clearPart s)
  unfold clearPart
  split
  · rfl
  · rename_i config
    cases hm : s.console.mode with
    | config => exact (by simpa using hm : (abandonWork s).console.mode = .config)
    | run => exact absurd (by simp [inRun, hm]) config

theorem upkeep_startPart (s : State) : Upkeep s (startPart s) :=
  (tidy_startPart s).upkeep (calm_startPart s).keeps fun _ => refillsStarted_startRefill _

theorem upkeep_storeStation {r : Fin 48} {new : StationSettings} (unlocked : stationLocked new (s.stations.read r) = false) :
    Upkeep s (storeStation r new s) where
  toTidy := tidy_storeStation unlocked
  refills := Unrefilled.kept {}
  slots i free := .inl (by simpa using free)

theorem upkeep_removeStation {r : Fin 48} {st : Station} (present : s.stations.read r = some st)
    (unused : stationInUse st = false) : Upkeep s (orphanPolls r (setStation r none s)) where
  toTidy := tidy_removeStation present unused
  refills := Unrefilled.kept {}
  slots i free := .inl (by simpa using free)

theorem upkeep_receiveChar (b : Fin 4) (c : RxChar) (s : State) : Upkeep s (receiveChar b c s) := by
  refine (tidy_receiveChar b c s).upkeep (keeps_receiveChar b c s) ?_
  unfold receiveChar
  split
  · split
    · exact Unrefilled.kept {}
    · exact Unrefilled.kept {}
    · unfold acceptPoll
      split
      · exact Unrefilled.kept {}
      · exact fun _ => refillsStarted_startRefill _
  · exact id

/-- Branches changed without engine work. -/
theorem upkeep_changeBranch {b : Fin 4} {f : Branch → Branch}
    (h : (s.branches.read b).Linked (inRun s) (f (s.branches.read b))) : Upkeep s (changeBranch b f s) :=
  Unrefilled.upkeep {} (tidy_changeBranch h) (calm_changeBranch b f s).keeps

end

end Sys2Proof.Machine
end

section
namespace Sys2Proof.Machine

-- One elaboration thread: the check's memory limit counts the stack of each.
set_option Elab.async false

section
variable {s : State}

/-! ### What every command keeps of them, command by command -/

/-! #### The plan's requests -/

theorem upkeep_writePlan (plan : Plan) (tightens : Bool) (s : State) :
    leadsTo (Upkeep s) (.next (respond .ok [] (startRefill (writePlan plan tightens s)))) :=
  leadsTo_next.2 (((served_writePlan plan tightens s).refilled (calm_writePlan plan tightens s).keeps).respond .ok [])

theorem upkeep_undefineProfile (p : Byte) (s : State) : leadsTo (Upkeep s) (undefineProfile p s) := by
  unfold undefineProfile
  split
  · exact denied_upkeep _ s
  · split
    · exact denied_upkeep _ s
    · exact upkeep_writePlan _ _ s

theorem upkeep_writeProfile (p st : Byte) (l h : Word) (sp c p3 p5 : Byte) (s : State) :
    leadsTo (Upkeep s) (execWriteProfile p st l h sp c p3 p5 s) := by
  unfold execWriteProfile
  split
  · unfold defineProfile
    split
    · exact denied_upkeep _ s
    · split_ifs
      · exact denied_upkeep _ s
      · exact denied_upkeep _ s
      · exact upkeep_writePlan _ _ s
  · split
    · exact upkeep_undefineProfile p s
    · exact denied_upkeep _ s

theorem upkeep_writeZone (z : Byte) (l h : Word) (d p : Byte) (c : Word) (s : State) :
    leadsTo (Upkeep s) (execWriteZone z l h d p c s) := by
  unfold execWriteZone
  split
  · exact denied_upkeep _ s
  · split
    · exact denied_upkeep _ s
    · exact leadsTo_next.2 ((((served_writePlan _ _ s).trans (served_applySpareSettings _ _ _ _)).refilled
        ((calm_writePlan _ _ s).keeps.trans (keeps_applySpareSettings _ _ _ _))).respond _ _)

theorem upkeep_writeCoupling (a b v : Byte) (s : State) : leadsTo (Upkeep s) (execWriteCoupling a b v s) := by
  unfold execWriteCoupling
  split
  · split
    · exact denied_upkeep _ s
    · exact upkeep_writePlan _ _ s
  · exact denied_upkeep _ s

theorem upkeep_addExclusion (l h : Word) (s : State) : leadsTo (Upkeep s) (execAddExclusion l h s) := by
  unfold execAddExclusion
  dsimp only
  split_ifs
  · exact denied_upkeep _ s
  · exact denied_upkeep _ s
  · exact denied_upkeep _ s
  · exact upkeep_writePlan _ _ s

theorem upkeep_removeExclusion (l h : Word) (s : State) : leadsTo (Upkeep s) (execRemoveExclusion l h s) := by
  unfold execRemoveExclusion
  dsimp only
  split_ifs
  · exact denied_upkeep _ s
  · exact denied_upkeep _ s
  · exact upkeep_writePlan _ _ s

theorem upkeep_writeGuards (g fg : Byte) (s : State) : leadsTo (Upkeep s) (execWriteGuards g fg s) := by
  unfold execWriteGuards
  split
  · exact upkeep_writePlan _ _ s
  · exact denied_upkeep _ s

/-! #### The settings, the reads and the console port -/

theorem upkeep_readProfile (p : Byte) (s : State) : leadsTo (Upkeep s) (execReadProfile p s) := by
  unfold execReadProfile
  split
  · exact denied_upkeep _ s
  · exact read_upkeep _ s

theorem upkeep_readZone (z : Byte) (s : State) : leadsTo (Upkeep s) (execReadZone z s) := by
  unfold execReadZone
  split
  · exact denied_upkeep _ s
  · exact read_upkeep _ s

theorem upkeep_readCoupling (a b : Byte) (s : State) : leadsTo (Upkeep s) (execReadCoupling a b s) := by
  unfold execReadCoupling
  split
  · exact read_upkeep _ s
  · exact denied_upkeep _ s

theorem upkeep_readStation (r : Byte) (s : State) : leadsTo (Upkeep s) (execReadStation r s) := by
  unfold execReadStation
  split
  · exact denied_upkeep _ s
  · exact read_upkeep _ s

theorem upkeep_readBranch (b : Byte) (s : State) : leadsTo (Upkeep s) (execReadBranch b s) := by
  unfold execReadBranch
  split
  · exact denied_upkeep _ s
  · exact read_upkeep _ s

theorem upkeep_readEntry (i : Word) (s : State) : leadsTo (Upkeep s) (execReadEntry i s) := by
  unfold execReadEntry
  split
  · exact denied_upkeep _ s
  · exact read_upkeep _ s

theorem upkeep_readEntries (start : Word) (n : Byte) (s : State) : leadsTo (Upkeep s) (execReadEntries start n s) := by
  unfold execReadEntries
  split
  · exact read_upkeep _ s
  · exact denied_upkeep _ s

theorem upkeep_writeTimeBase (code : Byte) (s : State) : leadsTo (Upkeep s) (execWriteTimeBase code s) := by
  unfold execWriteTimeBase
  split
  · exact denied_upkeep _ s
  · split
    · exact denied_upkeep _ s
    · exact (upkeep_of_plain {} {} {}).accepted _

theorem upkeep_writeLease (p : Byte) (s : State) : leadsTo (Upkeep s) (execWriteLease p s) := by
  unfold execWriteLease
  split
  · exact (upkeep_of_plain {} {} {}).accepted _
  · exact denied_upkeep _ s

theorem upkeep_writeMoveTime (t : Byte) (s : State) : leadsTo (Upkeep s) (execWriteMoveTime t s) := by
  unfold execWriteMoveTime
  split
  · exact (upkeep_of_plain {} {} {}).accepted _
  · exact denied_upkeep _ s

theorem upkeep_writeDefer (u l : Byte) (s : State) : leadsTo (Upkeep s) (execWriteDefer u l s) := by
  unfold execWriteDefer
  split
  · exact (upkeep_of_plain {} {} {}).accepted _
  · exact denied_upkeep _ s

theorem upkeep_writeSweep (l h : Word) (st se t hy k m e g : Byte) (o : Word24) (sc : Byte) (s : State) :
    leadsTo (Upkeep s) (execWriteSweep l h st se t hy k m e g o sc s) := by
  unfold execWriteSweep
  dsimp only
  split_ifs
  · exact denied_upkeep _ s
  · exact (upkeep_of_plain {} {} {}).accepted _
  · exact denied_upkeep _ s

theorem upkeep_sweepStart (s : State) : leadsTo (Upkeep s) (execSweepStart s) := by
  unfold execSweepStart
  split
  · exact read_upkeep _ s
  · exact (upkeep_of_plain {} {} {}).accepted _

theorem upkeep_unknownRequestCode (code : Byte) (s : State) : leadsTo (Upkeep s) (execUnknownRequestCode code s) := by
  unfold execUnknownRequestCode
  split
  · exact denied_upkeep _ s
  · exact idle_upkeep s

theorem upkeep_start (s : State) : leadsTo (Upkeep s) (execStart s) := by
  unfold execStart
  split
  · exact read_upkeep _ s
  · exact (upkeep_startPart s).accepted _

theorem upkeep_stop (s : State) : leadsTo (Upkeep s) (execStop s) := by
  unfold execStop
  split
  · exact (upkeep_stopPart s).accepted _
  · exact read_upkeep _ s

/-! #### Station and branch requests -/

theorem upkeep_writeStation (r b a z c au : Byte) (s : State) : leadsTo (Upkeep s) (execWriteStation r b a z c au s) := by
  unfold execWriteStation
  split
  · exact denied_upkeep _ s
  · split_ifs with locked
    · exact denied_upkeep _ s
    · exact denied_upkeep _ s
    · exact (upkeep_storeStation (Bool.eq_false_iff.2 locked)).accepted _

theorem upkeep_removeStationRequest (r : Byte) (s : State) : leadsTo (Upkeep s) (execRemoveStation r s) := by
  unfold execRemoveStation
  split
  · exact denied_upkeep _ s
  · split
    · exact denied_upkeep _ s
    · rename_i present
      split
      · exact denied_upkeep _ s
      · rename_i unused
        exact (upkeep_removeStation present (Bool.eq_false_iff.2 unused)).accepted _

theorem upkeep_writeBranch (b r t w g d : Byte) (s : State) : leadsTo (Upkeep s) (execWriteBranch b r t w g d s) := by
  unfold execWriteBranch
  split
  · exact denied_upkeep _ s
  · split
    · exact denied_upkeep _ s
    · split
      · split
        · exact (upkeep_changeBranch ⟨id, fun _ => .refl _⟩).accepted _
        · exact denied_upkeep _ s
      · exact denied_upkeep _ s

theorem upkeep_branchEnable (b : Byte) (s : State) : leadsTo (Upkeep s) (execBranchEnable b s) := by
  unfold execBranchEnable
  split
  · exact denied_upkeep _ s
  · rename_i b _
    split
    · exact (Unrefilled.upkeep {} (tidy_enableBranch b s) (Calm.keeps {})).accepted _
    · exact read_upkeep _ s

theorem upkeep_branchDisable (b : Byte) (s : State) : leadsTo (Upkeep s) (execBranchDisable b s) := by
  unfold execBranchDisable
  split
  · exact denied_upkeep _ s
  · split
    · exact read_upkeep _ s
    · exact (Unrefilled.upkeep {} (tidy_disableBranch _ s) (calm_disableBranch _ s).keeps).accepted _

/-! #### The records and the engine's console work -/

theorem upkeep_pinUnchecked (i : Word) (p z : Byte) (l : List Byte) (s : State) :
    leadsTo (Upkeep s) (pinUnchecked i p z l s) := by
  unfold pinUnchecked
  split
  · exact denied_upkeep _ s
  · split
    · split
      · exact denied_upkeep _ s
      · exact (upkeep_recordPin _ _ _ _ _).accepted _
    · exact denied_upkeep _ s

theorem enqueue_ne_nil (w : Work) (q : List Work) : enqueue w q ≠ [] := fun h =>
  List.cons_ne_nil w q (List.perm_nil.1 (h ▸ enqueue_perm.symm))

/-- While work is queued no refill is due. -/
theorem upkeep_queueHostWork {w : Work} (sound : w.phaseSound) (host : w.hostKind?.isSome = true) (s : State) :
    leadsTo (Upkeep s) (queueHostWork w s) := by
  unfold queueHostWork
  split
  · exact denied_upkeep _ s
  · rename_i open_
    have closed : s.console.openRequest = false := by
      cases h : s.console.openRequest with
      | false => rfl
      | true => simp [h] at open_
    have queued : (openHostWork w s).engine.queue ≠ [] := by
      rw [openHostWork, joinQueue_eq]
      exact enqueue_ne_nil w _
    exact (Unrefilled.upkeep { queue := fun h => absurd h queued } (served_openHostWork host closed).tidy
      (calm_openHostWork sound s).keeps).accepted _

theorem upkeep_queueCheckedPin (i : Word) (p z : Byte) (l : List Byte) (s : State) :
    leadsTo (Upkeep s) (queueCheckedPin i p z l s) := by
  unfold queueCheckedPin
  split
  · exact denied_upkeep _ s
  · split
    · exact upkeep_queueHostWork (w := .pin _) trivial rfl s
    · exact denied_upkeep _ s

theorem upkeep_pin (i : Word) (p z flag : Byte) (l : List Byte) (s : State) :
    leadsTo (Upkeep s) (execPin i p z flag l s) := by
  unfold execPin
  split_ifs
  · exact upkeep_pinUnchecked i p z l s
  · exact upkeep_queueCheckedPin i p z l s
  · exact denied_upkeep _ s

theorem upkeep_check (i : Word) (p z : Byte) (s : State) : leadsTo (Upkeep s) (execCheck i p z s) := by
  unfold execCheck
  split
  · exact denied_upkeep _ s
  · exact upkeep_queueHostWork (w := .check _) trivial rfl s

theorem upkeep_retire (i : Word) (s : State) : leadsTo (Upkeep s) (execRetire i s) := by
  unfold execRetire
  split
  · exact denied_upkeep _ s
  · split
    · exact denied_upkeep _ s
    · exact ((served_retireSlot _ _ s).refilled (keeps_retireSlot _ _ s)).accepted _

theorem upkeep_changeover (z f : Byte) (s : State) : leadsTo (Upkeep s) (execChangeover z f s) := by
  unfold execChangeover
  split
  · exact denied_upkeep _ s
  · split
    · exact denied_upkeep _ s
    · rename_i h
      exact ((served_changeoverZone h).refilled (keeps_changeoverZone h)).accepted _

theorem upkeep_dropForeign (i : Word) (s : State) : leadsTo (Upkeep s) (execDropForeign i s) := by
  unfold execDropForeign
  split
  · exact denied_upkeep _ s
  · split
    · exact denied_upkeep _ s
    · rename_i found
      exact ((plain_dropEntry _ s).served.refilled (keeps_dropEntry (entryAt_eq_some found).1)).accepted _

/-! #### The events of the engine -/

theorem upkeep_candidateEvaluation (s : State) : leadsTo (Upkeep s) (execCandidateEvaluation s) := by
  unfold execCandidateEvaluation
  split
  · rename_i active
    have held := activeSearch_held active
    exact due_upkeep fun _ => (served_evaluateNext held).refilled (calm_evaluateNext held).keeps
  · exact idle_upkeep s

theorem upkeep_searchCompletion (s : State) : leadsTo (Upkeep s) (execSearchCompletion s) := by
  unfold execSearchCompletion
  split
  · rename_i active
    split
    · exact leadsTo_next.2 (upkeep_completeSearch (activeSearch_held active) (.inl ‹_›) _)
    · exact leadsTo_next.2 (upkeep_completeSearch (activeSearch_held active) (.inr ‹_›) _)
    · exact idle_upkeep s
    · exact idle_upkeep s
  · exact idle_upkeep s

theorem upkeep_reTest (s : State) : leadsTo (Upkeep s) (execReTest s) := by
  unfold execReTest
  split
  · rename_i held
    split
    · exact leadsTo_next.2 ((served_retestPin held).refilled (calm_retestPin _ _ s).keeps)
    · exact idle_upkeep s
  · split
    · rename_i active
      have held := activeSearch_held active
      split
      · exact leadsTo_next.2 ((served_retestSearch held _).refilled (calm_retestSearch held _).keeps)
      · exact idle_upkeep s
    · exact idle_upkeep s

theorem upkeep_checkedPinCompletion (s : State) : leadsTo (Upkeep s) (execCheckedPinCompletion s) := by
  unfold execCheckedPinCompletion
  split
  · rename_i held
    split
    · exact leadsTo_next.2 (upkeep_completePin held _)
    · exact leadsTo_next.2 (upkeep_completePin held _)
    · exact idle_upkeep s
    · exact idle_upkeep s
  · exact idle_upkeep s

theorem upkeep_auditVisitEvent (s : State) : leadsTo (Upkeep s) (execAuditVisit s) := by
  unfold execAuditVisit
  split
  · rename_i held
    exact leadsTo_next.2 ((served_auditVisit held).refilled (calm_auditVisit (.refl s) _ _).keeps)
  · exact idle_upkeep s

/-! #### The events of the Lease Timer, the zones and the Sweep Unit -/

theorem upkeep_tickLease (r : Fin 48) (s : State) : Upkeep s (tickLease r s) :=
  (unrefilled_tickLease r s).upkeep (plain_tickLease r s).tidy (keeps_tickLease r s)

theorem upkeep_tick (s : State) : leadsTo (Upkeep s) (execTick s) := by
  unfold execTick
  split
  · exact leadsTo_next.2 (upkeep_of_plain (plain_issueTick s) (unrefilled_issueTick s) (calm_issueTick s))
  · exact idle_upkeep s

theorem upkeep_lapse (r : Fin 48) (s : State) : leadsTo (Upkeep s) (execLapse r s) := by
  unfold execLapse
  split
  · exact due_upkeep fun _ => upkeep_tickLease r s
  · exact idle_upkeep s

theorem upkeep_holdExpiry (i : Fin 384) (s : State) : leadsTo (Upkeep s) (execHoldExpiry i s) := by
  unfold execHoldExpiry
  split
  · exact due_upkeep fun _ => upkeep_tickHold i s
  · exact idle_upkeep s

theorem upkeep_moveLapse (i : Fin 384) (s : State) : leadsTo (Upkeep s) (execMoveLapse i s) := by
  unfold execMoveLapse
  split
  · exact due_upkeep fun _ => upkeep_tickMove i s
  · exact idle_upkeep s

theorem upkeep_clearTimerExpiry (z : Fin 16) (s : State) : leadsTo (Upkeep s) (execClearTimerExpiry z s) := by
  unfold execClearTimerExpiry
  split
  · exact due_upkeep fun _ => upkeep_tickClear z s
  · exact idle_upkeep s

theorem upkeep_tuneLatch (s : State) : leadsTo (Upkeep s) (execTuneLatch s) := by
  unfold execTuneLatch
  split
  · exact leadsTo_next.2 (upkeep_of_plain {} {} {})
  · exact idle_upkeep s

theorem upkeep_settleEnd (s : State) : leadsTo (Upkeep s) (execSettleEnd s) := by
  unfold execSettleEnd
  split
  · exact leadsTo_next.2 (upkeep_of_plain {} {} {})
  · exact idle_upkeep s

theorem upkeep_conversionComplete (rssi refLow refHigh : Nat) (s : State) :
    leadsTo (Upkeep s) (execConversionComplete rssi refLow refHigh s) := by
  unfold execConversionComplete
  split
  · have shown : Plain s (showFree s) := {}
    have calm : Calm s (showFree s) := {}
    exact leadsTo_next.2 ((shown.served.trans (served_completePoint _ _)).refilled (calm.keeps.trans (keeps_completePoint _ _)))
  · exact idle_upkeep s

theorem upkeep_passGapEnd (s : State) : leadsTo (Upkeep s) (execPassGapEnd s) := by
  unfold execPassGapEnd
  split
  · exact leadsTo_next.2 (upkeep_of_plain {} {} {})
  · exact idle_upkeep s

/-! #### The events of the branches -/

theorem upkeep_poll (b : Fin 4) (s : State) : leadsTo (Upkeep s) (execPoll b s) := by
  unfold execPoll
  split
  · rename_i last round
    split
    · rename_i due
      split
      · rename_i next
        obtain ⟨present, branch⟩ := nextStation_eq_some next
        have due : Polling b s := by
          simp only [Bool.and_eq_true, beq_iff_eq] at due
          exact ⟨due.1.2, due.1.1⟩
        exact leadsTo_next.2 (Unrefilled.upkeep {} (tidy_formPoll present branch due) (calm_formPoll b _ _ s).keeps)
      · exact leadsTo_next.2 (upkeep_changeBranch
          (linked_setActivity (fun h => h.polling (by rw [round]; nofun)) nofun nofun))
    · exact idle_upkeep s
  · exact idle_upkeep s

theorem upkeep_failPoll {b : Fin 4} (busy : (s.branches.read b).activity ≠ .idle) (p : Poll) : Upkeep s (failPoll b p s) :=
  Unrefilled.upkeep {} (tidy_failPoll busy p) (calm_failPoll b p s).keeps

theorem upkeep_replyWindowExpired (b : Fin 4) (s : State) : leadsTo (Upkeep s) (execReplyWindowExpired b s) := by
  unfold execReplyWindowExpired
  split
  · rename_i listening
    exact leadsTo_next.2 (upkeep_failPoll (by rw [listening]; nofun) _)
  · exact idle_upkeep s

theorem upkeep_replyGapTimeout (b : Fin 4) (s : State) : leadsTo (Upkeep s) (execReplyGapTimeout b s) := by
  unfold execReplyGapTimeout
  split
  · rename_i listening
    exact leadsTo_next.2 (upkeep_failPoll (by rw [listening]; nofun) _)
  · exact idle_upkeep s

theorem upkeep_quietWaitEnd (b : Fin 4) (s : State) : leadsTo (Upkeep s) (execQuietWaitEnd b s) := by
  unfold execQuietWaitEnd
  split
  · rename_i quiet
    exact due_upkeep fun _ => Unrefilled.upkeep {}
      (tidy_continueRound (fun h => h.polling (by rw [quiet]; nofun)) _) (calm_continueRound b _ s).keeps
  · exact idle_upkeep s

theorem upkeep_roundGapEnd (b : Fin 4) (s : State) : leadsTo (Upkeep s) (execRoundGapEnd b s) := by
  unfold execRoundGapEnd
  split
  · rename_i advances gap
    have counted : Tidy s (changeBranch b
        (fun br => { br with roundCount := if advances then br.roundCount + 1 else br.roundCount }) s) :=
      tidy_changeBranch ⟨id, fun _ => .refl _⟩
    refine leadsTo_next.2 (Unrefilled.upkeep {} (counted.trans (tidy_continueRound (fun h => h.polling ?_) 0)) (Calm.keeps {}))
    rw [changeBranch_branches, Table.read_change, if_pos rfl]
    exact fun idle => nomatch gap.symm.trans idle
  · exact idle_upkeep s

/-! #### Every command -/

/-- What every command keeps of the modes, the branches, the answers and the refills. -/
theorem exec_upkeep (c : Instr) (s : State) : leadsTo (Upkeep s) (exec c s) := by
  have received : ∀ b ch, leadsTo (Upkeep s) (.next (receiveChar b ch s)) := fun b ch => (upkeep_receiveChar b ch s).occurs
  cases c with
  | hardwareReset => exact (upkeep_of_config rfl (tidy_resetPart s) (keeps_resetPart s)).occurs
  | writeProfile p st l h sp c p3 p5 => exact upkeep_writeProfile p st l h sp c p3 p5 s
  | writeProfileUndefined p l h sp c p3 p5 => exact upkeep_undefineProfile p s
  | readProfile p => exact upkeep_readProfile p s
  | writeZone z l h d p c => exact upkeep_writeZone z l h d p c s
  | readZone z => exact upkeep_readZone z s
  | writeCoupling a b v => exact upkeep_writeCoupling a b v s
  | readCoupling a b => exact upkeep_readCoupling a b s
  | addExclusion l h => exact upkeep_addExclusion l h s
  | removeExclusion l h => exact upkeep_removeExclusion l h s
  | writeGuards g fg => exact upkeep_writeGuards g fg s
  | writeTimeBase code => exact upkeep_writeTimeBase code s
  | writeLease p => exact upkeep_writeLease p s
  | writeHold h => exact (upkeep_of_plain {} {} {}).accepted _
  | writeMoveTime t => exact upkeep_writeMoveTime t s
  | writeDefer u l => exact upkeep_writeDefer u l s
  | writeStation r b a z c au => exact upkeep_writeStation r b a z c au s
  | removeStation r => exact upkeep_removeStationRequest r s
  | readStation r => exact upkeep_readStation r s
  | writeBranch b r t w g d => exact upkeep_writeBranch b r t w g d s
  | readBranch b => exact upkeep_readBranch b s
  | branchEnable b => exact upkeep_branchEnable b s
  | branchDisable b => exact upkeep_branchDisable b s
  | pin i p z flag l => exact upkeep_pin i p z flag l s
  | checkedPin i p z l => exact upkeep_queueCheckedPin i p z l s
  | retire i => exact upkeep_retire i s
  | readEntry i => exact upkeep_readEntry i s
  | readEntries st n => exact upkeep_readEntries st n s
  | changeover z f => exact upkeep_changeover z f s
  | check i p z => exact upkeep_check i p z s
  | audit => exact upkeep_queueHostWork (w := .audit) trivial rfl s
  | readResult => exact (upkeep_of_plain {} {} {}).accepted _
  | writeSweep l h st se t hy k m e g o sc => exact upkeep_writeSweep l h st se t hy k m e g o sc s
  | readSweep => exact (upkeep_of_plain {} {} {}).accepted _
  | sweepStart => exact upkeep_sweepStart s
  | sweepStop => exact (upkeep_of_plain {} {} {}).accepted _
  | dropForeign i => exact upkeep_dropForeign i s
  | start => exact upkeep_start s
  | stop => exact upkeep_stop s
  | clear => exact (upkeep_clearPart s).accepted _
  | readAttention => exact (upkeep_of_plain {} {} {}).accepted _
  | writeMask m => exact (upkeep_of_plain {} {} {}).accepted _
  | listExclusions | readGuards | readTiming | readCounts | readForeign => exact read_upkeep _ s
  | unknownRequestCode code => exact upkeep_unknownRequestCode code s
  | chipSelectReleasedEarly received => exact (upkeep_of_plain {} {} {}).occurs
  | tick => exact upkeep_tick s
  | leaseCounterDecrement r => exact (upkeep_tickLease r s).occurs
  | lapse r => exact upkeep_lapse r s
  | holdCounterDecrement i => exact (upkeep_tickHold i s).occurs
  | holdExpiry i => exact upkeep_holdExpiry i s
  | moveCounterDecrement i => exact (upkeep_tickMove i s).occurs
  | moveLapse i => exact upkeep_moveLapse i s
  | clearTimerDecrement z => exact (upkeep_tickClear z s).occurs
  | clearTimerExpiry z => exact upkeep_clearTimerExpiry z s
  | poll b => exact upkeep_poll b s
  | turnoffDelayEnd b => exact due_upkeep fun _ => upkeep_changeBranch (linked_releaseTxen _ _)
  | replyAccepted b ch => exact received b ch
  | replyWindowExpired b => exact upkeep_replyWindowExpired b s
  | replyGapTimeout b => exact upkeep_replyGapTimeout b s
  | replyFailed b ch => exact received b ch
  | quietWaitEnd b => exact upkeep_quietWaitEnd b s
  | strayCharacter b ch => exact received b ch
  | roundGapEnd b => exact upkeep_roundGapEnd b s
  | branchFault b => exact due_upkeep fun due => Unrefilled.upkeep {} (tidy_faultBranch due.2) (calm_faultBranch b s).keeps
  | branchFaultRecovery b => exact due_upkeep fun due => Unrefilled.upkeep {} (tidy_recoverBranch due.1) (Calm.keeps {})
  | validReplyNotice r =>
    exact ((unrefilled_takeReplyNotice r s).upkeep (plain_takeReplyNotice r s).tidy (keeps_takeReplyNotice r s)).occurs
  | engineTake => exact ((served_takeWork s).refilled (calm_takeWork s).keeps).occurs
  | candidateEvaluation => exact upkeep_candidateEvaluation s
  | searchCompletion => exact upkeep_searchCompletion s
  | reTest => exact upkeep_reTest s
  | checkedPinCompletion => exact upkeep_checkedPinCompletion s
  | auditVisit => exact upkeep_auditVisitEvent s
  | tuneLatch => exact upkeep_tuneLatch s
  | settleEnd => exact upkeep_settleEnd s
  | conversionComplete a b d => exact upkeep_conversionComplete a b d s
  | passGapEnd => exact upkeep_passGapEnd s
  | replyCharacterReceived b ch => exact received b ch
  | lineTransition b level => exact (upkeep_changeBranch (linked_lineChanges _ level _)).occurs

end

/-! ### What every step keeps of them -/

/-- A step is a command's upkeep of a state with other commands pending, or idles. -/
theorem step_upkeep {s t : State} (h : step s = .next t) : s = t ∨ ∃ cs, Upkeep (s.withPending cs) t := by
  unfold step at h
  split at h
  · cases h
    exact .inl rfl
  · exact .inr ⟨_, exec_upkeep _ _ t h⟩

theorem plain_withPending (s : State) (cs : List Instr) : Plain s (s.withPending cs) where
  mode := rfl
  branches := rfl
  background _ h := h
  work _ := rfl
  host := rfl
  openRequest := rfl
  stations := linkedStations_of_eq rfl

/-- Settles O57: every command keeps the modes and the branches as they agree. -/
theorem branchesFollowTheMode : Obligations.BranchesFollowTheMode := by
  unfold Obligations.BranchesFollowTheMode
  intro s t sound h
  rcases step_upkeep h with rfl | ⟨cs, upkeep⟩
  · exact sound
  · exact upkeep.mode ((plain_withPending s cs).tidy.mode sound)

/-- Settles O55: an answer is given in place of the work it answers, or to a station whose reply has just made room for it. -/
theorem answerQueuesKeepRoom : Obligations.AnswerQueuesKeepRoom := by
  unfold Obligations.AnswerQueuesKeepRoom
  intro s t sound h
  rcases step_upkeep h with rfl | ⟨cs, upkeep⟩
  · exact sound
  · exact upkeep.answers ((plain_withPending s cs).tidy.answers sound)

/-- Settles O58: an event that may bring a refill's conditions about ends with the starting of refills. -/
theorem noRefillIsLeftOwed : Obligations.NoRefillIsLeftOwed := by
  unfold Obligations.NoRefillIsLeftOwed
  intro s t started h
  rcases step_upkeep h with rfl | ⟨cs, upkeep⟩
  · exact started
  · exact upkeep.refills started

end Sys2Proof.Machine
end

section
/-! ## Proofs: what is recorded passes -/

namespace Sys2Proof.Machine

-- One elaboration thread: the check's memory limit counts the stack of each.
set_option Elab.async false

section
variable {s t : State} {i : Fin 384}

/-- What the completion of a search writes in a FREE slot passes the six tests, for the search was ready with it. -/
theorem RecordedAt.passes {x : Slot} (h : RecordedAt s i x) (sound : PassingSound s) (free : s.slots.read i = .free) :
    (∀ n, x = .owned n → evaluate s n.profile n.zone none n.frequency = none) ∧
      ∀ n, x = .spare n → evaluate s n.profile n.zone none n.frequency = none := by
  obtain ⟨job, c, f, held, ready, rfl⟩ := h
  cases job with
  | request w =>
    have passes := sound.request w c f held ready
    show (∀ n, (recordGrant w f s).slots.read i = .owned n → _) ∧ ∀ n, (recordGrant w f s).slots.read i = .spare n → _
    cases lowest : lowestFree s with
    | none =>
      have slots : (recordGrant w f s).slots = s.slots := by
        unfold recordGrant
        rw [lowest]
        simp
      rw [slots, free]
      exact ⟨nofun, nofun⟩
    | some j =>
      rw [recordGrant_eq lowest, grantSlot_eq, Table.read_write]
      split
      · exact ⟨fun n h => by cases h; exact passes, nofun⟩
      · rw [free]
        exact ⟨nofun, nofun⟩
  | move w =>
    have slots : (recordFound (.move w) f s).slots.read i = .free := by
      show ((recordMove w f s).slots).read i = .free
      unfold recordMove
      rw [answerWork_eq]
      show ((s.slots.write w.slot (openMove f s.timing.moveTime (s.slots.read w.slot))).read i) = .free
      rw [Table.read_write]
      split_ifs with same
      · rw [same, free]
        rfl
      · exact free
    rw [slots]
    exact ⟨nofun, nofun⟩
  | refill z =>
    have passes := sound.refill _ f held ready
    show (∀ n, (recordSpare z f s).slots.read i = .owned n → _) ∧ ∀ n, (recordSpare z f s).slots.read i = .spare n → _
    cases lowest : lowestFree s with
    | none =>
      have slots : (recordSpare z f s).slots = s.slots := by
        unfold recordSpare
        rw [lowest]
        simp
      rw [slots, free]
      exact ⟨nofun, nofun⟩
    | some j =>
      have slots : (recordSpare z f s).slots = s.slots.write j (.spare
          { frequency := f, profile := (s.plan.zones.read z).spareProfile, zone := z, conflict := false }) := by
        unfold recordSpare
        rw [lowest]
        rfl
      rw [slots, Table.read_write]
      split
      · exact ⟨nofun, fun n h => by cases h; exact passes⟩
      · rw [free]
        exact ⟨nofun, nofun⟩

/-- A pin that a checked PIN writes was ready. -/
theorem completePin_passes {w : PinWork} {c : SearchContext} {f : Nat} {n : Pinned} (sound : PassingSound s)
    (held : s.engine.foreground = some (.pin w c)) (stage : c.stage = .found f ∨ c.stage = .retested f) (afterRetest : Bool)
    (free : s.slots.read i = .free) (pinned : (completePin w c afterRetest s).slots.read i = .pinned n) :
    evaluate s n.profile n.zone none n.frequency = none := by
  have calm : ∀ {v : State}, Calm s v → v.slots.read i ≠ .pinned n := fun h k => by
    rw [(h.keeps.records i).free free] at k
    cases k
  unfold completePin at pinned
  split_ifs at pinned with unmoved
  · unfold recordCheckedPin at pinned
    split at pinned
    · exact absurd pinned (calm (calm_closePin _ s))
    · rename_i j _
      have slots : (closePin (.pinned j) (recordPin j w.index w.profile w.zone w.label s)).slots =
          s.slots.write j (pinnedSlot s w.index w.profile w.zone w.label) := rfl
      rw [slots, Table.read_write] at pinned
      split at pinned
      · cases pinned
        exact sound.pin w c f held (ready_of_unmoved stage unmoved)
      · cases free.symm.trans pinned
  · exact absurd pinned (calm (calm_closePin _ s))
  · exact absurd pinned (calm (calm_beginPin (.refl s) w _))
  · exact absurd pinned (calm (calm_setForeground (.refl s)
      (f := .pin w { c with e0 := s.epoch, moved := false, stage := .retestDue w.index }) fun _ => trivial))

/-- A record in an owned slot is changed by the completion of that slot's MOVE alone. -/
theorem recordFound_owned {job : Job} {f : Nat} {o : Owned} (owned : s.slots.read i = .owned o)
    (other : ∀ w, job = .move w → w.slot ≠ i) : (recordFound job f s).slots.read i = .owned o := by
  have stays : ∀ j x, lowestFree s = some j → (s.slots.write j x).read i = .owned o := fun j x lowest => by
    rw [Table.read_write, if_neg]
    · exact owned
    · rintro rfl
      cases owned.symm.trans ((lowestFree_eq_some s _).1 lowest).1
  cases job with
  | request w =>
    show (recordGrant w f s).slots.read i = .owned o
    cases lowest : lowestFree s with
    | none =>
      unfold recordGrant
      rw [lowest]
      simpa using owned
    | some j =>
      rw [recordGrant_eq lowest]
      exact stays j _ lowest
  | move w =>
    show (recordMove w f s).slots.read i = .owned o
    unfold recordMove
    rw [answerWork_eq]
    exact (Table.read_write _ _ _ _).trans ((if_neg (other w rfl)).trans owned)
  | refill z =>
    show (recordSpare z f s).slots.read i = .owned o
    cases lowest : lowestFree s with
    | none =>
      unfold recordSpare
      rw [lowest]
      simpa using owned
    | some j =>
      unfold recordSpare
      rw [lowest]
      exact stays j _ lowest

/-- A pending index that the completion of a search writes passes with the slot's own carriers left out. -/
theorem completeSearch_passes {job : Job} {c : SearchContext} {f : Nat} {o n : Owned} {m : MoveWindow}
    (sound : PassingSound s) (held : holdsSearch s.engine job c) (stage : c.stage = .found f ∨ c.stage = .retested f)
    (afterRetest : Bool) (owned : s.slots.read i = .owned o)
    (written : (completeSearch job c f afterRetest s).slots.read i = .owned n) (move : n.move = some m)
    (changed : o.move ≠ n.move) : evaluate s o.profile o.zone (some i) m.pending = none := by
  have same : ∀ {v : State}, v.slots = s.slots → v.slots.read i ≠ .owned n := fun h k => by
    rw [h, owned] at k
    cases k
    exact changed rfl
  unfold completeSearch at written
  split_ifs at written with gone unmoved
  · exact absurd written (same (by simp))
  · have found : ∃ w, job = .move w ∧ w.slot = i := by
      by_contra none
      rw [recordFound_owned owned fun w hw here => none ⟨w, hw, here⟩] at written
      cases written
      exact changed rfl
    obtain ⟨w, rfl, rfl⟩ := found
    have moving : stillMoving s w = true := by simpa [moveGone] using gone
    obtain ⟨o', slot, station, channel⟩ := (stillMoving_iff s w).1 moving
    cases owned.symm.trans slot
    obtain ⟨profile, zone⟩ := sound.moving w o (.inr ⟨c, held⟩) owned station channel
    have record : (recordFound (.move w) f s).slots.read w.slot = .owned
        { o with move := some { pending := f, counter := { count := s.timing.moveTime, owed := 0 } } } := by
      show (recordMove w f s).slots.read w.slot = _
      rw [recordMove_eq owned]
      exact (Table.read_write _ _ _ _).trans (if_pos rfl)
    rw [record] at written
    cases written
    cases move
    rw [profile, zone]
    exact sound.move w c f held (ready_of_unmoved stage unmoved) moving
  · exact absurd written (same (by simp))
  · exact absurd written (same (by simp))
  · exact absurd written (same (by simp))

end

/-- Settles O60: what a completion records is what its search is ready with, and that passes. -/
theorem recordedIndexPasses : Obligations.RecordedIndexPasses := by
  unfold Obligations.RecordedIndexPasses
  intro c s t i sound h
  have slots : s.slots.read i = .free →
      (∀ n, t.slots.read i = .owned n → evaluate s n.profile n.zone none n.frequency = none) ∧
      ∀ n, t.slots.read i = .spare n → evaluate s n.profile n.zone none n.frequency = none := fun free => by
    rcases (exec_upkeep c s t h).slots i free with same | ⟨p, pinned⟩ | recorded
    · rw [same]
      exact ⟨nofun, nofun⟩
    · rw [pinned]
      exact ⟨nofun, nofun⟩
    · exact recorded.passes sound free
  refine ⟨fun n free => (slots free).1 n, fun n free => (slots free).2 n, fun n hc free pinned => ?_,
    fun o n w hc owned written move changed => ?_⟩
  · subst hc
    have h : execCheckedPinCompletion s = .next t := h
    have stays : s ≠ t := by
      rintro rfl
      cases free.symm.trans pinned
    unfold execCheckedPinCompletion at h
    split at h
    · rename_i held
      split at h
      · cases h
        exact completePin_passes sound held (.inl ‹_›) false free (by simpa using pinned)
      · cases h
        exact completePin_passes sound held (.inr ‹_›) true free (by simpa using pinned)
      · exact absurd (Host.Outcome.next.inj h) stays
      · exact absurd (Host.Outcome.next.inj h) stays
    · exact absurd (Host.Outcome.next.inj h) stays
  · subst hc
    have h : execSearchCompletion s = .next t := h
    have stays : s ≠ t := by
      rintro rfl
      cases owned.symm.trans written
      exact changed rfl
    unfold execSearchCompletion at h
    split at h
    · rename_i active
      have held := activeSearch_held active
      split at h
      · cases h
        exact completeSearch_passes sound held (.inl ‹_›) false owned (by simpa using written) move changed
      · cases h
        exact completeSearch_passes sound held (.inr ‹_›) true owned (by simpa using written) move changed
      · exact absurd (Host.Outcome.next.inj h) stays
      · exact absurd (Host.Outcome.next.inj h) stays
    · exact absurd (Host.Outcome.next.inj h) stays

end Sys2Proof.Machine
end

section
/-! ## Proofs: the timing writes, the request queue and the events of the engine -/

namespace Sys2Proof.Machine

-- One elaboration thread: the check's memory limit counts the stack of each.
set_option Elab.async false

/-! ### The timing writes (R68, R69, R95, R97) -/

/-- The code that names a period of the time base (R188). -/
theorem periodOfCode_eq (code : Byte) :
    periodOfCode code.toNat =
      if code = 0 then some .ms250 else if code = 1 then some .ms500 else if code = 2 then some .s1
      else if code = 3 then some .s2 else none := by
  split_ifs with h0 h1 h2 h3
  · subst h0; rfl
  · subst h1; rfl
  · subst h2; rfl
  · subst h3; rfl
  · have other : ∀ n : Byte, code ≠ n → code.toNat ≠ n.toNat := fun n => mt BitVec.eq_of_toNat_eq
    have h0 := other 0 h0
    have h1 := other 1 h1
    have h2 := other 2 h2
    have h3 := other 3 h3
    unfold periodOfCode
    split
    · exact absurd ‹_› h0
    · exact absurd ‹_› h1
    · exact absurd ‹_› h2
    · exact absurd ‹_› h3
    · rfl

/-- A byte is above 0 unless it is 0. -/
theorem byte_pos (b : Byte) : 1 ≤ b.toNat ↔ b ≠ 0 := by
  rw [Nat.one_le_iff_ne_zero]
  exact not_congr ⟨fun h => BitVec.eq_of_toNat_eq h, fun h => by rw [h]; rfl⟩

/-- The thresholds written and DEFER compared: at the upper threshold or above it is set, at the lower or below cleared. -/
theorem writeThresholds_eq {u : Nat} (positive : 1 ≤ u) (lower : Nat) (s : State) :
    writeThresholds u lower s =
      let l := if lower < u then lower else u - 1
      let n := s.engine.queue.length
      { s with
        engine :=
          { s.engine with
            upper := u, lower := l, defer := if u ≤ n then true else if n ≤ l then false else s.engine.defer }
        console :=
          { s.console with
            flags := if s.engine.defer = false ∧ u ≤ n then s.console.flags ||| 0x80 else s.console.flags } } := by
  have clamped : min lower (u - 1) = if lower < u then lower else u - 1 := by
    split_ifs <;> omega
  unfold writeThresholds
  rw [clamped]
  dsimp only
  have below : (if lower < u then lower else u - 1) < u := by
    split_ifs <;> omega
  generalize (if lower < u then lower else u - 1) = l at below
  unfold deferSet
  dsimp only
  by_cases high : u ≤ s.engine.queue.length
  · have stays : ¬s.engine.queue.length ≤ l := by omega
    by_cases clear : s.engine.defer = false
    · simp only [high, clear, and_self, if_true]
      exact if_neg stays
    · have set : s.engine.defer = true := by simpa using clear
      simp only [high, set, if_true, Bool.true_eq_false, false_and, if_false]
      exact (if_neg stays).trans (by rw [← set])
  · simp only [high, and_false, if_false]
    unfold deferClear
    dsimp only
    split_ifs <;> rfl

/-- Settles O28: each code and range by cases, and DEFER compared with the thresholds written. -/
theorem timingWritesStoreTheirValues : Obligations.TimingWritesStoreTheirValues := by
  unfold Obligations.TimingWritesStoreTheirValues
  refine ⟨fun code s => ?_, fun period s => ?_, fun hold s => rfl, fun ticks s => ?_, fun upper lower s => ?_⟩
  · show execWriteTimeBase code s = _
    have running : ∀ p : TickPeriod, (if inRun s = true then deny .mode s
        else accept [] { s with timing := { s.timing with period := p } }) =
        .next (if s.console.mode = .run then respond .mode [] s
          else respond .ok [] { s with timing := { s.timing with period := p } }) := fun p => by
      rw [apply_ite Host.Outcome.next]
      exact if_congr (by simp [inRun]) rfl rfl
    unfold execWriteTimeBase
    rw [periodOfCode_eq]
    by_cases h0 : code = 0
    · rw [if_pos h0, if_pos h0]
      exact running .ms250
    rw [if_neg h0, if_neg h0]
    by_cases h1 : code = 1
    · rw [if_pos h1, if_pos h1]
      exact running .ms500
    rw [if_neg h1, if_neg h1]
    by_cases h2 : code = 2
    · rw [if_pos h2, if_pos h2]
      exact running .s1
    rw [if_neg h2, if_neg h2]
    by_cases h3 : code = 3
    · rw [if_pos h3, if_pos h3]
      exact running .s2
    rw [if_neg h3, if_neg h3]
    rfl
  · show execWriteLease period s = _
    unfold execWriteLease
    rw [apply_ite Host.Outcome.next, ← ite_not]
    exact if_congr (by rw [byte_pos, not_not]) rfl rfl
  · show execWriteMoveTime ticks s = _
    unfold execWriteMoveTime
    rw [apply_ite Host.Outcome.next, ← ite_not]
    exact if_congr (by rw [byte_pos, not_not]) rfl rfl
  · show execWriteDefer upper lower s = _
    unfold execWriteDefer
    by_cases range : 1 ≤ upper.toNat ∧ upper.toNat ≤ 24
    · rw [if_pos range, writeThresholds_eq range.1]
      exact if_pos range
    · rw [if_neg range]
      exact if_neg range

/-! ### The console's work joins the queue (R65 to R68, R72) -/

section
variable {s : State} {index : Word} {profile zone : Byte} {label : List Byte}

/-- The console's work is the first class (R65). -/
theorem rank_le_zero (w : Work) : w.rank ≤ 0 ↔ w.hostKind?.isSome = true := by
  cases w <;> simp [Work.rank, Work.hostKind?]

theorem rank_of_host {w : Work} (host : w.hostKind?.isSome = true) : w.rank = 0 := Nat.le_zero.1 ((rank_le_zero w).2 host)

/-- The console's work joins behind its own class. -/
theorem enqueue_of_host {w : Work} (host : w.hostKind?.isSome = true) (q : List Work) :
    enqueue w q = q.takeWhile (fun x => x.hostKind?.isSome) ++ w :: q.dropWhile (fun x => x.hostKind?.isSome) := by
  have same : (fun x : Work => decide (x.rank ≤ w.rank)) = fun x => x.hostKind?.isSome := funext fun x => by
    rw [Bool.eq_iff_iff, decide_eq_true_iff, rank_of_host host, rank_le_zero]
  rw [← same]
  rfl

/-- The console's request waits for its one open request and for room in the queue (R72). -/
theorem queueHostWork_eq {w : Work} (host : w.hostKind?.isSome = true) (s : State) :
    queueHostWork w s = .next
      (if s.console.openRequest = true ∨ 24 ≤ s.engine.queue.length then respond .busy [] s
      else
        respond .ok []
          { s with
            engine :=
              { s.engine with
                queue :=
                  s.engine.queue.takeWhile (fun x => x.hostKind?.isSome) ++
                    w :: s.engine.queue.dropWhile (fun x => x.hostKind?.isSome)
                defer := s.engine.defer || decide (s.engine.upper ≤ s.engine.queue.length + 1) }
            console :=
              { s.console with
                openRequest := true
                flags :=
                  if s.engine.defer = false ∧ s.engine.upper ≤ s.engine.queue.length + 1 then s.console.flags ||| 0x80
                  else s.console.flags } }) := by
  have joined : ∀ v : State, accept [] (joinQueue w v) = .next (respond .ok [] (joinQueue w v)) := fun _ => rfl
  have busy : (s.console.openRequest || !queueHasRoom s) = true ↔
      s.console.openRequest = true ∨ 24 ≤ s.engine.queue.length := by
    unfold queueHasRoom
    simp only [Bool.or_eq_true, Bool.not_eq_true', decide_eq_false_iff_not, Nat.not_lt]
    rfl
  unfold queueHostWork openHostWork
  rw [joined, joinQueue_eq, ← enqueue_of_host host, apply_ite Host.Outcome.next]
  exact if_congr busy rfl rfl

/-- A CHECK's parameters (R72). -/
theorem execCheck_eq :
    execCheck index profile zone s =
      if h : index.toNat < 9120 ∧ profile.toNat < 16 ∧ zone.toNat < 16 then
        if (s.plan.profiles.read ⟨profile.toNat, h.2.1⟩).defined = true then
          queueHostWork (.check { index := index.toNat, profile := ⟨profile.toNat, h.2.1⟩, zone := ⟨zone.toNat, h.2.2⟩ }) s
        else deny .range s
      else deny .range s := by
  unfold execCheck
  by_cases named : profile.toNat < 16 ∧ zone.toNat < 16
  · obtain ⟨hp, hz⟩ := named
    rw [pinParameters_eq hp hz]
    by_cases hi : index.toNat < 9120
    · rw [dif_pos ⟨hi, hp, hz⟩]
      simp only [hi, true_and]
      split_ifs <;> rfl
    · rw [dif_neg fun h => hi h.1]
      simp only [hi, false_and, if_false]
  · rw [pinParameters_unnamed named, dif_neg fun h => named h.2]

/-- A checked PIN's parameters (R72). -/
theorem queueCheckedPin_eq :
    queueCheckedPin index profile zone label s =
      if h : index.toNat < 9120 ∧ profile.toNat < 16 ∧ zone.toNat < 16 ∧ label.length ≤ 12 ∧
          ∀ c ∈ label, 32 ≤ c.toNat ∧ c.toNat ≤ 126 then
        if (s.plan.profiles.read ⟨profile.toNat, h.2.1⟩).defined = true then
          queueHostWork
            (.pin
              { index := index.toNat, profile := ⟨profile.toNat, h.2.1⟩, zone := ⟨zone.toNat, h.2.2.1⟩, label := label }) s
        else deny .range s
      else deny .range s := by
  unfold queueCheckedPin
  by_cases named : profile.toNat < 16 ∧ zone.toNat < 16
  · obtain ⟨hp, hz⟩ := named
    rw [pinParameters_eq hp hz]
    by_cases rest : index.toNat < 9120 ∧ labelValid label = true
    · obtain ⟨hi, valid⟩ := rest
      rw [dif_pos ⟨hi, hp, hz, (labelValid_iff label).1 valid⟩]
      simp only [hi, true_and]
      split_ifs
      · rfl
      · rfl
    · rw [dif_neg fun h => rest ⟨h.1, (labelValid_iff label).2 h.2.2.2⟩]
      split
      · rfl
      · rename_i found
        split_ifs at found with passes
        exact if_neg fun valid => rest ⟨passes.1, valid⟩
  · rw [pinParameters_unnamed named, dif_neg fun h => named ⟨h.2.1, h.2.2.1⟩]

end

/-- Settles O20: the parameters of each request, then the queue. -/
theorem hostWorkJoinsTheQueue : Obligations.HostWorkJoinsTheQueue := by
  unfold Obligations.HostWorkJoinsTheQueue
  refine ⟨fun index profile zone s => ?_, fun index profile zone label s => ⟨?_, rfl⟩, queueHostWork_eq rfl⟩
  · show execCheck index profile zone s = _
    rw [execCheck_eq]
    split_ifs
    · exact queueHostWork_eq rfl s
    · rfl
    · rfl
  · show queueCheckedPin index profile zone label s = _
    rw [queueCheckedPin_eq]
    split_ifs
    · exact queueHostWork_eq rfl s
    · rfl
    · rfl

/-! ### The taking of the front entry (R66, R68, R73, R88 to R90) -/

/-- The front entry is gone from the queue, which may clear DEFER (R68). -/
def takenFrom (s : State) (rest : List Work) : State :=
  { s with engine := { s.engine with queue := rest, defer := s.engine.defer && decide (s.engine.lower < rest.length) } }

/-- Settles O22: the taking by what is at the front of the queue. -/
theorem engineTakesTheFrontEntry : Obligations.EngineTakesTheFrontEntry := by
  unfold Obligations.EngineTakesTheFrontEntry
  intro s
  show Host.Outcome.next (startRefill (takeWork s)) = _
  unfold takeWork engineFree
  cases held : s.engine.foreground with
  | some f =>
    dsimp only
    rw [if_neg (by simp), startRefill_of_foreground (by simp [held])]
  | none =>
    rw [Option.isNone_none, if_pos (Eq.refl true)]
    cases front : s.engine.queue with
    | nil => rfl
    | cons w rest =>
      refine congrArg (fun t => Host.Outcome.next (startRefill t)) ?_
      have left : dequeue rest s = takenFrom s rest := dequeue_eq rest s
      show beginWork w (dequeue rest s) = _
      rw [left]
      cases w with
      | request r => rfl
      | move m => rfl
      | check k => rfl
      | pin k =>
        show beginPin k 0 (takenFrom s rest) = _
        dsimp only
        unfold beginPin
        rw [show evaluatePin k (takenFrom s rest) = evaluate s k.profile k.zone none k.index from rfl]
        cases evaluate s k.profile k.zone none k.index with
        | none => rfl
        | some f =>
          unfold closePin leaveForeground
          rw [← held]
          rfl
      | audit => rfl

/-! ### The re-test (R76, R77, R89) -/

/-- Settles O25: the re-test by whose candidate it is, and by what it finds. -/
theorem reTestEvaluatesTheCandidateAgain : Obligations.ReTestEvaluatesTheCandidateAgain := by
  unfold Obligations.ReTestEvaluatesTheCandidateAgain
  refine ⟨fun s job c f active stage => ?_, fun s w c f held stage => ?_, fun s search pin => ?_⟩
  · show execReTest s = _
    unfold execReTest
    split
    · rename_i held
      simp [activeSearch, held] at active
    · rw [active]
      dsimp only
      rw [stage]
      refine congrArg (fun t => Host.Outcome.next (startRefill t)) ?_
      unfold retestSearch fullResearch
      exact if_congr Option.isNone_iff_eq_none rfl rfl
  · show execReTest s = _
    unfold execReTest
    rw [held]
    dsimp only
    rw [stage]
    dsimp only
    unfold retestPin
    rw [show evaluatePin w s = evaluate s w.profile w.zone none w.index from rfl]
    cases evaluate s w.profile w.zone none w.index with
    | none =>
      dsimp only
      rw [startRefill_of_foreground rfl]
    | some x => rfl
  · show execReTest s = _
    unfold execReTest
    split
    · rename_i w c held
      split
      · exact absurd ‹_› (pin w c _ held)
      · rfl
    · split
      · rename_i job c active
        split
        · exact absurd ‹_› (search job c _ active)
        · rfl
      · rfl

end Sys2Proof.Machine
end

section
/-! ## Proofs: the REQUEST frame's checks -/

namespace Sys2Proof.Machine

-- One elaboration thread: the check's memory limit counts the stack of each.
set_option Elab.async false

section
variable {s : State} {r : Fin 48} {st : Station} {c : Fin 64}

/-! ### The slot of a channel (R31) -/

/-- The lowest number with a property, as a search of the numbers. -/
theorem lowestWith_eq_find {α : Type} {n : Nat} (t : Table α n) (p : α → Bool) :
    t.lowestWith p = (List.finRange n).find? fun i => p (t.read i) := by
  unfold Table.lowestWith
  rw [Table.entries_eq, List.find?_map, Option.map_map]
  exact congrFun Option.map_id _

/-- A search for the first result is the result at the first place with one. -/
theorem findSome_eq_bind_find {α β : Type} {F : α → Option β} {p : α → Bool} (h : ∀ a, (F a).isSome = p a)
    (l : List α) : l.findSome? F = (l.find? p).bind F := by
  induction l with
  | nil => rfl
  | cons a l ih =>
    rw [List.findSome?_cons, List.find?_cons, ← h a, ih]
    cases here : F a with
    | none => rfl
    | some b => exact here.symm

/-- The record of a slot that the station and channel own. -/
def ownedRecord (r : Fin 48) (c : Fin 64) (x : Slot) : Option Owned :=
  match x with
  | .owned o => if o.station = r ∧ o.channel = c then some o else none
  | .free => none
  | .pinned _ => none
  | .spare _ => none

theorem ownedRecord_isSome (x : Slot) : (ownedRecord r c x).isSome = x.ownedBy r c := by
  cases x with
  | owned o => by_cases h : o.station = r ∧ o.channel = c <;> simp [ownedRecord, Slot.ownedBy, h, ← not_and]
  | free | pinned | spare => rfl

/-- The record of the first slot that the station and channel own is that of their slot. -/
theorem findSome_ownedRecord (s : State) (r : Fin 48) (c : Fin 64) :
    ((List.finRange 384).findSome? fun i => ownedRecord r c (s.slots.read i)) = (ownedSlot r c s).map Prod.snd := by
  rw [findSome_eq_bind_find (p := fun i => (s.slots.read i).ownedBy r c) fun i => ownedRecord_isSome _]
  unfold ownedSlot
  rw [lowestWith_eq_find]
  cases found : (List.finRange 384).find? fun i => (s.slots.read i).ownedBy r c with
  | none => rfl
  | some i =>
    have mine : (s.slots.read i).ownedBy r c = true :=
      List.find?_some (p := fun i => (s.slots.read i).ownedBy r c) found
    dsimp only [Option.bind_some]
    cases slot : s.slots.read i with
    | owned o =>
      rw [slot] at mine
      have here : o.station = r ∧ o.channel = c := by simpa [Slot.ownedBy] using mine
      exact if_pos here
    | free | pinned | spare =>
      rw [slot] at mine
      cases mine

/-! ### The frame's parts (R188, R190) -/

/-- The code that names a phase (R188). -/
theorem phaseOfCode_eq (code : Byte) :
    phaseOfCode code.toNat =
      if code = 1 then some .live else if code = 2 then some .next else if code = 3 then some .ending else none := by
  split_ifs with h1 h2 h3
  · subst h1; rfl
  · subst h2; rfl
  · subst h3; rfl
  · have other : ∀ n : Byte, code ≠ n → code.toNat ≠ n.toNat := fun n => mt BitVec.eq_of_toNat_eq
    have h1 := other 1 h1
    have h2 := other 2 h2
    have h3 := other 3 h3
    unfold phaseOfCode
    split
    · exact absurd ‹_› h1
    · exact absurd ‹_› h2
    · exact absurd ‹_› h3
    · rfl

/-- A station's request joins behind every other entry (R66). -/
theorem enqueue_request (w : RequestWork) (q : List Work) : enqueue (.request w) q = q ++ [.request w] := by
  have last : ∀ x ∈ q, decide (x.rank ≤ (Work.request w).rank) = true := fun x _ => by
    cases x <;> simp [Work.rank]
  unfold enqueue
  rw [List.takeWhile_eq_self_iff.2 last, List.dropWhile_eq_nil_iff.2 last]

/-! ### What a station is told -/

/-- A station's record with one answer more. -/
def answered (r : Fin 48) (st : Station) (s : State) (a : Answer) : State :=
  { s with stations := s.stations.write r (some { st with answers := st.answers ++ [a] }) }

theorem giveAnswer_present (present : s.stations.read r = some st) (a : Answer) :
    giveAnswer r a s = answered r st s a := by
  unfold giveAnswer changeStation Table.change
  rw [present]
  rfl

theorem refuse_present (present : s.stations.read r = some st) {ch : Byte} (hc : ch.toNat < 64) (why : RefuseReason) :
    refuse r ⟨ch.toNat, hc⟩ why s = answered r st s (.refused ch why) := by
  unfold refuse
  rw [giveAnswer_present present, show BitVec.ofNat 8 ch.toNat = ch from (BitVec.ofNat_toNat _ _).trans (BitVec.setWidth_eq ch)]

/-- The request's work opened at the end of the queue (R67, R68, R71). -/
theorem openStationWork_request (present : s.stations.read r = some st) (w : RequestWork) :
    openStationWork r (.request w) s =
      { s with
        engine :=
          { s.engine with
            queue := s.engine.queue ++ [.request w]
            defer := s.engine.defer || decide (s.engine.upper ≤ s.engine.queue.length + 1) }
        console :=
          { s.console with
            flags :=
              if s.engine.defer = false ∧ s.engine.upper ≤ s.engine.queue.length + 1 then s.console.flags ||| 0x80
              else s.console.flags }
        stations := s.stations.write r (some { st with openRequest := true }) } := by
  unfold openStationWork
  rw [joinQueue_eq, enqueue_request]
  unfold changeStation Table.change
  rw [present]
  rfl

/-! ### Checks 5 to 9 (R71) -/

/-- No slot is FREE. -/
theorem lowestFree_isNone (s : State) : (lowestFree s).isNone = true ↔ s.slots.toList.all (fun x => !x.isFree) = true := by
  rw [Option.isNone_iff_eq_none, lowestFree_eq_none, Table.toList_eq, List.all_map, List.all_eq_true]
  simp only [List.mem_finRange, true_implies, Function.comp_apply, Bool.not_eq_true', ← Bool.not_eq_true, isFree_iff]

/-- The window of a profile and zone is empty when a walk of them would hold no candidate (R45, R71). -/
theorem windowEmpty_iff (s : State) (p z : Fin 16) : windowEmpty s p z = true ↔ (formWalk s p z none).count = 0 :=
  beq_iff_eq

theorem intakeQueue_of_phase {ch : Byte} (present : s.stations.read r = some st) (hc : ch.toNat < 64) (p : Fin 16) {ph : Phase}
    (phase : ph ≠ .ending) (hint : Option Nat) (label : List Byte) :
    intakeQueue r st ⟨ch.toNat, hc⟩ p (some ph) hint label s =
      if st.ceiling ≤ st.held then answered r st s (.refused ch .ceiling)
      else if (formWalk s p st.zone none).count = 0 then answered r st s (.refused ch .window)
      else if s.slots.toList.all (fun x => !x.isFree) = true then answered r st s (.refused ch .full)
      else if 24 ≤ s.engine.queue.length then answered r st s (.refused ch .busy)
      else
        openStationWork r
          (.request { station := r, channel := ⟨ch.toNat, hc⟩, profile := p, phase := ph, hint := hint, label := label })
          s := by
  have full : (!queueHasRoom s) = true ↔ 24 ≤ s.engine.queue.length := by
    unfold queueHasRoom
    simp only [Bool.not_eq_true', decide_eq_false_iff_not, Nat.not_lt]
    rfl
  unfold intakeQueue
  dsimp only
  rw [if_neg phase]
  simp only [refuse_present present hc]
  exact if_congr Iff.rfl rfl (if_congr (windowEmpty_iff s p st.zone) rfl (if_congr (lowestFree_isNone s) rfl
    (if_congr full rfl rfl)))

end

/-- Settles O41: the checks in their order, the channel's slot, and the queue. -/
theorem requestFramesAreCheckedInOrder : Obligations.RequestFramesAreCheckedInOrder := by
  unfold Obligations.RequestFramesAreCheckedInOrder
  intro r st ch profile phase hint label s present told
  have told_eq : ∀ a, answered r st s a = told a := fun _ => rfl
  show withChannel r ch (handleRequest r profile phase hint label) s = _
  unfold withChannel
  by_cases hc : ch.toNat < 64
  · rw [numberBelow_of_lt hc, dif_pos hc]
    dsimp only
    unfold handleRequest
    rw [present]
    dsimp only
    by_cases hp : profile.toNat < 16
    · rw [numberBelow_of_lt hp, dif_pos hp]
      dsimp only
      simp only [refuse_present present hc, told_eq]
      refine if_congr Iff.rfl rfl (if_congr Iff.rfl rfl ?_)
      generalize owns : List.findSome? _ _ = x
      have owns : (ownedSlot r ⟨ch.toNat, hc⟩ s).map Prod.snd = x := (findSome_ownedRecord s r _).symm.trans owns
      subst owns
      cases ownedSlot r ⟨ch.toNat, hc⟩ s with
      | some e =>
        obtain ⟨i, o⟩ := e
        have code : phaseOfCode phase.toNat = some o.phase ↔
            phase = (match o.phase with | .live => (1 : Byte) | .next => 2 | .ending => 3) := by
          rw [phaseOfCode_eq]
          cases o.phase <;> split_ifs <;> simp_all
        exact if_congr code ((giveAnswer_present present _).trans (told_eq _)) rfl
      | none =>
        dsimp only [Option.map_none]
        by_cases live : phase = 1
        · subst live
          rw [if_neg fun h => h.1 rfl]
          refine (intakeQueue_of_phase present hc _ (ph := .live) nofun hint label).trans ?_
          rw [openStationWork_request present]
          rfl
        by_cases next : phase = 2
        · subst next
          rw [if_neg fun h => h.2 rfl]
          refine (intakeQueue_of_phase present hc _ (ph := .next) nofun hint label).trans ?_
          rw [openStationWork_request present]
          rfl
        rw [if_pos ⟨live, next⟩, phaseOfCode_eq, if_neg live, if_neg next]
        unfold intakeQueue
        split_ifs <;> exact refuse_present present hc _
    · rw [numberBelow_of_not_lt hp, dif_neg hp]
      exact refuse_present present hc _
  · rw [numberBelow_of_not_lt hc, dif_neg hc]
    exact giveAnswer_present present _

end Sys2Proof.Machine
end

section
/-! ## Proofs: a reply judged character by character -/

namespace Sys2Proof.Machine

-- One elaboration thread: the check's memory limit counts the stack of each.
set_option Elab.async false

/-! ### The parts of a character and of a reply (R152, R187, R189, R190) -/

/-- The data bits of a character are the low eight of its bits (R152). -/
theorem rxChar_data (c : RxChar) : c.data = BitVec.ofNat 8 (c.bits.toNat % 256) := by
  refine BitVec.eq_of_toNat_eq ?_
  simp [RxChar.data]

/-- The sum of bytes, added from the left or from the right. -/
theorem sumBytes_eq (l : List Byte) : sumBytes l = l.sum := by
  rw [List.sum_eq_foldl]
  rfl

/-- A known type with a length that its layout allows (R189). -/
def KnownType (type length : Nat) : Prop :=
  (type = 65 ∧ length = 0) ∨ (type = 66 ∧ 5 ≤ length ∧ length ≤ 17) ∨ (67 ≤ type ∧ type ≤ 71 ∧ length = 1)

theorem typeKnown_iff (type length : Nat) : typeKnown type length = true ↔ KnownType type length := by
  unfold typeKnown KnownType
  split
  case h_8 h65 h66 h67 h68 h69 h70 h71 =>
    refine iff_of_false nofun ?_
    rintro (⟨rfl, -⟩ | ⟨rfl, -⟩ | ⟨low, high, -⟩)
    · exact h65 rfl
    · exact h66 rfl
    · have types : type = 67 ∨ type = 68 ∨ type = 69 ∨ type = 70 ∨ type = 71 := by omega
      rcases types with type | type | type | type | type
      exacts [h67 type, h68 type, h69 type, h70 type, h71 type]
  all_goals simp

theorem KnownType.length_le {type length : Nat} (h : KnownType type length) : length ≤ 17 := by
  unfold KnownType at h
  omega

/-- The hint's two bytes (R190). -/
theorem hintOf_joinWord (h1 h0 : Byte) :
    hintOf (joinWord h1 h0) = if h1 = 255 ∧ h0 = 255 then none else some (256 * h1.toNat + h0.toNat) := by
  have joined : (joinWord h1 h0).toNat = 256 * h1.toNat + h0.toNat := by
    unfold joinWord
    rw [BitVec.toNat_append, ← Nat.shiftLeft_add_eq_or_of_lt h0.isLt, Nat.shiftLeft_eq]
    omega
  have absent : (joinWord h1 h0).toNat = Config.absentWord ↔ h1 = 255 ∧ h0 = 255 := by
    rw [joined, ← BitVec.toNat_inj, ← BitVec.toNat_inj]
    have := h1.isLt
    have := h0.isLt
    show _ = 65535 ↔ h1.toNat = 255 ∧ h0.toNat = 255
    omega
  unfold hintOf
  rw [joined] at absent ⊢
  exact if_congr absent rfl rfl

/-- The frame that a body of a type reads as (R190). -/
def FrameReads (type : Nat) (body : List Byte) (f : Frame) : Prop :=
  match type, body with
  | 65, [] => f = .idle
  | 66, ch :: profile :: phase :: h1 :: h0 :: label =>
    f = .request ch profile phase (if h1 = 255 ∧ h0 = 255 then none else some (256 * h1.toNat + h0.toNat)) label
  | 67, [ch] => f = .release ch
  | 68, [ch] => f = .move ch
  | 69, [ch] => f = .confirm ch
  | 70, [ch] => f = .query ch
  | 71, [force] => f = .changeover (decide (force ≠ 0))
  | _, _ => False

theorem frameReads_iff (type : Nat) (body : List Byte) (f : Frame) : FrameReads type body f ↔ frameOf type body = some f := by
  unfold FrameReads
  split
  case h_8 h65 h66 h67 h68 h69 h70 h71 =>
    refine iff_of_false id fun reads => ?_
    unfold frameOf at reads
    split at reads
    · exact h65 rfl rfl
    · exact h66 _ _ _ _ _ _ rfl rfl
    · exact h67 _ rfl rfl
    · exact h68 _ rfl rfl
    · exact h69 _ rfl rfl
    · exact h70 _ rfl rfl
    · exact h71 _ rfl rfl
    · cases reads
  case h_2 =>
    rw [← hintOf_joinWord]
    exact eq_comm.trans Option.some_inj.symm
  all_goals exact eq_comm.trans Option.some_inj.symm

/-- A body of a known type and length reads as a frame. -/
theorem frameOf_of_known {type : Nat} {body : List Byte} (known : KnownType type body.length) :
    ∃ f, frameOf type body = some f := by
  have one : body.length = 1 → ∃ ch, body = [ch] := List.length_eq_one_iff.1
  rcases known with ⟨rfl, none⟩ | ⟨rfl, least, -⟩ | ⟨low, high, single⟩
  · rw [List.length_eq_zero_iff.1 none]
    exact ⟨_, rfl⟩
  · match body, least with
    | ch :: profile :: phase :: h1 :: h0 :: label, _ => exact ⟨_, rfl⟩
  · obtain ⟨ch, rfl⟩ := one single
    have types : type = 67 ∨ type = 68 ∨ type = 69 ∨ type = 70 ∨ type = 71 := by omega
    rcases types with rfl | rfl | rfl | rfl | rfl <;> exact ⟨_, rfl⟩

/-! ### The judging of a reply's data (R161) -/

/-- The data so far show an unknown type or length, or a whole reply whose sum is wrong. -/
def WrongData (bytes : List Byte) : Prop :=
  ∃ head length type body, bytes = head :: length :: type :: body ∧
    (¬KnownType type.toNat length.toNat ∨ (body.length = length.toNat + 1 ∧ bytes.sum ≠ 0))

/-- The data are a whole reply with its frame. -/
def WholeReply (bytes : List Byte) (f : Frame) : Prop :=
  ∃ head length type body check, bytes = head :: length :: type :: (body ++ [check]) ∧
    body.length = length.toNat ∧ FrameReads type.toNat body f

/-- No data beyond the check byte. -/
def NoLonger (bytes : List Byte) : Prop :=
  ∀ head length type body, bytes = head :: length :: type :: body → KnownType type.toNat length.toNat →
    body.length ≤ length.toNat + 1

section
variable {head length type : Byte} {rest bytes : List Byte} {f : Frame}

theorem wrongData_cons : WrongData (head :: length :: type :: rest) ↔
    ¬KnownType type.toNat length.toNat ∨
      (rest.length = length.toNat + 1 ∧ (head :: length :: type :: rest).sum ≠ 0) := by
  constructor
  · rintro ⟨_, _, _, _, same, wrong⟩
    cases same
    exact wrong
  · exact fun wrong => ⟨_, _, _, _, rfl, wrong⟩

/-- A reply is whole when its body and check byte have come (R161). -/
theorem wholeReply_cons : WholeReply (head :: length :: type :: rest) f ↔
    rest.length = length.toNat + 1 ∧ frameOf type.toNat (rest.take length.toNat) = some f := by
  constructor
  · rintro ⟨_, _, _, body, check, same, here, reads⟩
    cases same
    refine ⟨by simp [here], ?_⟩
    rw [List.take_left' here]
    exact (frameReads_iff _ _ _).1 reads
  · rintro ⟨whole, reads⟩
    have last : rest ≠ [] := by
      rintro rfl
      cases whole
    have cut : rest.take length.toNat = rest.dropLast := by
      rw [List.dropLast_eq_take, whole, Nat.add_sub_cancel]
    refine ⟨head, length, type, rest.dropLast, rest.getLast last, by rw [List.dropLast_append_getLast], ?_,
      (frameReads_iff _ _ _).2 (cut ▸ reads)⟩
    rw [List.length_dropLast, whole, Nat.add_sub_cancel]

/-- Data of a known type: the reply goes on up to its check byte, where the sum decides. -/
theorem judgeData_cons (known : KnownType type.toNat length.toNat) :
    judgeData (head :: length :: type :: rest) =
      if rest.length ≤ length.toNat then .goesOn
      else if (head :: length :: type :: rest).sum ≠ 0 then .fails
      else
        match frameOf type.toNat (rest.take length.toNat) with
        | some f => .complete f
        | none => .fails := by
  have short : ¬Config.maxBody < length.toNat := by
    have := known.length_le
    show ¬40 < length.toNat
    omega
  show (if Config.maxBody < length.toNat || !typeKnown type.toNat length.toNat then _ else _) = _
  rw [(typeKnown_iff _ _).2 known, ← sumBytes_eq]
  simp only [short, decide_false, Bool.not_true, Bool.or_self, Bool.false_eq_true, if_false] <;> rfl

theorem judgeData_unknown (unknown : ¬KnownType type.toNat length.toNat) :
    judgeData (head :: length :: type :: rest) = .fails := by
  refine if_pos ?_
  rw [Bool.eq_false_iff.2 (mt (typeKnown_iff _ _).1 unknown), Bool.not_false, Bool.or_true]

/-- The judging of the data: wrong, whole, or going on. -/
theorem judgeData_eq (noLonger : NoLonger bytes) :
    (WrongData bytes → judgeData bytes = .fails) ∧
      (¬WrongData bytes → (∀ f, ¬WholeReply bytes f) → judgeData bytes = .goesOn) ∧
      (¬WrongData bytes → ∀ f, WholeReply bytes f → judgeData bytes = .complete f) := by
  match bytes with
  | [] | [_] | [_, _] =>
    exact ⟨fun ⟨_, _, _, _, same, _⟩ => (nomatch same), fun _ _ => rfl, fun _ f ⟨_, _, _, _, _, same, _⟩ => (nomatch same)⟩
  | head :: length :: type :: rest =>
    rw [wrongData_cons]
    simp only [wholeReply_cons]
    by_cases known : KnownType type.toNat length.toNat
    · have longest : rest.length ≤ length.toNat + 1 := noLonger _ _ _ _ rfl known
      rw [judgeData_cons known]
      by_cases more : rest.length ≤ length.toNat
      · have unfinished : rest.length ≠ length.toNat + 1 := by omega
        rw [if_pos more]
        exact ⟨fun wrong => absurd (wrong.resolve_left (not_not.2 known)).1 unfinished, fun _ _ => rfl,
          fun _ f whole => absurd whole.1 unfinished⟩
      · have finished : rest.length = length.toNat + 1 := by omega
        rw [if_neg more]
        by_cases sum : (head :: length :: type :: rest).sum = 0
        · rw [if_neg (not_not.2 sum)]
          have body : (rest.take length.toNat).length = length.toNat := by
            rw [List.length_take]
            omega
          obtain ⟨g, reads⟩ := frameOf_of_known (type := type.toNat) (body := rest.take length.toNat) (by rwa [body])
          rw [reads]
          exact ⟨fun wrong => absurd sum (wrong.resolve_left (not_not.2 known)).2,
            fun _ none => absurd ⟨finished, rfl⟩ (none g), fun _ f whole => by rw [Option.some.inj whole.2]⟩
        · rw [if_pos sum]
          exact ⟨fun _ => rfl, fun right => absurd (.inr ⟨finished, sum⟩) right,
            fun right => absurd (.inr ⟨finished, sum⟩) right⟩
    · exact ⟨fun _ => judgeData_unknown known, fun right => absurd (.inl known) right, fun right => absurd (.inl known) right⟩

end

/-! ### The judging of a character (R161) -/

/-- A character that fails its reply: garbled, not the address at the head, marked elsewhere, or ending wrong data. -/
def BadChar (p : Poll) (rx : List Byte) (c : RxChar) : Prop :=
  c.bits.getLsbD 9 = false ∨ (rx = [] ∧ ¬(c.bits.getLsbD 8 = true ∧ c.data.toNat = p.address + 128)) ∨
    (rx ≠ [] ∧ c.bits.getLsbD 8 = true) ∨ WrongData (rx ++ [c.data])

/-- The judging of a character: it fails the reply, completes it, or lets it go on. -/
theorem judge_eq (p : Poll) (rx : List Byte) (c : RxChar) (noLonger : NoLonger (rx ++ [c.data])) :
    (BadChar p rx c → judge p rx c = .fails) ∧
      (¬BadChar p rx c → (∀ f, ¬WholeReply (rx ++ [c.data]) f) → judge p rx c = .goesOn) ∧
      (¬BadChar p rx c → ∀ f, WholeReply (rx ++ [c.data]) f → judge p rx c = .complete f) := by
  unfold judge RxChar.garbled RxChar.mark
  cases stop : c.bits.getLsbD 9 with
  | false =>
    exact ⟨fun _ => rfl, fun good => absurd (.inl stop) good, fun good => absurd (.inl stop) good⟩
  | true =>
    cases rx with
    | nil =>
      have short : ¬WrongData ([] ++ [c.data]) := fun ⟨_, _, _, _, same, _⟩ => nomatch same
      have unfinished : ∀ f, ¬WholeReply ([] ++ [c.data]) f := fun f ⟨_, _, _, _, _, same, _⟩ => nomatch same
      have heads : (c.bits.getLsbD 8 && c.data.toNat == p.address + 128) = true ↔
          c.bits.getLsbD 8 = true ∧ c.data.toNat = p.address + 128 := by
        rw [Bool.and_eq_true, beq_iff_eq]
      have bad : BadChar p [] c ↔ ¬(c.bits.getLsbD 8 = true ∧ c.data.toNat = p.address + 128) := by
        simp only [BadChar, stop, Bool.true_eq_false, false_or, true_and, ne_eq, not_true, false_and, short, or_false]
      rw [bad, not_not]
      refine ⟨fun other => if_neg (mt heads.1 other), fun good _ => if_pos (heads.2 good), fun _ f whole =>
        absurd whole (unfinished f)⟩
    | cons head rest =>
      have bad : BadChar p (head :: rest) c ↔ c.bits.getLsbD 8 = true ∨ WrongData (head :: rest ++ [c.data]) := by
        simp only [BadChar, stop, Bool.true_eq_false, false_or, List.cons_ne_nil, false_and, ne_eq, not_false_eq_true, true_and]
      rw [bad, not_or]
      obtain ⟨fails, goesOn, complete⟩ := judgeData_eq noLonger
      simp only [Bool.not_true, Bool.false_eq_true, if_false]
      cases mark : c.bits.getLsbD 8 with
      | true => exact ⟨fun _ => rfl, fun good => absurd rfl good.1, fun good => absurd rfl good.1⟩
      | false =>
        exact ⟨fun wrong => fails (wrong.resolve_left nofun), fun good => goesOn good.2, fun good => complete good.2⟩

/-- A reply that has gone on so far has no data beyond its check byte once one more character has come. -/
theorem noLonger_append {rx : List Byte} (sofar : rx.length ≥ 3 → ∀ length ∈ rx[1]?, ∀ type ∈ rx[2]?,
    KnownType type.toNat length.toNat ∧ rx.length < length.toNat + 4) (x : Byte) : NoLonger (rx ++ [x]) := by
  intro head length type body same known
  match rx, sofar, same with
  | [], _, same => cases same
  | [_], _, same => cases same
  | [_, _], _, same =>
    cases same
    exact Nat.zero_le _
  | _ :: _ :: _ :: rest, sofar, same =>
    cases same
    have := (sofar (by simp) _ rfl _ rfl).2
    show (rest ++ [x]).length ≤ length.toNat + 1
    rw [List.length_append, List.length_singleton]
    simp only [List.length_cons] at this
    omega

/-- Settles O38: the character judged, and what a failure and a whole reply do. -/
theorem repliesAreJudgedByCharacter : Obligations.RepliesAreJudgedByCharacter := by
  unfold Obligations.RepliesAreJudgedByCharacter
  intro known data bad whole on b c s
  refine ⟨receiveChar b c s, rfl, rfl, rfl, rfl, fun other => ?_, fun p rx seen listening sofar => ?_⟩
  · unfold receiveChar
    split
    · exact absurd ‹_› (other _ _ _)
    · rfl
  have received : data c = c.data := (rxChar_data c).symm
  have bad_iff : bad p rx c ↔ BadChar p rx c := by
    show (_ ∨ (_ ∧ ¬(_ ∧ (data c).toNat = _)) ∨ _ ∨ WrongData (rx ++ [data c])) ↔ _
    rw [received]
    rfl
  have whole_iff : ∀ f, whole rx c f ↔ WholeReply (rx ++ [c.data]) f := fun f => by
    show WholeReply (rx ++ [data c]) f ↔ _
    rw [received]
  obtain ⟨fails, goesOn, complete⟩ := judge_eq p rx c (noLonger_append sofar c.data)
  rw [bad_iff, received]
  simp only [whole_iff]
  unfold receiveChar
  rw [listening]
  dsimp only
  refine ⟨fun wrong => ?_, fun good unfinished => ?_, fun good f finished => ?_⟩
  · rw [fails wrong]
    rfl
  · rw [goesOn good unfinished]
    rfl
  · rw [complete good f finished]
    rfl

end Sys2Proof.Machine
end

section
/-! ## Proofs: the tick at the leases, the holds and the move windows -/

namespace Sys2Proof.Machine

-- One elaboration thread: the check's memory limit counts the stack of each.
set_option Elab.async false

section
variable {s : State}

/-! ### The mode and a changed station record -/

/-- The generator of ticks runs in RUN. -/
theorem inRun_iff : inRun s = true ↔ s.console.mode = .run := beq_iff_eq

/-- No tick is taken in CONFIG. -/
theorem inRun_eq_false : inRun s = false ↔ s.console.mode = .config := by
  unfold inRun
  cases s.console.mode <;> decide

/-- A present station record changed is the changed record written. -/
theorem changeStation_of_present {r : Fin 48} {st : Station} (present : s.stations.read r = some st)
    (f : Station → Station) :
    changeStation r f s = { s with stations := s.stations.write r (some (f st)) } := by
  unfold changeStation Table.change
  rw [present]
  rfl

/-! ### Lease counters (R96, R99 to R102) -/

/-- The lease counters that a tick reaches (R100). -/
theorem leaseReached_iff (branches : Table Branch 4) (st : Station) :
    leaseReached branches st = true ↔
      st.leaseState = .current ∧ 0 < st.lease.count ∧ (branches.read st.branch).state ≠ .disabled := by
  simp [leaseReached, and_assoc]

/-- LAPSE is the tick taken at a lease counter of 1. -/
theorem execLapse_eq (r : Fin 48) (s : State) :
    execLapse r s = .next (if ∃ st ∈ s.stations.read r, st.lease.count = 1 then tickLease r s else s) := by
  unfold execLapse
  cases s.stations.read r with
  | none => simp
  | some st => simp only [Option.mem_some_iff, exists_eq_left', apply_ite Host.Outcome.next]

/-- A present station lapses, in one change of each part (R101). -/
theorem lapseStation_of_present {r : Fin 48} {st : Station} (present : s.stations.read r = some st) :
    lapseStation r s =
      { s with
        slots := s.slots.each (Slot.lapse r (staleHold s))
        stations := s.stations.write r (some st.lapse)
        console := { s.console with flags := s.console.flags ||| 0x40 } } :=
  congrArg (raise .stationLapsed)
    (changeStation_of_present (s := { s with slots := s.slots.each (Slot.lapse r (staleHold s)) }) present Station.lapse)

/-- The tick taken at a present station's lease counter (R100). -/
theorem tickLease_of_present {r : Fin 48} {st : Station} (present : s.stations.read r = some st) :
    tickLease r s =
      if st.lease.owed = 0 ∨ s.console.mode = .config then s
      else if st.leaseState = .current ∧ 0 < st.lease.count ∧ (s.branches.read st.branch).state ≠ .disabled then
        if st.lease.count = 1 then lapseStation r s
        else { s with stations := s.stations.write r (some { st with lease := st.lease.down }) }
      else { s with stations := s.stations.write r (some { st with lease := st.lease.settle }) } := by
  unfold tickLease
  simp only [present, inRun_eq_false, leaseReached_iff, changeStation_of_present present]

/-- A valid reply's notice loads the lease counter, and a LAPSED station's slots come back (R99, R102). -/
theorem takeReplyNotice_of_present {r : Fin 48} {st : Station} (present : s.stations.read r = some st)
    (handed : st.validReplies ≠ 0) :
    takeReplyNotice r s =
      let loaded : State :=
        { s with
          stations := s.stations.write r (some
            { st with
              validReplies := st.validReplies - 1
              leaseState := .current
              lease := { st.lease with count := s.timing.lease } }) }
      if st.leaseState = .current then loaded else { loaded with slots := s.slots.each (Slot.comeBack r) } := by
  unfold takeReplyNotice
  simp only [present, if_neg handed, changeStation_of_present present]
  cases st.leaseState <;> rfl

/-! ### Hold counters (R103, R104) -/

/-- A running hold counter is a STALE slot's (R26). -/
theorem hold?_eq_some {x : Slot} {h : TickCounter} :
    x.hold? = some h ↔ ∃ o, x = .owned o ∧ o.state = .stale (some h) := by
  cases x with
  | owned o => cases state : o.state <;> simp [Slot.hold?, state]
  | free | pinned | spare => simp [Slot.hold?]

/-- HOLD_EXPIRY is the tick taken at a hold counter of 1. -/
theorem execHoldExpiry_eq (i : Fin 384) (s : State) :
    execHoldExpiry i s = .next (if ∃ h ∈ (s.slots.read i).hold?, h.count = 1 then tickHold i s else s) := by
  unfold execHoldExpiry
  cases (s.slots.read i).hold? with
  | none => simp
  | some h => simp only [Option.mem_some_iff, exists_eq_left', apply_ite Host.Outcome.next]

/-- Without an owed tick at a running hold counter, or in CONFIG, none is taken there. -/
theorem tickHold_idle {i : Fin 384}
    (idle : ∀ h, (s.slots.read i).hold? = some h → h.owed = 0 ∨ s.console.mode = .config) : tickHold i s = s := by
  unfold tickHold
  split
  · rfl
  · rename_i h running
    exact if_pos ((idle h running).imp_right inRun_eq_false.2)

/-- The tick taken in RUN at a STALE slot's hold counter (R103, R104). -/
theorem tickHold_of_stale {i : Fin 384} {o : Owned} {h : TickCounter} (slot : s.slots.read i = .owned o)
    (stale : o.state = .stale (some h)) (owed : 0 < h.owed) (run : s.console.mode = .run) :
    tickHold i s =
      if h.count ≤ 1 then startRefill (retireSlot (some .holdExpired) i s)
      else { s with slots := s.slots.write i (.owned { o with state := .stale (some h.down) }) } := by
  have running : (s.slots.read i).hold? = some h := hold?_eq_some.2 ⟨o, slot, stale⟩
  have due : ¬(h.owed = 0 ∨ inRun s = false) := by simp [owed.ne', inRun_eq_false, run]
  have down : (s.slots.read i).holdDown = .owned { o with state := .stale (some h.down) } := by
    simp [slot, Slot.holdDown, stale]
  unfold tickHold
  simp only [running, if_neg due, down]
  rfl

/-! ### Move counters (R24, R113) -/

/-- A running move counter is an open move's (R24). -/
theorem moveCounter?_eq_some {x : Slot} {c : TickCounter} :
    x.moveCounter? = some c ↔ ∃ o w, x = .owned o ∧ o.move = some w ∧ w.counter = c := by
  cases x with
  | owned o => simp [Slot.moveCounter?]
  | free | pinned | spare => simp [Slot.moveCounter?]

/-- MOVE_LAPSE is the tick taken at a move counter of 1. -/
theorem execMoveLapse_eq (i : Fin 384) (s : State) :
    execMoveLapse i s = .next (if ∃ c ∈ (s.slots.read i).moveCounter?, c.count = 1 then tickMove i s else s) := by
  unfold execMoveLapse
  cases (s.slots.read i).moveCounter? with
  | none => simp
  | some c => simp only [Option.mem_some_iff, exists_eq_left', apply_ite Host.Outcome.next]

/-- Without an owed tick at a running move counter, or in CONFIG, none is taken there. -/
theorem tickMove_idle {i : Fin 384}
    (idle : ∀ c, (s.slots.read i).moveCounter? = some c → c.owed = 0 ∨ s.console.mode = .config) : tickMove i s = s := by
  unfold tickMove
  split
  · rfl
  · rename_i c running
    exact if_pos ((idle c running).imp_right inRun_eq_false.2)

/-- An open move lapses, in one change of each part (R113). -/
theorem lapseMove_of_owned {i : Fin 384} {o : Owned} (slot : s.slots.read i = .owned o) :
    lapseMove i s =
      { s with
        slots := s.slots.write i (.owned { o with move := none })
        engine := { s.engine with barred := Table.filled 16 false }
        stations := s.stations.change o.station (Option.map (Station.takeNotice (.moveLapsed o.channel))) } := by
  unfold lapseMove
  simp only [slot, dropPending_eq slot]
  rfl

/-- The tick taken in RUN at an open move's counter (R113). -/
theorem tickMove_of_moving {i : Fin 384} {o : Owned} {w : MoveWindow} (slot : s.slots.read i = .owned o)
    (move : o.move = some w) (owed : 0 < w.counter.owed) (run : s.console.mode = .run) :
    tickMove i s =
      if w.counter.count ≤ 1 then startRefill (lapseMove i s)
      else
        { s with slots := s.slots.write i (.owned { o with move := some { w with counter := w.counter.down } }) } := by
  have running : (s.slots.read i).moveCounter? = some w.counter := moveCounter?_eq_some.2 ⟨o, w, slot, move, rfl⟩
  have due : ¬(w.counter.owed = 0 ∨ inRun s = false) := by simp [owed.ne', inRun_eq_false, run]
  have down : (s.slots.read i).moveDown = .owned { o with move := some { w with counter := w.counter.down } } := by
    simp [slot, Slot.moveDown, move]
  unfold tickMove
  simp only [running, if_neg due, down]
  rfl

end

/-! ### The statements -/

/-- Settles O29: the tick owed at every counter it reaches, the tick taken at a lease counter, and a valid reply. -/
theorem ticksAndRepliesMoveTheLeases : Obligations.TicksAndRepliesMoveTheLeases := by
  unfold Obligations.TicksAndRepliesMoveTheLeases
  refine ⟨fun s => ?_, ?_, fun r s => ?_⟩
  · refine congrArg Host.Outcome.next (if_congr inRun_iff ?_ rfl)
    unfold issueTick
    simp only [leaseReached_iff]
    rfl
  · intro r s taken
    have tick : tickLease r s = taken := by
      cases present : s.stations.read r with
      | none => simp only [taken, tickLease, present]
      | some st =>
        rw [tickLease_of_present present, lapseStation_of_present present]
        simp only [taken, present]
        rfl
    exact ⟨congrArg Host.Outcome.next tick, (execLapse_eq r s).trans (by rw [tick])⟩
  · refine congrArg Host.Outcome.next ?_
    cases present : s.stations.read r with
    | none => simp only [takeReplyNotice, present]
    | some st =>
      by_cases handed : st.validReplies = 0
      · simp only [takeReplyNotice, present, if_pos handed]
      · rw [takeReplyNotice_of_present present handed]
        exact (if_neg handed).symm

/-- Settles O30: at a hold counter and at a move counter, the tick that is not owed and the tick that is taken. -/
theorem holdsAndMovesRunDown : Obligations.HoldsAndMovesRunDown := by
  unfold Obligations.HoldsAndMovesRunDown
  refine ⟨fun i s => ⟨fun idle => ?_, fun o h slot stale owed run => ?_⟩,
    fun i s => ⟨fun idle => ?_, fun o w slot move owed run => ?_⟩⟩
  · have tick : tickHold i s = s := tickHold_idle fun h running => by
      obtain ⟨o, slot, stale⟩ := hold?_eq_some.1 running
      exact idle o h slot stale
    exact ⟨congrArg Host.Outcome.next tick, (execHoldExpiry_eq i s).trans (by rw [tick, ite_self])⟩
  · have tick := tickHold_of_stale slot stale owed run
    have running : (s.slots.read i).hold? = some h := hold?_eq_some.2 ⟨o, slot, stale⟩
    refine ⟨congrArg Host.Outcome.next tick, (execHoldExpiry_eq i s).trans ?_⟩
    simp only [running, Option.mem_some_iff, exists_eq_left', tick]
    rfl
  · have tick : tickMove i s = s := tickMove_idle fun c running => by
      obtain ⟨o, w, slot, move, rfl⟩ := moveCounter?_eq_some.1 running
      exact idle o w slot move
    exact ⟨congrArg Host.Outcome.next tick, (execMoveLapse_eq i s).trans (by rw [tick, ite_self])⟩
  · have tick := tickMove_of_moving slot move owed run
    rw [lapseMove_of_owned slot] at tick
    have running : (s.slots.read i).moveCounter? = some w.counter := moveCounter?_eq_some.2 ⟨o, w, slot, move, rfl⟩
    refine ⟨congrArg Host.Outcome.next tick, (execMoveLapse_eq i s).trans ?_⟩
    simp only [running, Option.mem_some_iff, exists_eq_left', tick]
    rfl

end Sys2Proof.Machine
end

section
/-! ## Proofs: the spare lists at every step, and the changeovers

What every change keeps of the spare lists stands with the changes; here it is said of every step. A changeover and the clear
timer's tick are said once by the zone's state, STEADY or CLEARING. -/

namespace Sys2Proof.Machine

-- One elaboration thread: the check's memory limit counts the stack of each.
set_option Elab.async false

/-- Settles O53, by what every change keeps of the spare lists. -/
theorem spareListsHoldTheSpareSlots : Obligations.SpareListsHoldTheSpareSlots :=
  fun _ _ => step_keeps fun _ _ => Change.sparesSound

/-! ### The changeover of a zone (R118, R120, R122) -/

section
variable {s : State}

/-- The ENDING slots of a zone in ascending order, as a part of all slots. -/
theorem endingSlots_eq_filter (z : Fin 16) :
    endingSlots z s = (List.finRange 384).filter fun i => (s.slots.read i).endingIn z :=
  numbersWith_eq_filter s.slots (Slot.endingIn z)

/-- What a changeover leaves of a STEADY zone and what it counts: the clear time alone decides whether the ENDING slots, where
there are any, stay for the clear timer or are retired at once. -/
theorem changeoverSteady_eq {z : Fin 16} {time : Nat} (timer : (s.plan.zones.read z).clearTime = time) (forced : Nat) :
    changeoverSteady z forced s =
      let told := announcePhases z { s with slots := s.slots.each (Slot.turn z) }
      let outgoing := endingSlots z told
      (if outgoing = [] then told
        else if 0 < time then changeZone z (fun zs => { zs with clearing := some (loaded time) }) told
        else retireSlots (some .cleared) outgoing told,
        { forced := forced
          turnedEnding := s.slots.countWith (Slot.inPhase z .live)
          turnedLive := s.slots.countWith (Slot.inPhase z .next)
          cleared := if outgoing ≠ [] ∧ time = 0 then outgoing.length else 0 }) := by
  have plan : (announcePhases z { s with slots := s.slots.each (Slot.turn z) }).plan = s.plan := by simp
  unfold changeoverSteady
  dsimp only
  rw [plan, timer]
  generalize announcePhases z { s with slots := s.slots.each (Slot.turn z) } = told
  by_cases empty : endingSlots z told = []
  · simp [empty]
  · by_cases timed : 0 < time
    · simp [empty, timed, timed.ne']
    · simp [empty, Nat.eq_zero_of_not_pos timed]

/-- A STEADY zone's changeover is carried out whatever the force byte (R118). -/
theorem changeoverZone_of_steady {z : Fin 16} (steady : ¬(s.zones.read z).clearing.isSome = true) (force : Bool) :
    changeoverZone z force s = some (changeoverSteady z 0 s) :=
  if_neg steady

/-- A CLEARING zone's changeover is refused without force, and with force the ENDING slots are retired first (R120). -/
theorem changeoverZone_of_clearing {z : Fin 16} (clearing : (s.zones.read z).clearing.isSome = true) (force : Byte) :
    changeoverZone z (forceOfByte force) s =
      if force = 0 then none else some (changeoverSteady z (endingSlots z s).length (retireForced z s)) := by
  unfold changeoverZone forceOfByte
  rw [if_pos clearing]
  by_cases unforced : force = 0 <;> simp [unforced]

/-! ### The clear timer (R123) -/

/-- Without a clear timer there is no tick to take. -/
theorem tickClear_of_steady {z : Fin 16} (steady : (s.zones.read z).clearing = none) : tickClear z s = s := by
  unfold tickClear
  rw [steady]

/-- The tick taken at a CLEARING zone's clear timer. -/
theorem tickClear_of_clearing {z : Fin 16} {c : TickCounter} (clearing : (s.zones.read z).clearing = some c) :
    tickClear z s =
      if c.owed = 0 ∨ s.console.mode = .config then s
      else if c.count ≤ 1 then
        startRefill
          (changeZone z (fun zs => { zs with clearing := none }) (retireSlots (some .cleared) (endingSlots z s) s))
      else changeZone z (fun zs => { zs with clearing := some c.down }) s := by
  unfold tickClear
  simp only [clearing, inRun_eq_false]

/-- CLEAR_TIMER_EXPIRY is the tick taken at a clear timer of 1. -/
theorem execClearTimerExpiry_eq (z : Fin 16) (s : State) :
    execClearTimerExpiry z s =
      .next (if ∃ c ∈ (s.zones.read z).clearing, c.count = 1 then tickClear z s else s) := by
  unfold execClearTimerExpiry
  cases (s.zones.read z).clearing with
  | none => simp
  | some c => simp only [Option.mem_some_iff, exists_eq_left', apply_ite Host.Outcome.next]

end

/-! ### The statement -/

/-- Settles O31: a changeover of a STEADY zone and of a CLEARING one, and the clear timer's tick. -/
theorem changeoversTurnThePhases : Obligations.ChangeoversTurnThePhases := by
  unfold Obligations.ChangeoversTurnThePhases
  intro ending retired clearing
  have ending_eq : ∀ t z, ending t z = endingSlots z t := fun t z => (endingSlots_eq_filter z).symm
  clear_value ending
  refine ⟨fun zone force s => ?_, fun z s => ?_⟩
  · show execChangeover zone force s = _
    unfold execChangeover
    by_cases range : zone.toNat < 16
    · rw [numberBelow_of_lt range, dif_pos range]
      generalize (⟨zone.toNat, range⟩ : Fin 16) = z
      simp only [ending_eq]
      by_cases timed : (s.zones.read z).clearing.isSome = true
      · have time : ((retireForced z s).plan.zones.read z).clearTime = (s.plan.zones.read z).clearTime := by simp
        rw [changeoverZone_of_clearing timed, changeoverSteady_eq time]
        simp only [timed, true_and, if_true]
        by_cases unforced : force = 0
        · rw [if_pos unforced, if_pos unforced]
          rfl
        · rw [if_neg unforced, if_neg unforced]
          rfl
      · rw [changeoverZone_of_steady timed, changeoverSteady_eq rfl]
        simp only [timed]
        rfl
    · rw [numberBelow_of_not_lt range, dif_neg range]
      rfl
  · rw [ending_eq]
    show Host.Outcome.next (tickClear z s) = _ ∧ execClearTimerExpiry z s = _
    rw [execClearTimerExpiry_eq]
    cases timer : (s.zones.read z).clearing with
    | none =>
      rw [tickClear_of_steady timer]
      exact ⟨rfl, rfl⟩
    | some c =>
      rw [tickClear_of_clearing timer]
      exact ⟨rfl, rfl⟩

end Sys2Proof.Machine
end

section
/-! ## Proofs: the sweep's and the result's reads, and the decision of a point

A conversion's point is decided by whether a carrier explains it and by the entry at it. Each case is an equation of
`decidePoint`, and the statement is read off from them. -/

namespace Sys2Proof.Machine

-- One elaboration thread: the check's memory limit counts the stack of each.
set_option Elab.async false

/-! ### The reads (R134, R145, R180) -/

/-- Settles O9: the layouts are those of R191 and R193, the result's by the kind of its outcome. -/
theorem sweepForeignAndResultReads : Obligations.SweepForeignAndResultReads := by
  refine ⟨fun s => ?_, fun s => rfl, fun s => ?_⟩
  · show execReadSweep s = _
    unfold execReadSweep sweepConfigBytes
    simp only [List.append_assoc]
    rfl
  · show execReadResult s = _
    unfold execReadResult resultRecord
    rcases s.console.result.entry with _ | ⟨kind, outcome⟩
    · rfl
    · cases outcome with
      | fail f => cases f <;> rfl
      | pass => rfl
      | pinned slot => rfl
      | full => rfl
      | retry => rfl
      | count n => rfl
      | abandoned => rfl

/-! ### The level and the carriers near a point (R140, R194) -/

/-- The converter's level as the ends of the range give it: both, one alone, or neither (R194). -/
theorem converterLevel_eq (free : Byte) (rssi refLow refHigh : Nat) :
    converterLevel free rssi refLow refHigh =
      if rssi ≤ refLow ∧ refHigh ≤ rssi then free.toNat
      else if rssi ≤ refLow then 0
      else if refHigh ≤ rssi then 255 else 255 * (rssi - refLow) / (refHigh - refLow) := by
  unfold converterLevel
  by_cases low : rssi ≤ refLow <;> simp [low]

/-- With no slot left out every carrier counts. -/
theorem mem_carriers (s : State) (c : Carrier) : c ∈ carriers s ↔ isCarrier s none c := by
  rw [← mem_carriersBut]
  simp [carriersBut]

/-- A point is explained by a carrier at a distance of at most E (R140). -/
theorem explained_iff (s : State) (index : Nat) :
    explained s index = true ↔ ∃ c, isCarrier s none c ∧ ((index : Int) - c.index).natAbs ≤ s.sweep.config.e := by
  simp only [explained, List.any_eq_true, mem_carriers, decide_eq_true_eq]
  rfl

/-! ### A hit and a miss (R141 to R144) -/

/-- At a point that holds an entry a level is a hit from the threshold less the hysteresis on (R141). -/
theorem isHit_entry_iff (c : SweepConfig) (level : Nat) :
    isHit c level true = true ↔ c.threshold ≤ level + c.hysteresis := by
  simp only [isHit, if_true, decide_eq_true_eq]
  omega

/-- At a point without an entry a level is a hit from the threshold on (R141). -/
theorem isHit_new_iff (c : SweepConfig) (level : Nat) : isHit c level false = true ↔ c.threshold ≤ level := by
  simp [isHit]

/-- A hit confirms an entry that was not CONFIRMED and reaches K hits (R142). -/
theorem ForeignEntry.hit_confirms_iff (k level : Nat) (e : ForeignEntry) :
    ((e.hit k level).confirmed && !e.confirmed) = true ↔ e.confirmed = false ∧ min (e.hits + 1) k = k := by
  simp only [ForeignEntry.hit]
  cases e.confirmed <;> simp

section
variable {index level : Nat} {e : ForeignEntry} {s : State}

/-- A hit at a point that holds an entry (R142). -/
theorem hitEntry_eq (place : e.index = index) (level : Nat) (s : State) :
    hitEntry e level s =
      let updated := setForeign (changeEntry index (fun _ => e.hit s.sweep.config.k level) s.sweep.foreign) s
      if e.confirmed = false ∧ min (e.hits + 1) s.sweep.config.k = s.sweep.config.k then confirmForeign index updated
      else updated := by
  subst place
  unfold hitEntry
  simp only [ForeignEntry.hit_confirms_iff]

/-- A miss at a point that holds an entry (R144). -/
theorem missEntry_eq (place : e.index = index) (s : State) :
    missEntry e s =
      if s.sweep.config.m ≤ e.misses + 1 then dropEntry e s
      else setForeign (changeEntry index (fun d => { d with misses := d.misses + 1 }) s.sweep.foreign) s := by
  subst place
  rfl

/-- A hit at a point without an entry, with the list full (R143). -/
theorem hitNew_of_full (full : 32 ≤ s.sweep.foreign.length) (index level : Nat) :
    hitNew index level s = raise .foreignFull s :=
  if_pos full

/-- A hit at a point without an entry, with room in the list (R143). -/
theorem hitNew_of_room (room : s.sweep.foreign.length < 32) (index level : Nat) :
    hitNew index level s =
      let listed :=
        setForeign
          (insertEntry
            { index := index, confirmed := decide (s.sweep.config.k ≤ 1), peak := level, hits := 1, misses := 0 }
            s.sweep.foreign) s
      if s.sweep.config.k ≤ 1 then confirmForeign index listed else listed := by
  refine (if_neg (Nat.not_le.2 room)).trans ?_
  simp only [decide_eq_true_eq]

/-- An insertion adds the entry to the others. -/
theorem insertEntry_perm (e : ForeignEntry) (l : List ForeignEntry) : (insertEntry e l).Perm (e :: l) := by
  unfold insertEntry
  refine List.perm_middle.trans ?_
  rw [List.takeWhile_append_dropWhile]

/-! ### The decision of a point (R139 to R144) -/

/-- A point that a carrier explains changes nothing (R140). -/
theorem decidePoint_of_explained
    (near : ∃ c, isCarrier s none c ∧ ((index : Int) - c.index).natAbs ≤ s.sweep.config.e) :
    decidePoint index level s = s :=
  if_pos ((explained_iff s index).2 near)

/-- A point is unexplained when every carrier lies farther than E from it (R140). -/
theorem not_explained (far : ∀ c, isCarrier s none c → s.sweep.config.e < ((index : Int) - c.index).natAbs) :
    ¬explained s index = true := fun near => by
  obtain ⟨c, carrier, close⟩ := (explained_iff s index).1 near
  exact absurd close (Nat.not_le.2 (far c carrier))

/-- At an unexplained point with an entry a hit or a miss is counted at the entry (R141). -/
theorem decidePoint_of_entry
    (far : ∀ c, isCarrier s none c → s.sweep.config.e < ((index : Int) - c.index).natAbs)
    (found : entryAt index s.sweep.foreign = some e) :
    decidePoint index level s =
      if s.sweep.config.threshold ≤ level + s.sweep.config.hysteresis then hitEntry e level s else missEntry e s := by
  unfold decidePoint
  simp only [if_neg (not_explained far), found, isHit_entry_iff]

/-- At an unexplained point without an entry a hit may make one, and a miss changes nothing (R141, R143). -/
theorem decidePoint_of_new
    (far : ∀ c, isCarrier s none c → s.sweep.config.e < ((index : Int) - c.index).natAbs)
    (new : entryAt index s.sweep.foreign = none) :
    decidePoint index level s = if s.sweep.config.threshold ≤ level then hitNew index level s else s := by
  unfold decidePoint
  simp only [if_neg (not_explained far), new, isHit_new_iff]

end

/-! ### What follows a point (R137) -/

/-- The next point of the pass, or the gap, or with a gap of 0 the next pass, by the configuration and the cursor. -/
theorem nextPoint_eq {c : SweepConfig} {x : Nat} {s : State} (config : s.sweep.config = c) (cursor : s.sweep.cursor = x) :
    nextPoint s =
      { s with
        sweep :=
          { s.sweep with
            cursor := if x + c.step ≤ c.hi then x + c.step else if c.gap = 0 then c.lo else x
            activity :=
              if x + c.step ≤ c.hi then some (.tuning (tuneWord c (x + c.step)))
              else if c.gap = 0 then some (.tuning (tuneWord c c.lo))
              else some .gap } } := by
  subst config cursor
  unfold nextPoint
  dsimp only
  split_ifs <;> rfl

/-! ### The statement -/

/-- The state in which a point is decided: its level and its index are the last result (R139). -/
def measured (level : Nat) (s : State) : State :=
  { s with sweep := { s.sweep with last := some (level, s.sweep.cursor) }, freeUsed := s.freeUsed + 1 }

/-- CONVERSION_COMPLETE while CONVERTING (R139). -/
theorem exec_conversionComplete {s : State} (converting : s.sweep.activity = some .converting)
    (rssi refLow refHigh : Nat) :
    let level := converterLevel (Config.levelOutsideReferences s.freeUsed) rssi refLow refHigh
    exec (.conversionComplete rssi refLow refHigh) s =
      .next (startRefill (nextPoint (decidePoint s.sweep.cursor level (measured level s)))) := by
  show execConversionComplete rssi refLow refHigh s = _
  unfold execConversionComplete
  rw [converting]
  rfl

/-- CONVERSION_COMPLETE when it is not due (log entry 2). -/
theorem exec_conversionComplete_idle {s : State} (idle : s.sweep.activity ≠ some .converting)
    (rssi refLow refHigh : Nat) : exec (.conversionComplete rssi refLow refHigh) s = .next s := by
  show execConversionComplete rssi refLow refHigh s = _
  unfold execConversionComplete
  split
  · exact absurd ‹_› idle
  · rfl

/-- Settles O33: the point by what explains it, then by the entry at it and the level. -/
theorem conversionsDecideThePoint : Obligations.ConversionsDecideThePoint := by
  intro rssi refLow refHigh s
  by_cases converting : s.sweep.activity = some .converting
  · refine ⟨_, exec_conversionComplete converting rssi refLow refHigh, ?_⟩
    rw [if_pos converting, converterLevel_eq]
    intro c x level read next listed updated
    have decided : ∀ u, decidePoint x level read = u →
        startRefill (nextPoint (decidePoint x level read)) = startRefill (next u) := by
      rintro _ rfl
      have config : (decidePoint x level read).sweep.config = read.sweep.config := by simp
      have cursor : (decidePoint x level read).sweep.cursor = read.sweep.cursor := by simp
      exact congrArg startRefill (nextPoint_eq config cursor)
    refine ⟨fun near => decided _ (decidePoint_of_explained near), fun far => ⟨fun e found => ?_, fun new => ?_⟩⟩
    · have place : e.index = x := (entryAt_eq_some found).2
      have point := decidePoint_of_entry (level := level) (s := read) far found
      refine ⟨fun hit => ?_, fun miss => ?_⟩
      · exact decided _ ((point.trans (if_pos hit)).trans (hitEntry_eq place level read))
      · exact decided _ ((point.trans (if_neg (Nat.not_le.2 miss))).trans (missEntry_eq place read))
    · have point := decidePoint_of_new (level := level) (s := read) far new
      refine ⟨fun miss => ?_, fun hit full => ?_, fun hit room => ?_⟩
      · exact decided _ (point.trans (if_neg (Nat.not_le.2 miss)))
      · exact decided _ ((point.trans (if_pos hit)).trans (hitNew_of_full (s := read) full x level))
      · have absent : ∀ d ∈ s.sweep.foreign, d.index ≠ x := by simpa using new
        exact ⟨_, insertEntry_perm _ _, (insertEntry_order · absent),
          decided _ ((point.trans (if_pos hit)).trans (hitNew_of_room (s := read) room x level))⟩
  · exact ⟨s, exec_conversionComplete_idle converting rssi refLow refHigh, by rw [if_neg converting]⟩

end Sys2Proof.Machine
end

section
/-! ## Proofs: a notice taken by a station -/

namespace Sys2Proof.Machine

-- One elaboration thread: the check's memory limit counts the stack of each.
set_option Elab.async false

/-- An absent station record stays absent. -/
theorem changeStation_of_absent {r : Fin 48} {s : State} (absent : s.stations.read r = none) (f : Station → Station) :
    changeStation r f s = s := by
  have same : s.stations.change r (Option.map f) = s.stations := by
    unfold Table.change
    rw [absent, Option.map_none, ← absent]
    exact table_write_read s.stations r
  unfold changeStation
  rw [same]

/-- A notice taken, with any test that tells the notices of its key and of its fields (R169). -/
theorem takeNotice_eq {n : Notice} {same : QueuedNotice → Bool} {plain : Bool}
    (same_eq : same = fun q => sameKey n q.notice) (plain_eq : plain = !hasMoreFields n) (st : Station) :
    st.takeNotice n =
      if st.notices.any same then
        { st with
          notices := st.notices.map fun q =>
            if same q = true then { notice := n, carried := q.carried && plain } else q }
      else if 8 ≤ st.notices.length then { st with notices := [], resync := true, resyncCarried := false }
      else { st with notices := st.notices ++ [{ notice := n, carried := false }] } := by
  subst same_eq plain_eq
  rfl

/-- Settles O43: the station's record by the notices already in its queue. -/
theorem noticesCoalesceOverflowOrJoin : Obligations.NoticesCoalesceOverflowOrJoin := by
  intro r n s same plain
  have same_eq : same = fun q => sameKey n q.notice := by
    funext q
    obtain ⟨m, carried⟩ := q
    cases n <;> cases m <;> rfl
  have plain_eq : plain = !hasMoreFields n := by cases n <;> rfl
  unfold giveNotice
  cases present : s.stations.read r with
  | none => exact changeStation_of_absent present _
  | some st =>
    rw [changeStation_of_present present]
    exact congrArg (fun x => { s with stations := s.stations.write r (some x) }) (takeNotice_eq same_eq plain_eq st)

end Sys2Proof.Machine
end

section
/-! ## Proofs: the waits of a branch and its fault watch -/

namespace Sys2Proof.Machine

-- One elaboration thread: the check's memory limit counts the stack of each.
set_option Elab.async false

section
variable {b : Fin 4} {last : Nat} {s : State}

/-! ### The stations due in a round (R159) -/

/-- The record is that of a station of the branch, due in the round, with an address above the one last polled. -/
def DueStation (s : State) (b : Fin 4) (last : Nat) (q : Fin 48) (st : Station) : Prop :=
  s.stations.read q = some st ∧ st.branch = b ∧ last < st.address ∧
    (st.link = .silent → (s.branches.read b).roundCount.toNat % 8 = 0)

/-- Some station of the branch is due in a round of the count, with an address above the one last polled. -/
def someDue (stations : Table (Option Station) 48) (b : Fin 4) (count : Byte) (last : Nat) : Bool :=
  stations.toList.any fun x => x.any fun st =>
    st.branch == b && decide (last < st.address) && decide (st.link ≠ .silent ∨ count.toNat % 8 = 0)

/-- The due stations with their numbers, in the order of the table. -/
def dueStations (b : Fin 4) (last : Nat) (s : State) : List (Fin 48 × Station) :=
  s.stations.entries.filterMap fun e =>
    match e.2 with
    | some st => if pollable b (s.branches.read b).roundCount last (some st) then some (e.1, st) else none
    | none => none

theorem nextStation_eq_foldl : nextStation b last s = (dueStations b last s).foldl lowerAddress none := rfl

theorem pollable_some {count : Byte} {st : Station} : pollable b count last (some st) = true ↔
    st.branch = b ∧ last < st.address ∧ (st.link = .silent → count.toNat % 8 = 0) := by
  simp only [pollable, stationDue, Bool.and_eq_true, Bool.or_eq_true, beq_iff_eq, decide_eq_true_eq, bne_iff_ne, and_assoc,
    ← Decidable.imp_iff_not_or]
  rfl

theorem mem_dueStations {q : Fin 48} {st : Station} : (q, st) ∈ dueStations b last s ↔ DueStation s b last q st := by
  unfold dueStations DueStation
  rw [Table.entries_eq, List.filterMap_map, List.mem_filterMap, ← pollable_some]
  constructor
  · rintro ⟨p, -, found⟩
    dsimp only [Function.comp_apply] at found
    split at found
    · rename_i su present
      split_ifs at found with due
      cases found
      exact ⟨present, due⟩
    · cases found
  · rintro ⟨present, due⟩
    refine ⟨q, List.mem_finRange q, ?_⟩
    dsimp only [Function.comp_apply]
    rw [present]
    exact if_pos due

/-- The due stations stand in ascending order of their numbers. -/
theorem dueStations_ordered : (dueStations b last s).Pairwise fun d e => d.1 < e.1 := by
  have number : ∀ q e, e ∈ (match s.stations.read q with
      | some st => if pollable b (s.branches.read b).roundCount last (some st) then some (q, st) else none
      | none => none) → e.1 = q := by
    intro q e found
    split at found
    · split_ifs at found
      · cases found
        rfl
      · cases found
    · cases found
  unfold dueStations
  rw [Table.entries_eq, List.filterMap_map]
  refine (List.pairwise_lt_finRange 48).filterMap _ fun p q below d hd e he => ?_
  rw [number p d hd, number q e he]
  exact below

/-- Of records in ascending order the one kept has the lowest address and, of those with it, the lowest number. -/
theorem foldl_lowerAddress_eq (l : List (Fin 48 × Station)) (x : Fin 48 × Station)
    (ordered : (x :: l).Pairwise fun d e => d.1 < e.1) :
    ∃ e ∈ x :: l, l.foldl lowerAddress (some x) = some e ∧
      ∀ d ∈ x :: l, e.2.address ≤ d.2.address ∧ (d.2.address = e.2.address → e.1 ≤ d.1) := by
  induction l generalizing x with
  | nil =>
    refine ⟨x, List.mem_singleton_self x, rfl, fun d hd => ?_⟩
    rw [List.mem_singleton.1 hd]
    exact ⟨le_rfl, fun _ => le_rfl⟩
  | cons y l ih =>
    have below : x.1 < y.1 := List.rel_of_pairwise_cons ordered (List.mem_cons_self ..)
    by_cases lower : y.2.address < x.2.address
    · obtain ⟨e, he, fold, least⟩ := ih y ordered.of_cons
      refine ⟨e, List.mem_cons_of_mem x he, ?_, fun d hd => ?_⟩
      · rwa [List.foldl_cons, show lowerAddress (some x) y = some y from if_pos lower]
      · rcases List.mem_cons.1 hd with rfl | hd
        · have := (least y (List.mem_cons_self ..)).1
          exact ⟨by omega, fun _ => by omega⟩
        · exact least d hd
    · have without : (x :: l).Sublist (x :: y :: l) := (List.sublist_cons_self y l).cons_cons x
      obtain ⟨e, he, fold, least⟩ := ih x (ordered.sublist without)
      refine ⟨e, without.subset he, ?_, fun d hd => ?_⟩
      · rwa [List.foldl_cons, show lowerAddress (some x) y = some x from if_neg lower]
      · obtain ⟨leastx, firstx⟩ := least x (List.mem_cons_self ..)
        rcases List.mem_cons.1 hd with rfl | hd
        · exact least d (List.mem_cons_self ..)
        rcases List.mem_cons.1 hd with rfl | hd
        · exact ⟨by omega, fun same => (firstx (by omega)).trans below.le⟩
        · exact least d (List.mem_cons_of_mem x hd)

/-- The next station of a round is the due one with the lowest address (R159). -/
theorem nextStation_least {r : Fin 48} {st : Station} (due : DueStation s b last r st)
    (least : ∀ q su, DueStation s b last q su → st.address ≤ su.address ∧ (su.address = st.address → r ≤ q)) :
    nextStation b last s = some (r, st) := by
  have listed := mem_dueStations.2 due
  have ordered : (dueStations b last s).Pairwise fun d e => d.1 < e.1 := dueStations_ordered
  have all : ∀ e ∈ dueStations b last s, DueStation s b last e.1 e.2 := fun _ => mem_dueStations.1
  rw [nextStation_eq_foldl]
  cases list : dueStations b last s with
  | nil =>
    rw [list] at listed
    cases listed
  | cons x l =>
    rw [list] at listed ordered all
    obtain ⟨⟨q, su⟩, he, fold, first⟩ := foldl_lowerAddress_eq l x ordered
    obtain ⟨lowAddress, lowNumber⟩ := first _ listed
    obtain ⟨leastAddress, leastNumber⟩ := least q su (all _ he)
    have same : su.address = st.address := Nat.le_antisymm lowAddress leastAddress
    have number : q = r := le_antisymm (lowNumber same.symm) (leastNumber same)
    subst number
    have record : some su = some st := (all _ he).1.symm.trans due.1
    cases record
    exact fold

/-- A round has no next station when none is due. -/
theorem nextStation_eq_none (unpolled : ∀ q st, ¬DueStation s b last q st) : nextStation b last s = none := by
  have empty : dueStations b last s = [] :=
    List.eq_nil_iff_forall_not_mem.2 fun e he => unpolled e.1 e.2 (mem_dueStations.1 he)
  rw [nextStation_eq_foldl, empty]
  rfl

theorem someDue_iff : someDue s.stations b (s.branches.read b).roundCount last = true ↔
    ∃ q st, DueStation s b last q st := by
  unfold someDue DueStation
  rw [Table.toList_eq, List.any_map, List.any_eq_true]
  simp [Option.any_eq_true, and_assoc, Decidable.imp_iff_not_or]

theorem nextStation_isSome_eq :
    (nextStation b last s).isSome = someDue s.stations b (s.branches.read b).roundCount last := by
  rw [Bool.eq_iff_iff, someDue_iff, nextStation_eq_foldl, foldl_lowerAddress_isSome]
  constructor
  · intro found
    obtain ⟨e, he⟩ := List.exists_mem_of_ne_nil _ (found.resolve_left nofun)
    exact ⟨e.1, e.2, mem_dueStations.1 he⟩
  · rintro ⟨q, st, due⟩
    exact .inr (List.ne_nil_of_mem (mem_dueStations.2 due))

/-- The round goes on while a station is due, or its gap begins (R159). -/
theorem continueRound_eq (b : Fin 4) (last : Nat) (s : State) :
    continueRound b last s =
      setActivity b (if someDue s.stations b (s.branches.read b).roundCount last then .inRound last else .gap true) s := by
  unfold continueRound
  rw [nextStation_isSome_eq, apply_ite (setActivity b · s)]

/-- A round begun after the branch is changed is one change of the branch (R159). -/
theorem beginRound_changeBranch (b : Fin 4) (f : Branch → Branch) (s : State) :
    beginRound b (changeBranch b f s) =
      changeBranch b (fun br =>
        { f br with
          activity := if someDue s.stations b (f (s.branches.read b)).roundCount 0 then .inRound 0 else .gap true }) s := by
  have read : (changeBranch b f s).branches.read b = f (s.branches.read b) := by
    rw [changeBranch_branches, Table.read_change, if_pos rfl]
  unfold beginRound
  rw [continueRound_eq, read]
  exact changeBranch_changeBranch b f _ s

/-! ### The fault watch (R157, R162) -/

/-- A poll not yet decided fails at its station, unless that record is gone (R157, log entry 8). -/
theorem failOpenPoll_eq (b : Fin 4) (s : State) :
    failOpenPoll b s =
      { s with
        stations :=
          match (s.branches.read b).activity.polled? with
          | some r => s.stations.change r (Option.map Station.failed)
          | none => s.stations } := by
  unfold failOpenPoll
  cases (s.branches.read b).activity with
  | sending p | listening p =>
    unfold countFailure Activity.polled?
    dsimp only
    cases p.stationGone <;> rfl
  | idle | inRound | quiet | gap => rfl

/-- A line that keeps its level changes nothing. -/
theorem lineChanges_same (br : Branch) : br.lineChanges br.line = br := if_pos rfl

/-- Under TXEN the receiver does not look (R153). -/
theorem lineChanges_of_txen {level : LineLevel} {br : Branch} (changes : br.line ≠ level) (txen : br.txen = true) :
    br.lineChanges level = { br with line := level } := by
  unfold Branch.lineChanges
  rw [if_neg changes.symm, if_pos txen]

end

/-! ### The statements -/

/-- Settles O39: each wait by the branch's activity, and the round that goes on by the stations due. -/
theorem waitsFailThePollOrGoOn : Obligations.WaitsFailThePollOrGoOn := by
  unfold Obligations.WaitsFailThePollOrGoOn
  intro on failed due
  refine ⟨fun b s => ?_, fun b s => ?_, continueRound_eq, fun b s => ?_, fun b s => ?_⟩
  · show execReplyWindowExpired b s = _
    unfold execReplyWindowExpired
    cases (s.branches.read b).activity with
    | listening p rx seen => cases rx <;> cases seen <;> rfl
    | idle | inRound | sending | quiet | gap => rfl
  · show execReplyGapTimeout b s = _
    unfold execReplyGapTimeout
    cases (s.branches.read b).activity with
    | listening p rx seen => cases rx <;> cases seen <;> rfl
    | idle | inRound | sending | quiet | gap => rfl
  · show execQuietWaitEnd b s = _
    unfold execQuietWaitEnd
    cases (s.branches.read b).activity with
    | quiet last => exact (apply_ite Host.Outcome.next _ _ _).symm
    | idle | inRound | sending | listening | gap => rfl
  · show execRoundGapEnd b s = _
    unfold execRoundGapEnd
    cases (s.branches.read b).activity with
    | gap advances =>
      dsimp only
      rw [beginRound_changeBranch]
      refine congrArg Host.Outcome.next (changeBranch_congr ?_)
      have count : ∀ c : Byte, (if advances = true then c + 1 else c) = c + if advances then 1 else 0 := fun c => by
        cases advances
        · exact (BitVec.add_zero c).symm
        · rfl
      dsimp only
      rw [count]
      rfl
    | idle | inRound | sending | listening | quiet => rfl

/-- Settles O40: the fault, the recovery, and a transition by the branch's state and activity. -/
theorem faultWatchChangesTheBranch : Obligations.FaultWatchChangesTheBranch := by
  unfold Obligations.FaultWatchChangesTheBranch
  refine ⟨fun b s => ?_, fun b s => ?_, fun b level s => ?_⟩
  · show execBranchFault b s = _
    unfold execBranchFault faultBranch
    rw [failOpenPoll_eq, apply_ite Host.Outcome.next]
    rfl
  · show execBranchFaultRecovery b s = _
    unfold execBranchFaultRecovery recoverBranch
    simp only [inRun_iff, apply_ite Host.Outcome.next]
    rfl
  · refine congrArg Host.Outcome.next (changeBranch_congr ?_)
    generalize s.branches.read b = br
    by_cases same : br.line = level
    · subst same
      exact (lineChanges_same br).trans (if_pos rfl).symm
    rw [if_neg same]
    by_cases txen : br.txen = true
    · exact (lineChanges_of_txen same txen).trans (if_pos txen).symm
    unfold Branch.lineChanges
    rw [if_neg (Ne.symm same), if_neg txen, if_neg txen]
    cases br.state with
    | running => cases br.activity <;> rfl
    | disabled | faulted => rfl

end Sys2Proof.Machine
end

section
/-! ## Proofs: the requests about branches and stations -/

namespace Sys2Proof.Machine

-- One elaboration thread: the check's memory limit counts the stack of each.
set_option Elab.async false

/-! ### Branches written, enabled and disabled (R155, R156) -/

/-- The rates by their codes (R188). -/
theorem rateOfCode_eq (n : Nat) : rateOfCode n = [Rate.b38400, .b115200, .b230400, .b460800][n]? :=
  match n with
  | 0 | 1 | 2 | 3 => rfl
  | _ + 4 => rfl

/-- The turnoff delays by their codes (R188). -/
theorem turnoffOfCode_eq (n : Nat) : turnoffOfCode n = [Turnoff.bits0, .bits1, .bits2, .bits4][n]? :=
  match n with
  | 0 | 1 | 2 | 3 => rfl
  | _ + 4 => rfl

/-- In a round whose count is 0 every station of the branch is due (R159). -/
theorem someDue_zero (stations : Table (Option Station) 48) (b : Fin 4) :
    someDue stations b 0 0 = stations.toList.any fun x => x.any fun st => st.branch == b && decide (0 < st.address) := by
  unfold someDue
  simp

/-- A branch enabled, in one change (R156). -/
theorem enableBranch_eq (b : Fin 4) (s : State) :
    enableBranch b s =
      changeBranch b (fun br =>
        { br with
          state := .running, roundCount := 0, markRun := false, spaceRun := br.line == .space && !br.txen,
          activity :=
            if s.console.mode = .config then .idle
            else if s.stations.toList.any fun x => x.any fun st => st.branch == b && decide (0 < st.address) then .inRound 0
            else .gap true }) s := by
  unfold enableBranch
  dsimp only
  rw [beginRound_changeBranch, ← someDue_zero]
  have mode : inRun (changeBranch b (fun br =>
      { br with
        state := .running, roundCount := 0, activity := .idle, markRun := false,
        spaceRun := br.line == .space && !br.txen }) s) = inRun s := rfl
  rw [mode]
  cases config : inRun s with
  | false => simp only [if_pos (inRun_eq_false.1 config)]; rfl
  | true =>
    have run : s.console.mode ≠ .config := by simp [inRun_iff.1 config]
    simp only [if_neg run]
    rfl

/-! ### Station records written and removed (R165 to R167) -/

/-- A mark carried as 0 or 1 (R192). -/
theorem markOfCode_eq (n : Nat) : markOfCode n = if n < 2 then some (decide (n = 1)) else none :=
  match n with
  | 0 | 1 => rfl
  | _ + 2 => (if_neg (by omega)).symm

/-- The checks of WRITE STATION's parameters (R166, R192, log entry 33). -/
theorem stationParameters_eq (record branch address zone ceiling authority : Byte) :
    stationParameters record branch address zone ceiling authority =
      if h : record.toNat < 48 ∧ branch.toNat < 4 ∧ zone.toNat < 16 ∧ authority.toNat < 2 ∧ 1 ≤ address.toNat ∧
          address.toNat ≤ 31 ∧ 1 ≤ ceiling.toNat ∧ ceiling.toNat ≤ 64 then
        some (⟨record.toNat, h.1⟩,
          { branch := ⟨branch.toNat, h.2.1⟩, address := address.toNat, zone := ⟨zone.toNat, h.2.2.1⟩,
            ceiling := ceiling.toNat, authority := decide (authority.toNat = 1) })
      else none := by
  unfold stationParameters
  rw [markOfCode_eq]
  unfold numberBelow
  by_cases hr : record.toNat < 48
  · by_cases hb : branch.toNat < 4
    · by_cases hz : zone.toNat < 16
      · by_cases ha : authority.toNat < 2
        · simp only [hr, hb, hz, ha, dite_true, if_true, true_and]
          exact dite_eq_ite.symm
        · simp [hr, hb, hz, ha]
      · simp [hr, hb, hz]
    · simp [hr, hb]
  · simp [hr]

/-- Another present record has the branch and the address (R166). -/
theorem addressTaken_eq (r : Fin 48) (new : StationSettings) (s : State) :
    addressTaken r new s =
      (List.finRange 48).any fun q =>
        decide (q ≠ r) && (s.stations.read q).any fun st => st.branch == new.branch && st.address == new.address := by
  unfold addressTaken
  rw [Table.entries_eq, List.any_map]
  refine congrArg (List.any _) (funext fun q => ?_)
  dsimp only [Function.comp_apply]
  rw [Bool.eq_iff_iff]
  cases s.stations.read q with
  | none => simp
  | some st => simp [and_assoc]

theorem stationInUse_iff (st : Station) : stationInUse st = true ↔ 0 < st.held ∨ st.openRequest = true := by
  simp [stationInUse]

/-- A present record in use would change its branch, address or zone (R166). -/
theorem stationLocked_eq (new : StationSettings) (x : Option Station) :
    stationLocked new x =
      x.any fun st => decide
        ((st.branch ≠ new.branch ∨ st.address ≠ new.address ∨ st.zone ≠ new.zone) ∧
          (0 < st.held ∨ st.openRequest = true)) := by
  cases x with
  | none => rfl
  | some st =>
    rw [Bool.eq_iff_iff]
    simp [stationLocked, movesStation, stationInUse_iff, or_assoc]

theorem movesStation_iff {new : StationSettings} {st : Station} :
    movesStation new st = true ↔ ¬(st.branch = new.branch ∧ st.address = new.address) := by
  simp [movesStation, imp_iff_not_or]

/-- The activity with its poll marked, where it polls the record (R161). -/
def Activity.orphaned (r : Fin 48) (a : Activity) : Activity :=
  match a with
  | .sending p => if p.station = r then .sending { p with stationGone := true } else .sending p
  | .listening p rx seen =>
    if p.station = r then .listening { p with stationGone := true } rx seen else .listening p rx seen
  | .idle => .idle
  | .inRound l => .inRound l
  | .quiet l => .quiet l
  | .gap a => .gap a

theorem orphanPolls_eq (r : Fin 48) (s : State) :
    orphanPolls r s =
      { s with branches := s.branches.each fun br => { br with activity := br.activity.orphaned r } } := by
  refine congrArg (fun branches => { s with branches := branches }) (congrArg s.branches.each (funext fun br => ?_))
  refine congrArg (fun a => { br with activity := a }) ?_
  cases br.activity with
  | sending p => exact apply_ite Activity.sending _ _ _
  | listening p rx seen => exact apply_ite (Activity.listening · rx seen) _ _ _
  | idle | inRound | quiet | gap => rfl

/-! ### The statements -/

/-- Settles O35: each request by its branch number, and the round of an enabled branch by its stations. -/
theorem branchRequestsFollowTheState : Obligations.BranchRequestsFollowTheState := by
  unfold Obligations.BranchRequestsFollowTheState
  refine ⟨fun branch rate turnoff window gap debounce s => ?_, fun branch s => ?_, fun branch s => ?_⟩
  · show execWriteBranch branch rate turnoff window gap debounce s = _
    unfold execWriteBranch
    rw [rateOfCode_eq, turnoffOfCode_eq]
    by_cases h : branch.toNat < 4
    · rw [numberBelow_of_lt h, dif_pos h, apply_ite Host.Outcome.next]
      refine if_congr Iff.rfl rfl ?_
      cases [Rate.b38400, .b115200, .b230400, .b460800][rate.toNat]? with
      | none => rfl
      | some x =>
        cases [Turnoff.bits0, .bits1, .bits2, .bits4][turnoff.toNat]? with
        | none => rfl
        | some y => exact (apply_ite Host.Outcome.next _ _ _).symm
    · rw [numberBelow_of_not_lt h, dif_neg h]
      rfl
  · show execBranchEnable branch s = _
    unfold execBranchEnable
    by_cases h : branch.toNat < 4
    · rw [numberBelow_of_lt h, dif_pos h]
      dsimp only
      rw [enableBranch_eq, apply_ite Host.Outcome.next]
      rfl
    · rw [numberBelow_of_not_lt h, dif_neg h]
      rfl
  · show execBranchDisable branch s = _
    unfold execBranchDisable
    by_cases h : branch.toNat < 4
    · rw [numberBelow_of_lt h, dif_pos h]
      exact (apply_ite Host.Outcome.next _ _ _).symm
    · rw [numberBelow_of_not_lt h, dif_neg h]
      rfl

/-- Settles O36: the checks in their order, and the record written by what it was before. -/
theorem stationRequestsKeepTheRecords : Obligations.StationRequestsKeepTheRecords := by
  unfold Obligations.StationRequestsKeepTheRecords
  intro inUse orphaned
  have orphaned_eq : ∀ s r, orphanPolls r s = { s with branches := orphaned s r } := fun s r => orphanPolls_eq r s
  refine ⟨fun record branch address zone ceiling authority s => ?_, fun record s => ?_⟩
  · show execWriteStation record branch address zone ceiling authority s = _
    unfold execWriteStation
    rw [stationParameters_eq]
    by_cases h : record.toNat < 48 ∧ branch.toNat < 4 ∧ zone.toNat < 16 ∧ authority.toNat < 2 ∧ 1 ≤ address.toNat ∧
        address.toNat ≤ 31 ∧ 1 ≤ ceiling.toNat ∧ ceiling.toNat ≤ 64
    · rw [dif_pos h, dif_pos h]
      dsimp only
      rw [stationLocked_eq, addressTaken_eq, apply_ite Host.Outcome.next, apply_ite Host.Outcome.next]
      refine if_congr Iff.rfl rfl (if_congr Iff.rfl rfl (congrArg (accept []) ?_))
      unfold storeStation
      cases s.stations.read ⟨record.toNat, h.1⟩ with
      | none => rfl
      | some st =>
        dsimp only
        rw [orphaned_eq]
        exact (if_congr movesStation_iff rfl rfl).trans (ite_not ..)
    · rw [dif_neg h, dif_neg h]
      rfl
  · show execRemoveStation record s = _
    unfold execRemoveStation
    by_cases h : record.toNat < 48
    · rw [numberBelow_of_lt h, dif_pos h]
      dsimp only
      cases s.stations.read ⟨record.toNat, h⟩ with
      | none => rfl
      | some st =>
        dsimp only
        rw [orphaned_eq, apply_ite Host.Outcome.next]
        exact if_congr (stationInUse_iff st) rfl rfl
    · rw [numberBelow_of_not_lt h, dif_neg h]
      rfl

end Sys2Proof.Machine
end

section
/-! ## Proofs: the polls of a round -/

namespace Sys2Proof.Machine

-- One elaboration thread: the check's memory limit counts the stack of each.
set_option Elab.async false

/-! ### The characters of a poll (R152, R154, R189, R190) -/

/-- The check byte brings the sum of a frame to 0 (R154). -/
theorem sum_append_check (bytes : List Byte) : (bytes ++ [0 - sumBytes bytes]).sum = 0 := by
  rw [List.sum_append, List.sum_singleton, sumBytes_eq]
  exact add_sub_cancel _ _

/-- A list mapped without regard to the places. -/
theorem mapIdx_const {α β : Type} (f : α → β) (l : List α) : (l.mapIdx fun _ => f) = l.map f :=
  List.ext_getElem (by simp) (by simp)

/-- The address character alone has its mark bit at 1 (R152, R154). -/
theorem frameChars_eq_mapIdx (bytes : List Byte) :
    frameChars bytes = bytes.mapIdx fun k d => { data := d, mark := decide (k = 0) } := by
  cases bytes with
  | nil => rfl
  | cons address rest =>
    rw [List.mapIdx_cons]
    exact congrArg (List.cons _) (mapIdx_const _ rest).symm

/-- A poll's characters end with a check byte that brings their sum to 0 (R154). -/
theorem pollFrame_eq (address : Nat) (defer : Bool) (item : PollItem) :
    ∃ check : Byte,
      let body := (if defer then (1 : Byte) else 0) :: itemBytes item
      let frame := [BitVec.ofNat 8 address, BitVec.ofNat 8 body.length, 64] ++ body ++ [check]
      frame.sum = 0 ∧ pollFrame address defer item = frame.mapIdx fun k d => { data := d, mark := decide (k = 0) } := by
  refine ⟨_, sum_append_check _, ?_⟩
  unfold pollFrame
  exact frameChars_eq_mapIdx _

/-- The carried item is marked at the head of its queue (R160, R171). -/
theorem markCarried_eq (st : Station) :
    st.markCarried =
      { st with
        resyncCarried := decide (st.pollItem = .resync)
        notices := st.notices.mapIdx fun k n =>
          { n with carried := decide (k = 0 ∧ st.pollItem = .notice n.notice) } } := by
  unfold Station.markCarried
  cases st.notices with
  | nil => rfl
  | cons n rest =>
    have behind : ∀ k, ∀ q : QueuedNotice,
        { q with carried := decide (k + 1 = 0 ∧ st.pollItem = .notice q.notice) } = { q with carried := false } :=
      fun k q => by simp
    simp only [List.mapIdx_cons, behind, mapIdx_const, true_and]

/-- The first item that applies: the head answer, resync, the head notice, nothing (R160). -/
theorem pollItem_eq (st : Station) :
    st.pollItem =
      match st.answers, st.resync, st.notices with
      | a :: _, _, _ => .answer a
      | [], true, _ => .resync
      | [], false, n :: _ => .notice n.notice
      | [], false, [] => .nothing := by
  unfold Station.pollItem
  cases st.answers with
  | cons a answers => rfl
  | nil =>
    cases st.resync with
    | true => rfl
    | false => cases st.notices <;> rfl

/-- A present station's poll formed, in one change of each part (R160). -/
theorem formPoll_of_present {b : Fin 4} {r : Fin 48} {st : Station} {s : State} (present : s.stations.read r = some st) :
    formPoll b r st s =
      { s with
        branches := s.branches.change b fun br =>
          { br with
            activity := .sending { station := r, address := st.address, item := st.pollItem, stationGone := false }
            txen := true
            spaceRun := false
            txFrame := pollFrame st.address s.engine.defer st.pollItem }
        stations := s.stations.write r (some st.markCarried) } :=
  changeStation_of_present (s := changeBranch b _ s) present Station.markCarried

/-! ### POLL due or not (R160) -/

section
variable {b : Fin 4} {last : Nat} {s : State}

/-- POLL outside a round, in CONFIG, off a RUNNING branch or under TXEN does nothing (log entry 2). -/
theorem exec_poll_idle (idle : s.console.mode = .config ∨ (s.branches.read b).state ≠ .running ∨
    (s.branches.read b).txen = true ∨ ∀ last, (s.branches.read b).activity ≠ .inRound last) :
    exec (.poll b) s = .next s := by
  show execPoll b s = _
  unfold execPoll
  split
  · rename_i last round
    refine if_neg fun due => ?_
    simp only [Bool.and_eq_true, inRun_iff, beq_iff_eq, Bool.not_eq_true'] at due
    obtain ⟨⟨run, running⟩, txen⟩ := due
    rcases idle with config | other | sending | outside
    · cases run.symm.trans config
    · exact other running
    · cases txen.symm.trans sending
    · exact outside last round
  · rfl

/-- POLL in a round of a RUNNING branch in RUN with TXEN released. -/
theorem exec_poll_due (round : (s.branches.read b).activity = .inRound last) (run : s.console.mode = .run)
    (running : (s.branches.read b).state = .running) (txen : (s.branches.read b).txen = false) :
    exec (.poll b) s = .next
      (match nextStation b last s with
      | some (r, st) => formPoll b r st s
      | none => setActivity b (.gap true) s) := by
  show execPoll b s = _
  unfold execPoll
  simp only [round, inRun_iff.2 run, running, txen]
  cases nextStation b last s <;> rfl

end

/-- A line found at space when TXEN is released begins a run on a RUNNING branch (R153, R157). -/
theorem releasedRun_eq (br : Branch) :
    (br.state == .running && br.line == .space) = decide (br.state = .running ∧ br.line = .space) :=
  (Bool.decide_and _ _).symm

/-! ### The levels of a character and of a poll (R152, R154) -/

/-- A bit of a byte as its number shows it. -/
theorem byte_getLsbD (d : Byte) (k : Nat) : d.getLsbD k = decide (d.toNat / 2 ^ k % 2 = 1) :=
  Nat.testBit_eq_decide_div_mod_eq

/-- Blocks of one length, taken out of their row. -/
theorem take_drop_flatMap {α β : Type} {f : α → List β} {n : Nat} (length : ∀ a, (f a).length = n) (l : List α) (k : Nat)
    {a : α} (found : l[k]? = some a) : ((l.flatMap f).drop (n * k)).take n = f a := by
  induction l generalizing k with
  | nil => cases found
  | cons x l ih =>
    rw [List.flatMap_cons]
    cases k with
    | zero =>
      cases found
      exact List.take_left' (length a)
    | succ k =>
      rw [Nat.mul_succ, Nat.add_comm, ← List.drop_drop, List.drop_left' (length x)]
      exact ih k found

theorem charLevels_length (bits : BitVec 10) : (charLevels bits).length = 11 := by simp [charLevels]

/-- Eleven levels for each character (R152, R154). -/
theorem sentLevels_length (br : Branch) : (sentLevels br).length = 11 * br.txFrame.length := by
  simp [sentLevels, List.length_flatMap, charLevels_length, Nat.mul_comm]

/-- Settles O37: the station by the least address due, its poll's parts, and the levels bit by bit. -/
theorem pollsCarryTheFirstItem : Obligations.PollsCarryTheFirstItem := by
  unfold Obligations.PollsCarryTheFirstItem
  intro word byte item due
  have item_eq : ∀ i, itemBytes i = item i := fun i => by
    cases i with
    | nothing | resync => rfl
    | answer a => cases a <;> rfl
    | notice n => cases n <;> rfl
  refine ⟨fun b s => ⟨exec_poll_idle, fun last round run running txen => ?_⟩, fun c => ?_,
    fun br => ⟨sentLevels_length br, fun k c found => take_drop_flatMap (fun _ => charLevels_length _) _ k found⟩,
    fun b s => ?_⟩
  · rw [exec_poll_due round run running txen]
    refine ⟨fun unpolled => ?_, fun r st here least => ?_⟩
    · rw [nextStation_eq_none unpolled]
      rfl
    · obtain ⟨check, sum, frame⟩ := pollFrame_eq st.address s.engine.defer st.pollItem
      refine ⟨st.pollItem, check, pollItem_eq st, ?_⟩
      rw [← item_eq]
      refine ⟨sum, ?_⟩
      rw [nextStation_least here least]
      dsimp only
      rw [formPoll_of_present here.1, frame, markCarried_eq]
  · simp only [charLevels_sent, byte_getLsbD]
    rfl
  · refine (apply_ite Host.Outcome.next _ _ _).symm.trans (congrArg Host.Outcome.next (if_congr Iff.rfl ?_ rfl))
    refine changeBranch_congr ?_
    exact congrArg (fun run => { (s.branches.read b).releaseTxen with spaceRun := run }) (releasedRun_eq _)

end Sys2Proof.Machine
end

section
/-! ## Proofs: the step and the reads of records, settings and figures -/

namespace Sys2Proof.Machine

-- One elaboration thread: the check's memory limit counts the stack of each.
set_option Elab.async false

/-- Settles O1: the step is a match on the queue of waiting commands. -/
theorem stepRunsTheFrontCommand : Obligations.StepRunsTheFrontCommand := by
  refine ⟨fun c rest s waiting => ?_, fun s idle => ?_⟩
  · unfold step
    rw [waiting]
    rfl
  · unfold step
    rw [idle]

/-- A slot's being FREE, decided by comparison. -/
theorem isFree_eq_decide (x : Slot) : x.isFree = decide (x = .free) := by cases x <;> rfl

/-- The sum of the held counts, an absent record counting 0 (R182). -/
theorem heldSum_eq (s : State) : heldSum s = (s.stations.toList.map fun x => (x.map Station.held).getD 0).sum := by
  unfold heldSum
  congr 2
  funext x
  cases x <;> rfl

/-- Settles O7: a number in range is read, any other is refused, and the layouts are those of R191 and R193. -/
theorem stationBranchAndFigureReads : Obligations.StationBranchAndFigureReads := by
  refine ⟨fun record s => ?_, fun branch s => ?_, fun s => rfl, fun s => ?_⟩
  · show execReadStation record s = _
    unfold execReadStation
    by_cases h : record.toNat < 48
    · simp only [numberBelow_of_lt h, dif_pos h]; rfl
    · simp only [numberBelow_of_not_lt h, dif_neg h]; rfl
  · show execReadBranch branch s = _
    unfold execReadBranch
    by_cases h : branch.toNat < 4
    · simp only [numberBelow_of_lt h, dif_pos h]; rfl
    · simp only [numberBelow_of_not_lt h, dif_neg h]; rfl
  · show execReadCounts s = _
    unfold execReadCounts slotCounts
    rw [heldSum_eq, funext isFree_eq_decide]
    simp only [List.append_assoc]
    rfl

/-- Settles O8: the record of each kind of slot in R193's layout, one alone or a row of them up to slot 383. -/
theorem slotReadsGiveTheRecords : Obligations.SlotReadsGiveTheRecords := by
  unfold Obligations.SlotReadsGiveTheRecords
  intro word label record
  have layout : slotRecord = record := by
    funext x
    cases x <;> rfl
  rw [← layout]
  refine ⟨fun slot s => ?_, fun start n s => (apply_ite Host.Outcome.next _ _ _).symm⟩
  show execReadEntry slot s = _
  unfold execReadEntry
  by_cases h : slot.toNat < 384
  · simp only [numberBelow_of_lt h, dif_pos h]; rfl
  · simp only [numberBelow_of_not_lt h, dif_neg h]; rfl

end Sys2Proof.Machine
end

section
/-! ## Proofs: the bytes of a request

O5. A frame is read back in two halves: all its bytes ask for its command, whatever follows them, and no fewer do. -/

namespace Sys2Proof.Machine

-- One elaboration thread: the check's memory limit counts the stack of each.
set_option Elab.async false

/-! ### Fields of more than one byte (R187) -/

/-- The two bytes of a field make the field again. -/
@[simp] theorem joinWord_split (w : Word) : joinWord (w.extractLsb' 8 8) (w.extractLsb' 0 8) = w := by
  unfold joinWord
  rw [BitVec.extractLsb'_append_extractLsb'_eq_extractLsb' (by decide)]
  exact BitVec.extractLsb'_eq_self

/-- The three bytes of a tune offset make the offset again. -/
@[simp] theorem joinWord24_split (w : Word24) :
    joinWord24 (w.extractLsb' 16 8) (w.extractLsb' 8 8) (w.extractLsb' 0 8) = w := by
  unfold joinWord24
  rw [BitVec.extractLsb'_append_extractLsb'_eq_extractLsb' (by decide),
    BitVec.extractLsb'_append_extractLsb'_eq_extractLsb' (by decide)]
  exact BitVec.extractLsb'_eq_self

/-! ### PIN, whose label has a length of its own (R192) -/

/-- The frame of a PIN with any check flag (R191). -/
def pinBytes (index : Word) (profile zone checkFlag : Byte) (label : List Byte) : List Byte :=
  [32] ++ splitWord index ++ [profile, zone, checkFlag, BitVec.ofNat 8 label.length] ++ label

section
variable {index : Word} {profile zone checkFlag : Byte} {label : List Byte}

/-- A PIN is sent with its check flag as carried. -/
theorem encodeFrame_pin : encodeFrame (.pin index profile zone checkFlag label) =
    some (pinBytes index profile zone checkFlag label) := rfl

/-- A checked PIN is sent with the check flag at 1 (R72). -/
theorem encodeFrame_checkedPin :
    encodeFrame (.checkedPin index profile zone label) = some (pinBytes index profile zone 1 label) := rfl

/-- The length byte of a label that it can announce. -/
theorem labelLength_toNat (fits : labelFits label = true) : (BitVec.ofNat 8 label.length).toNat = label.length := by
  have bound : label.length ≤ 255 := by simpa [labelFits] using fits
  exact Nat.mod_eq_of_lt (Nat.lt_succ_of_le bound)

/-- The label is taken out of the bytes by its length byte. -/
theorem decodeFrame_pin (fits : labelFits label = true) (extra : List Byte) :
    decodeFrame (pinBytes index profile zone checkFlag label ++ extra) = pinRequest index profile zone checkFlag label := by
  simp [pinBytes, splitWord, decodeFrame, requestReader, -BitVec.toNat_ofNat, labelLength_toNat fits]

/-- A PIN lacks a fixed parameter or a byte of its label. -/
theorem decodeFrame_pin_short (fits : labelFits label = true) {first rest : List Byte}
    (cut : pinBytes index profile zone checkFlag label = 32 :: first ++ rest) (missing : rest ≠ []) :
    decodeFrame (32 :: first) = .chipSelectReleasedEarly (32 :: first) := by
  show Option.getD _ _ = _
  dsimp only
  split
  · rename_i len received
    simp only [pinBytes, splitWord, List.cons_append, List.nil_append, List.cons.injEq] at cut
    obtain ⟨-, -, -, -, -, -, rfl, rfl⟩ := cut
    rw [labelLength_toNat fits, if_pos (by simpa using List.length_pos_iff.2 missing)]
    rfl
  · rfl

end

/-! ### Every request -/

/-- A request that can be sent is read back whatever follows its last parameter byte (R172). -/
theorem decodeFrame_whole {c : Instr} {bytes : List Byte} (sendable : c.wellFormed = true)
    (sent : encodeFrame c = some bytes) (whole : ∀ received, c ≠ .chipSelectReleasedEarly received) (extra : List Byte) :
    decodeFrame (bytes ++ extra) = c := by
  cases c with
  | writeProfile profile state =>
    cases sent
    have defined : state ≠ 0#8 := of_decide_eq_true sendable
    simp [splitWord, decodeFrame, requestReader, writeProfileRequest, defined]
  | pin i p z ck label =>
    obtain ⟨unchecked, fits⟩ := (Bool.and_eq_true _ _).mp sendable
    cases encodeFrame_pin.symm.trans sent
    exact (decodeFrame_pin fits extra).trans (if_neg (of_decide_eq_true unchecked))
  | checkedPin =>
    cases encodeFrame_checkedPin.symm.trans sent
    exact decodeFrame_pin sendable extra
  | unknownRequestCode code =>
    cases sent
    have unnamed := (unknownRequestCode_wellFormed code).symm.trans sendable
    simp [decodeFrame, Option.isNone_iff_eq_none.1 unnamed]
  | chipSelectReleasedEarly received => exact absurd rfl (whole received)
  | hardwareReset | tick | leaseCounterDecrement | lapse | holdCounterDecrement | holdExpiry | moveCounterDecrement |
    moveLapse | clearTimerDecrement | clearTimerExpiry | poll | turnoffDelayEnd | replyAccepted | replyWindowExpired |
    replyGapTimeout | replyFailed | quietWaitEnd | strayCharacter | roundGapEnd | branchFault | branchFaultRecovery |
    validReplyNotice | engineTake | candidateEvaluation | searchCompletion | reTest | checkedPinCompletion | auditVisit |
    tuneLatch | settleEnd | conversionComplete | passGapEnd | replyCharacterReceived | lineTransition => cases sent
  | _ =>
    cases sent
    simp [splitWord, splitWord24, decodeFrame, requestReader, writeProfileRequest]

/-- A request lacks a parameter byte while a byte of its frame is missing (R174). -/
theorem decodeFrame_short {c : Instr} {first rest : List Byte} (sendable : c.wellFormed = true)
    (sent : encodeFrame c = some (first ++ rest)) (whole : ∀ received, c ≠ .chipSelectReleasedEarly received)
    (missing : rest ≠ []) : decodeFrame first = .chipSelectReleasedEarly first := by
  have short := List.length_pos_iff.2 missing
  cases first with
  | nil => rfl
  | cons code first =>
    cases c with
    | pin i p z ck label =>
      obtain ⟨-, fits⟩ := (Bool.and_eq_true _ _).mp sendable
      have cut := Option.some.inj (encodeFrame_pin.symm.trans sent)
      obtain rfl := (List.cons.inj cut).1
      exact decodeFrame_pin_short fits cut missing
    | checkedPin i p z label =>
      have cut := Option.some.inj (encodeFrame_checkedPin.symm.trans sent)
      obtain rfl := (List.cons.inj cut).1
      exact decodeFrame_pin_short sendable cut missing
    | chipSelectReleasedEarly received => exact absurd rfl (whole received)
    | listExclusions | readGuards | readTiming | readCounts | audit | readResult | readSweep | sweepStart | sweepStop |
      readForeign | start | stop | clear | readAttention | unknownRequestCode =>
      have length := congrArg List.length (Option.some.inj sent)
      simp only [List.cons_append, List.length_append, List.length_cons, List.length_nil] at length
      omega
    | hardwareReset | tick | leaseCounterDecrement | lapse | holdCounterDecrement | holdExpiry | moveCounterDecrement |
      moveLapse | clearTimerDecrement | clearTimerExpiry | poll | turnoffDelayEnd | replyAccepted | replyWindowExpired |
      replyGapTimeout | replyFailed | quietWaitEnd | strayCharacter | roundGapEnd | branchFault | branchFaultRecovery |
      validReplyNotice | engineTake | candidateEvaluation | searchCompletion | reTest | checkedPinCompletion | auditVisit |
      tuneLatch | settleEnd | conversionComplete | passGapEnd | replyCharacterReceived | lineTransition => cases sent
    | _ =>
      have cut := Option.some.inj sent
      obtain rfl := (List.cons.inj cut).1
      have length := congrArg List.length cut
      show Option.getD _ _ = _
      dsimp only
      split
      · simp only [splitWord, splitWord24, List.length_append, List.length_cons, List.length_nil] at length
        omega
      · rfl

/-- Settles O5: a frame's bytes ask for its command, and a frame cut short asks for nothing. -/
theorem requestBytesRoundTrip : Obligations.RequestBytesRoundTrip := by
  refine ⟨fun c bytes sendable sent => ?_, fun c bytes sendable sent whole =>
    ⟨decodeFrame_whole sendable sent whole, fun first rest cut missing => ?_⟩⟩
  · by_cases early : ∃ received, c = .chipSelectReleasedEarly received
    · obtain ⟨received, rfl⟩ := early
      cases sent
      exact beq_iff_eq.1 sendable
    · simpa using decodeFrame_whole sendable sent (not_exists.1 early) []
  · exact decodeFrame_short sendable (cut ▸ sent) whole missing

end Sys2Proof.Machine
end

section
/-! ## Proofs: the attention flags and their mask

O45. Flags are set by `raise` alone, so every operation that raises one is followed from where it raises it up to the
commands; what raises none leaves the console's record alone (Sys2Proof/Laws/Frames.lean). -/

namespace Sys2Proof.Machine

-- One elaboration thread: the check's memory limit counts the stack of each.
set_option Elab.async false

/-! ### Flags that stay (R183, R184) -/

/-- The mask stands and every flag that is set stays set. -/
structure FlagsKept (c d : Console) : Prop where
  mask : d.mask = c.mask := by simp
  flags : ∀ k, c.flags.getLsbD k = true → d.flags.getLsbD k = true := by simp

/-- A later state has the mask and all the flags of an earlier one. -/
abbrev AttentionKept (s t : State) : Prop := FlagsKept s.console t.console

section
variable {s t u : State}

theorem AttentionKept.refl (s : State) : AttentionKept s s := {}

theorem AttentionKept.trans (h : AttentionKept s t) (k : AttentionKept t u) : AttentionKept s u :=
  ⟨k.mask.trans h.mask, fun n set => k.flags n (h.flags n set)⟩

/-- What follows and leaves the console's record alone. -/
theorem AttentionKept.same (h : AttentionKept s t) (same : u.console = t.console := by simp) : AttentionKept s u := by
  unfold AttentionKept
  rwa [same]

theorem attentionKept_raise (h : AttentionKept s t) (a : Attention) : AttentionKept s (raise a t) :=
  h.trans { flags := fun k set => by simp [set] }

/-! #### DEFER and the request queue (R68, R69) -/

theorem attentionKept_deferSet (h : AttentionKept s t) : AttentionKept s (deferSet t) := by
  unfold deferSet
  split
  · exact attentionKept_raise h _
  · exact h

theorem attentionKept_joinQueue (h : AttentionKept s t) (w : Work) : AttentionKept s (joinQueue w t) :=
  attentionKept_deferSet h

theorem attentionKept_openStationWork (h : AttentionKept s t) (r : Fin 48) (w : Work) :
    AttentionKept s (openStationWork r w t) :=
  attentionKept_joinQueue (t := changeStation r _ t) h w

theorem attentionKept_openHostWork (h : AttentionKept s t) (w : Work) : AttentionKept s (openHostWork w t) :=
  attentionKept_joinQueue (t := { t with console := { t.console with openRequest := true } }) ⟨h.mask, h.flags⟩ w

theorem attentionKept_writeThresholds (h : AttentionKept s t) (upper lower : Nat) :
    AttentionKept s (writeThresholds upper lower t) :=
  have set := attentionKept_deferSet
    (t := { t with engine := { t.engine with upper := upper, lower := min lower (upper - 1) } }) h
  set.same (by unfold writeThresholds; simp)

/-! #### The engine (R66, R88 to R93) -/

theorem attentionKept_placeResult (h : AttentionKept s t) (kind : HostKind) (outcome : HostOutcome) :
    AttentionKept s (placeResult kind outcome t) :=
  attentionKept_raise (t := { t with console := { t.console with openRequest := false, result := _ } })
    ⟨h.mask, h.flags⟩ .engineDone

theorem attentionKept_closePin (h : AttentionKept s t) (outcome : HostOutcome) : AttentionKept s (closePin outcome t) :=
  attentionKept_placeResult h .pin outcome

theorem attentionKept_beginPin (h : AttentionKept s t) (w : PinWork) (research : Nat) :
    AttentionKept s (beginPin w research t) := by
  unfold beginPin
  split
  · exact attentionKept_closePin h _
  · exact h

theorem attentionKept_retestPin (h : AttentionKept s t) (w : PinWork) (c : SearchContext) :
    AttentionKept s (retestPin w c t) := by
  unfold retestPin
  split
  · exact attentionKept_closePin h _
  · exact h

theorem attentionKept_recordCheckedPin (h : AttentionKept s t) (w : PinWork) :
    AttentionKept s (recordCheckedPin w t) := by
  unfold recordCheckedPin
  split
  · exact attentionKept_closePin h _
  · exact attentionKept_closePin h.same _

theorem attentionKept_completePin (h : AttentionKept s t) (w : PinWork) (c : SearchContext) (afterRetest : Bool) :
    AttentionKept s (completePin w c afterRetest t) := by
  unfold completePin
  split_ifs
  · exact attentionKept_recordCheckedPin h w
  · exact attentionKept_closePin h _
  · exact attentionKept_beginPin h w _
  · exact h

theorem attentionKept_closeAudit (h : AttentionKept s t) (flagged : Nat) : AttentionKept s (closeAudit flagged t) := by
  have placed : AttentionKept s (leaveForeground (placeResult .audit (.count flagged) t)) :=
    attentionKept_placeResult h .audit (.count flagged)
  unfold closeAudit
  dsimp only
  split
  · exact placed
  · exact attentionKept_raise placed _

theorem attentionKept_auditVisit (h : AttentionKept s t) (n flagged : Nat) : AttentionKept s (auditVisit n flagged t) := by
  unfold auditVisit
  split
  · dsimp only
    split
    · exact h.same
    · exact attentionKept_closeAudit h.same _
  · exact h

theorem attentionKept_beginWork (h : AttentionKept s t) (w : Work) : AttentionKept s (beginWork w t) := by
  cases w with
  | request r =>
    show AttentionKept s (beginWalk (.request r) 0 t)
    exact h.same
  | move m =>
    unfold beginWork
    dsimp only
    split <;> exact h.same
  | check k => exact attentionKept_placeResult h _ _
  | pin p => exact attentionKept_beginPin h p 0
  | audit => exact attentionKept_auditVisit h 0 0

theorem attentionKept_takeWork (h : AttentionKept s t) : AttentionKept s (takeWork t) := by
  unfold takeWork
  split
  · split
    · exact h
    · exact attentionKept_beginWork h.same _
  · exact h

theorem attentionKept_abandonWork (h : AttentionKept s t) : AttentionKept s (abandonWork t) := by
  have closed := foldl_ind (AttentionKept s) (fun t r => closeRequest r t) (fun _ _ k => k.same)
    (openStations t.engine) t h
  exact foldl_ind (AttentionKept s) (fun t k => placeResult k .abandoned t)
    (fun _ _ k => attentionKept_placeResult k _ _) (openHostKinds t.engine) _ closed

/-! #### The Lease Timer (R101, R107) -/

theorem attentionKept_tickLease (h : AttentionKept s t) (r : Fin 48) : AttentionKept s (tickLease r t) := by
  unfold tickLease
  split
  · exact h
  · split_ifs
    · exact h
    · exact attentionKept_raise h .stationLapsed
    · exact h.same
    · exact h.same

theorem attentionKept_moveOnward (h : AttentionKept s t) (r : Fin 48) (ch : Fin 64) (i : Fin 384) (o : Owned) :
    AttentionKept s (moveOnward r ch i o t) := by
  unfold moveOnward
  split
  · exact h.same
  · split
    · exact attentionKept_openStationWork h r _
    · exact h.same

theorem attentionKept_handleMove (h : AttentionKept s t) (r : Fin 48) (ch : Fin 64) :
    AttentionKept s (handleMove r ch t) := by
  unfold handleMove
  split
  · exact h.same
  · split
    · exact h.same
    · split
      · exact attentionKept_moveOnward h r ch _ _
      · split
        · exact attentionKept_moveOnward h.same r ch _ _
        · exact h.same

/-! #### The branches (R70, R71, R157, R161 to R164) -/

theorem attentionKept_intakeQueue (h : AttentionKept s t) (r : Fin 48) (st : Station) (ch : Fin 64) (p : Fin 16)
    (phase : Option Phase) (hint : Option Nat) (label : List Byte) :
    AttentionKept s (intakeQueue r st ch p phase hint label t) := by
  have refused : ∀ why, AttentionKept s (refuse r ch why t) := fun _ => h.same
  unfold intakeQueue
  split
  · split_ifs
    · exact refused _
    · exact refused _
    · exact refused _
    · exact refused _
    · exact refused _
    · exact attentionKept_openStationWork h r _
  · exact refused _

theorem attentionKept_handleRequest (h : AttentionKept s t) (r : Fin 48) (profile phase : Byte) (hint : Option Nat)
    (label : List Byte) (ch : Fin 64) : AttentionKept s (handleRequest r profile phase hint label ch t) := by
  unfold handleRequest
  split
  · exact h
  · split
    · exact h.same
    · split_ifs
      · exact h.same
      · exact h.same
      · split
        · split <;> exact h.same
        · exact attentionKept_intakeQueue h r _ ch _ _ hint label

/-- A frame that names a channel, by what its handler keeps. -/
theorem attentionKept_withChannel (h : AttentionKept s t) {r : Fin 48} {ch : Byte} {handle : Fin 64 → State → State}
    (kept : ∀ c, AttentionKept s (handle c t)) : AttentionKept s (withChannel r ch handle t) := by
  unfold withChannel
  split
  · exact kept _
  · exact h.same

theorem attentionKept_routeFrame (h : AttentionKept s t) (r : Fin 48) (f : Frame) : AttentionKept s (routeFrame r f t) := by
  cases f with
  | idle => exact h
  | request ch pr ph hint label => exact attentionKept_withChannel h (attentionKept_handleRequest h r pr ph hint label)
  | release ch => exact attentionKept_withChannel h fun _ => h.same
  | move ch => exact attentionKept_withChannel h (attentionKept_handleMove h r)
  | confirm ch => exact attentionKept_withChannel h fun _ => h.same
  | query ch => exact attentionKept_withChannel h fun _ => h.same
  | changeover force =>
    show AttentionKept s (handleChangeover r force t)
    exact h.same

theorem attentionKept_acceptPoll (h : AttentionKept s t) (b : Fin 4) (p : Poll) (f : Frame) :
    AttentionKept s (acceptPoll b p f t) := by
  unfold acceptPoll
  split
  · exact h.same
  · have routed := attentionKept_routeFrame (t := changeStation p.station (Station.acceptReply p.item) t) h p.station f
    exact routed.same

theorem attentionKept_receiveChar (h : AttentionKept s t) (b : Fin 4) (c : RxChar) :
    AttentionKept s (receiveChar b c t) := by
  unfold receiveChar
  split
  · split
    · exact h.same
    · exact h.same
    · exact attentionKept_acceptPoll h b _ _
  · exact h

theorem attentionKept_faultBranch (h : AttentionKept s t) (b : Fin 4) : AttentionKept s (faultBranch b t) :=
  attentionKept_raise h.same .branchFault

/-! #### The sweep (R139 to R147) -/

theorem attentionKept_confirmForeign (h : AttentionKept s t) (index : Nat) : AttentionKept s (confirmForeign index t) := by
  have reached : ∀ is : List (Fin 384), AttentionKept s
      (is.foldl (fun t i => reachSlot index i t) (raise .foreignNew (advanceEpoch t))) := fun is =>
    foldl_ind (AttentionKept s) (fun t i => reachSlot index i t) (fun _ _ k => k.same) is _
      (attentionKept_raise h.same .foreignNew)
  unfold confirmForeign
  dsimp only
  split
  · exact attentionKept_raise (reached _) _
  · exact reached _

theorem attentionKept_hitEntry (h : AttentionKept s t) (e : ForeignEntry) (level : Nat) :
    AttentionKept s (hitEntry e level t) := by
  unfold hitEntry
  dsimp only
  split
  · exact attentionKept_confirmForeign h.same _
  · exact h.same

theorem attentionKept_hitNew (h : AttentionKept s t) (index level : Nat) : AttentionKept s (hitNew index level t) := by
  unfold hitNew
  dsimp only
  split_ifs
  · exact attentionKept_raise h _
  · exact attentionKept_confirmForeign h.same _
  · exact h.same

theorem attentionKept_decidePoint (h : AttentionKept s t) (index level : Nat) :
    AttentionKept s (decidePoint index level t) := by
  unfold decidePoint
  split
  · exact h
  · split
    · split
      · exact attentionKept_hitEntry h _ level
      · exact h.same
    · split
      · exact attentionKept_hitNew h index level
      · exact h

theorem attentionKept_completePoint (h : AttentionKept s t) (level : Nat) : AttentionKept s (completePoint level t) := by
  have decided := attentionKept_decidePoint
    (t := { t with sweep := { t.sweep with last := some (level, t.sweep.cursor) } }) h t.sweep.cursor level
  unfold completePoint
  exact decided.same

/-! #### The mode requests (R176 to R178) -/

theorem attentionKept_startPart (h : AttentionKept s t) : AttentionKept s (startPart t) := by
  have started := foldl_ind (AttentionKept s) (fun t b => startBranch b t) (fun _ _ k => k.same) (List.finRange 4)
    (setMode .run t) ⟨h.mask, h.flags⟩
  exact (attentionKept_takeWork started).same (by unfold startPart; simp)

theorem attentionKept_stopPart (h : AttentionKept s t) : AttentionKept s (stopPart t) := by
  have stopped := foldl_ind (AttentionKept s) (fun t b => stopPolling b t) (fun _ _ k => k.same) (List.finRange 4)
    (stopTick (abandonWork t)) (attentionKept_abandonWork h).same
  exact ⟨stopped.mask, stopped.flags⟩

theorem attentionKept_clearPart (h : AttentionKept s t) : AttentionKept s (clearPart t) := by
  unfold clearPart
  split
  · exact (attentionKept_stopPart h).same
  · exact (attentionKept_abandonWork h).same

end

/-! ### What a command leads to -/

/-- A record of the console keeps its own flags and mask. -/
@[simp] theorem FlagsKept.refl (c : Console) : FlagsKept c c := {}

section
variable {s u : State}

/-- What is kept is a matter of the two consoles' records. -/
@[simp] theorem attentionKept_iff : AttentionKept s u ↔ FlagsKept s.console u.console := Iff.rfl

/-- A response leaves the flags and the mask alone. -/
@[simp] theorem flagsKept_respond {c : Console} {x : Status} {data : List Byte} :
    FlagsKept c (respond x data u).console ↔ FlagsKept c u.console :=
  ⟨fun h => ⟨h.mask, h.flags⟩, fun h => ⟨h.mask, h.flags⟩⟩

/-- A request carried out. -/
theorem kept_accept (h : AttentionKept s u) (data : List Byte) : leadsTo (AttentionKept s) (accept data u) := by
  simpa using h

/-- A refused request. -/
theorem kept_deny (x : Status) (s : State) : leadsTo (AttentionKept s) (deny x s) := by simp

/-- An event that is not due. -/
theorem kept_idle (s : State) : leadsTo (AttentionKept s) (.next s) := leadsTo_next.2 (.refl s)

/-- An event that is due under a condition, and otherwise changes nothing. -/
theorem kept_due {c : Prop} [Decidable c] (due : AttentionKept s u) :
    leadsTo (AttentionKept s) (if c then .next u else .next s) := by
  split
  · exact leadsTo_next.2 due
  · exact leadsTo_next.2 (.refl s)

/-! #### Plan writes (R6 to R18) -/

theorem kept_undefineProfile (profile : Byte) (s : State) : leadsTo (AttentionKept s) (undefineProfile profile s) := by
  unfold undefineProfile
  split
  · exact kept_deny _ s
  · split <;> simp

theorem kept_writeProfile (profile state : Byte) (low high : Word) (step c p3 p5 : Byte) (s : State) :
    leadsTo (AttentionKept s) (execWriteProfile profile state low high step c p3 p5 s) := by
  unfold execWriteProfile defineProfile
  split
  · split
    · exact kept_deny _ s
    · split_ifs <;> simp
  · split
    · exact kept_undefineProfile profile s
    · exact kept_deny _ s

theorem kept_writeZone (zone : Byte) (zlo zhi : Word) (depth spareProfile : Byte) (clearTime : Word) (s : State) :
    leadsTo (AttentionKept s) (execWriteZone zone zlo zhi depth spareProfile clearTime s) := by
  unfold execWriteZone
  split
  · exact kept_deny _ s
  · split <;> simp

theorem kept_writeCoupling (a b value : Byte) (s : State) : leadsTo (AttentionKept s) (execWriteCoupling a b value s) := by
  unfold execWriteCoupling
  split
  · split <;> simp
  · exact kept_deny _ s

theorem kept_addExclusion (lo hi : Word) (s : State) : leadsTo (AttentionKept s) (execAddExclusion lo hi s) := by
  unfold execAddExclusion
  dsimp only
  split_ifs <;> simp

theorem kept_removeExclusion (lo hi : Word) (s : State) : leadsTo (AttentionKept s) (execRemoveExclusion lo hi s) := by
  unfold execRemoveExclusion
  dsimp only
  split_ifs <;> simp

/-! #### Timing, branch and station requests (R69, R95, R97, R155, R156, R166, R167) -/

theorem kept_writeTimeBase (code : Byte) (s : State) : leadsTo (AttentionKept s) (execWriteTimeBase code s) := by
  unfold execWriteTimeBase
  split
  · exact kept_deny _ s
  · split <;> simp

theorem kept_writeDefer (upper lower : Byte) (s : State) : leadsTo (AttentionKept s) (execWriteDefer upper lower s) := by
  unfold execWriteDefer
  split
  · exact kept_accept (attentionKept_writeThresholds (.refl s) _ _) _
  · exact kept_deny _ s

theorem kept_writeStation (record branch address zone ceiling authority : Byte) (s : State) :
    leadsTo (AttentionKept s) (execWriteStation record branch address zone ceiling authority s) := by
  unfold execWriteStation
  split
  · exact kept_deny _ s
  · split_ifs <;> simp

theorem kept_removeStation (record : Byte) (s : State) : leadsTo (AttentionKept s) (execRemoveStation record s) := by
  unfold execRemoveStation
  split
  · exact kept_deny _ s
  · split
    · exact kept_deny _ s
    · split <;> simp

theorem kept_writeBranch (branch rate turnoff window gap debounce : Byte) (s : State) :
    leadsTo (AttentionKept s) (execWriteBranch branch rate turnoff window gap debounce s) := by
  unfold execWriteBranch
  split
  · exact kept_deny _ s
  · split
    · exact kept_deny _ s
    · split
      · split <;> simp
      · exact kept_deny _ s

theorem kept_branchEnable (branch : Byte) (s : State) : leadsTo (AttentionKept s) (execBranchEnable branch s) := by
  unfold execBranchEnable
  split
  · exact kept_deny _ s
  · split <;> simp

theorem kept_branchDisable (branch : Byte) (s : State) : leadsTo (AttentionKept s) (execBranchDisable branch s) := by
  unfold execBranchDisable
  split
  · exact kept_deny _ s
  · split <;> simp

/-! #### Records and console engine work (R33, R37, R72, R117) -/

theorem kept_queueHostWork (w : Work) (s : State) : leadsTo (AttentionKept s) (queueHostWork w s) := by
  unfold queueHostWork
  split
  · exact kept_deny _ s
  · exact kept_accept (attentionKept_openHostWork (.refl s) w) _

theorem kept_queueCheckedPin (index : Word) (profile zone : Byte) (label : List Byte) (s : State) :
    leadsTo (AttentionKept s) (queueCheckedPin index profile zone label s) := by
  unfold queueCheckedPin
  split
  · exact kept_deny _ s
  · split
    · exact kept_queueHostWork _ s
    · exact kept_deny _ s

theorem kept_pinUnchecked (index : Word) (profile zone : Byte) (label : List Byte) (s : State) :
    leadsTo (AttentionKept s) (pinUnchecked index profile zone label s) := by
  unfold pinUnchecked
  split
  · exact kept_deny _ s
  · split
    · split <;> simp
    · exact kept_deny _ s

theorem kept_pin (index : Word) (profile zone checkFlag : Byte) (label : List Byte) (s : State) :
    leadsTo (AttentionKept s) (execPin index profile zone checkFlag label s) := by
  unfold execPin
  split
  · exact kept_pinUnchecked index profile zone label s
  · split
    · exact kept_queueCheckedPin index profile zone label s
    · exact kept_deny _ s

theorem kept_check (index : Word) (profile zone : Byte) (s : State) :
    leadsTo (AttentionKept s) (execCheck index profile zone s) := by
  unfold execCheck
  split
  · exact kept_deny _ s
  · exact kept_queueHostWork _ s

theorem kept_retire (slot : Word) (s : State) : leadsTo (AttentionKept s) (execRetire slot s) := by
  unfold execRetire
  split
  · exact kept_deny _ s
  · split <;> simp

theorem kept_changeover (zone force : Byte) (s : State) : leadsTo (AttentionKept s) (execChangeover zone force s) := by
  unfold execChangeover
  split
  · exact kept_deny _ s
  · split
    · exact kept_deny _ s
    · rename_i turned
      obtain ⟨-, -, -, -, -, -, -, -, -, -, -, console, -⟩ := changeoverZone_frame _ _ _ _ _ turned
      exact kept_accept (AttentionKept.same (.refl s) (by simp [console])) _

/-! #### The sweep and the mode (R135, R136, R150, R176 to R178) -/

theorem kept_writeSweep (lo hi : Word) (step settle threshold hysteresis k m e gap : Byte) (offset : Word24)
    (scale : Byte) (s : State) :
    leadsTo (AttentionKept s) (execWriteSweep lo hi step settle threshold hysteresis k m e gap offset scale s) := by
  unfold execWriteSweep
  dsimp only
  split_ifs <;> simp

theorem kept_dropForeign (index : Word) (s : State) : leadsTo (AttentionKept s) (execDropForeign index s) := by
  unfold execDropForeign
  split
  · exact kept_deny _ s
  · split <;> simp

theorem kept_start (s : State) : leadsTo (AttentionKept s) (execStart s) := by
  unfold execStart
  split
  · exact kept_accept (.refl s) _
  · exact kept_accept (attentionKept_startPart (.refl s)) _

theorem kept_stop (s : State) : leadsTo (AttentionKept s) (execStop s) := by
  unfold execStop
  split
  · exact kept_accept (attentionKept_stopPart (.refl s)) _
  · exact kept_accept (.refl s) _

/-! #### Events (R74 to R76, R89, R90, R101, R139, R160) -/

theorem kept_lapse (r : Fin 48) (s : State) : leadsTo (AttentionKept s) (execLapse r s) := by
  unfold execLapse
  split
  · exact kept_due (attentionKept_tickLease (.refl s) r)
  · exact kept_idle s

theorem kept_poll (b : Fin 4) (s : State) : leadsTo (AttentionKept s) (execPoll b s) := by
  unfold execPoll
  split
  · split
    · split <;> simp
    · exact kept_idle s
  · exact kept_idle s

theorem kept_searchCompletion (s : State) : leadsTo (AttentionKept s) (execSearchCompletion s) := by
  unfold execSearchCompletion
  split
  · split <;> simp
  · exact kept_idle s

/-- A refill may start after a change of the engine's work. -/
theorem kept_refilled (h : AttentionKept s u) : leadsTo (AttentionKept s) (.next (startRefill u)) :=
  leadsTo_next.2 h.same

theorem kept_reTest (s : State) : leadsTo (AttentionKept s) (execReTest s) := by
  unfold execReTest
  split
  · split
    · exact kept_refilled (attentionKept_retestPin (.refl s) _ _)
    · exact kept_idle s
  · split
    · split <;> simp
    · exact kept_idle s

theorem kept_checkedPinCompletion (s : State) : leadsTo (AttentionKept s) (execCheckedPinCompletion s) := by
  have completed : ∀ w c r, leadsTo (AttentionKept s) (.next (startRefill (completePin w c r s))) := fun w c r =>
    kept_refilled (attentionKept_completePin (.refl s) w c r)
  unfold execCheckedPinCompletion
  split
  · split
    · exact completed _ _ _
    · exact completed _ _ _
    · exact kept_idle s
    · exact kept_idle s
  · exact kept_idle s

theorem kept_auditVisit (s : State) : leadsTo (AttentionKept s) (execAuditVisit s) := by
  unfold execAuditVisit
  split
  · exact kept_refilled (attentionKept_auditVisit (.refl s) _ _)
  · exact kept_idle s

theorem kept_conversionComplete (rssi refLow refHigh : Nat) (s : State) :
    leadsTo (AttentionKept s) (execConversionComplete rssi refLow refHigh s) := by
  unfold execConversionComplete
  split
  · exact kept_refilled (attentionKept_completePoint (t := showFree s) (.refl s) _)
  · exact kept_idle s

/-! ### Every command -/

/-- Every command but a reset, READ ATTENTION and WRITE MASK leaves the flags set and the mask as it is. -/
theorem exec_attentionKept {c : Instr} (running : c ≠ .hardwareReset) (unread : c ≠ .readAttention)
    (unmasked : ∀ mask, c ≠ .writeMask mask) (s : State) : leadsTo (AttentionKept s) (exec c s) := by
  have unchanged : ∀ data, leadsTo (AttentionKept s) (accept data s) := kept_accept (.refl s)
  have event : ∀ {u : State}, AttentionKept s u → leadsTo (AttentionKept s) (.next u) := leadsTo_next.2
  cases c with
  | hardwareReset => exact absurd rfl running
  | readAttention => exact absurd rfl unread
  | writeMask mask => exact absurd rfl (unmasked mask)
  | writeProfile p st l h sp c p3 p5 => exact kept_writeProfile p st l h sp c p3 p5 s
  | writeProfileUndefined p => exact kept_undefineProfile p s
  | writeZone z l h d sp t => exact kept_writeZone z l h d sp t s
  | writeCoupling a b v => exact kept_writeCoupling a b v s
  | addExclusion l h => exact kept_addExclusion l h s
  | removeExclusion l h => exact kept_removeExclusion l h s
  | writeTimeBase code => exact kept_writeTimeBase code s
  | writeHold h => exact kept_accept (u := { s with timing := { s.timing with hold := h.toNat } }) (.refl s) _
  | writeDefer u l => exact kept_writeDefer u l s
  | writeStation r b a z ce au => exact kept_writeStation r b a z ce au s
  | removeStation r => exact kept_removeStation r s
  | writeBranch b r t w g d => exact kept_writeBranch b r t w g d s
  | branchEnable b => exact kept_branchEnable b s
  | branchDisable b => exact kept_branchDisable b s
  | pin i p z ck l => exact kept_pin i p z ck l s
  | checkedPin i p z l => exact kept_queueCheckedPin i p z l s
  | retire i => exact kept_retire i s
  | changeover z f => exact kept_changeover z f s
  | check i p z => exact kept_check i p z s
  | audit => exact kept_queueHostWork .audit s
  | writeSweep l h st se t hy k m e g o sc => exact kept_writeSweep l h st se t hy k m e g o sc s
  | sweepStop => exact kept_accept (u := { s with sweep := { s.sweep with activity := none } }) (.refl s) _
  | dropForeign i => exact kept_dropForeign i s
  | start => exact kept_start s
  | stop => exact kept_stop s
  | clear => exact kept_accept (attentionKept_clearPart (.refl s)) _
  | listExclusions | readGuards | readTiming | readCounts | readForeign => exact unchanged _
  | readSweep | readResult => exact kept_accept (u := showFree s) (.refl s) _
  | chipSelectReleasedEarly received => exact event ⟨rfl, fun _ => id⟩
  | leaseCounterDecrement r => exact event (attentionKept_tickLease (.refl s) r)
  | lapse r => exact kept_lapse r s
  | holdCounterDecrement i => exact event (AttentionKept.same (u := tickHold i s) (.refl s))
  | moveCounterDecrement i => exact event (AttentionKept.same (u := tickMove i s) (.refl s))
  | clearTimerDecrement z => exact event (AttentionKept.same (u := tickClear z s) (.refl s))
  | poll b => exact kept_poll b s
  | turnoffDelayEnd b => exact kept_due (AttentionKept.same (.refl s))
  | replyAccepted b ch | replyFailed b ch | strayCharacter b ch | replyCharacterReceived b ch =>
    exact event (attentionKept_receiveChar (.refl s) b ch)
  | branchFault b => exact kept_due (attentionKept_faultBranch (.refl s) b)
  | branchFaultRecovery b => exact kept_due (AttentionKept.same (.refl s))
  | validReplyNotice r => exact event (AttentionKept.same (u := takeReplyNotice r s) (.refl s))
  | engineTake => exact kept_refilled (attentionKept_takeWork (.refl s))
  | searchCompletion => exact kept_searchCompletion s
  | reTest => exact kept_reTest s
  | checkedPinCompletion => exact kept_checkedPinCompletion s
  | auditVisit => exact kept_auditVisit s
  | writeGuards | writeLease | writeMoveTime | sweepStart | readProfile | readZone | readCoupling | readStation |
    readBranch | readEntry | readEntries | unknownRequestCode | tick | replyWindowExpired | replyGapTimeout |
    roundGapEnd | tuneLatch | settleEnd | passGapEnd =>
    simp only [exec, execWriteGuards, execWriteLease, execWriteMoveTime, execSweepStart, execReadProfile,
      execReadZone, execReadCoupling, execReadStation, execReadBranch, execReadEntry, execReadEntries,
      execUnknownRequestCode, execTick, execReplyWindowExpired, execReplyGapTimeout, execRoundGapEnd, execTuneLatch,
      execSettleEnd, execPassGapEnd]
    split <;> simp
  | holdExpiry | moveLapse | clearTimerExpiry | quietWaitEnd | candidateEvaluation =>
    simp only [exec, execHoldExpiry, execMoveLapse, execClearTimerExpiry, execQuietWaitEnd, execCandidateEvaluation]
    split
    · exact kept_due (AttentionKept.same (.refl s))
    · exact kept_idle s
  | conversionComplete a b d => exact kept_conversionComplete a b d s
  | lineTransition b level => exact event (AttentionKept.same (u := changeBranch b (Branch.lineChanges level) s) (.refl s))

end

/-! ### ATTN (R185) -/

/-- ATTN is driven low exactly while a flag is set whose mask bit is 0. -/
theorem attnLow_iff (s : State) :
    attnLow s = true ↔ ∃ k < 8, s.console.flags.getLsbD k = true ∧ s.console.mask.getLsbD k = false := by
  have bit : ∀ k < 8, (s.console.flags &&& ~~~s.console.mask).getLsbD k =
      (s.console.flags.getLsbD k && !s.console.mask.getLsbD k) := fun k hk => by
    rw [BitVec.getLsbD_and, BitVec.getLsbD_not, decide_eq_true hk, Bool.true_and]
  unfold attnLow
  rw [decide_eq_true_eq, BitVec.ofNat_eq_ofNat]
  refine ⟨fun driven => ?_, ?_⟩
  · by_contra none
    refine driven (BitVec.eq_of_getLsbD_eq fun k hk => ?_)
    rw [bit k hk, BitVec.getLsbD_zero, ← Bool.not_eq_true, Bool.and_eq_true, Bool.not_eq_true']
    exact fun shown => none ⟨k, hk, shown⟩
  · rintro ⟨k, hk, flag, mask⟩ none
    have shown := bit k hk
    rw [none, flag, mask, BitVec.getLsbD_zero] at shown
    cases shown

/-- Settles O45: READ ATTENTION and WRITE MASK by their equations, and what every other command keeps. -/
theorem attentionFlagsStayUntilTheyAreRead : Obligations.AttentionFlagsStayUntilTheyAreRead := by
  refine ⟨fun s => rfl, fun mask s => rfl, attnLow_iff, fun c s t run running => ⟨fun unread => ?_, fun unmasked => ?_⟩⟩
  · by_cases masked : ∃ mask, c = .writeMask mask
    · obtain ⟨mask, rfl⟩ := masked
      cases run
      exact fun k set => set
    · exact (exec_attentionKept running unread (not_exists.1 masked) s t run).flags
  · by_cases read : c = .readAttention
    · subst read
      cases run
      rfl
    · exact (exec_attentionKept running read unmasked s t run).mask

end Sys2Proof.Machine
end

section
/-! ## Proofs: every command completes

What it is for an outcome to complete, said once (`Completes`); then the meanings that hand over to another meaning or check
more than two things, one by one, and last every command, grouped by the shape of its meaning. That an operation leaves the
queue of waiting commands alone is the last part of its law in Laws/Frames. -/

namespace Sys2Proof.Machine

-- One elaboration thread: the check's memory limit counts the stack of each.
set_option Elab.async false

/-! ### Outcomes that complete -/

/-- The outcome is a next state with the same commands waiting as in the given state. -/
def Completes (s : State) (o : Host.Outcome State Fault Refusal) : Prop := ∃ t, o = .next t ∧ t.pending = s.pending

section
variable {s u : State}

/-- A next state. -/
@[simp] theorem completes_next : Completes s (.next u) ↔ u.pending = s.pending :=
  ⟨fun ⟨_, next, same⟩ => by cases next; exact same, fun same => ⟨u, rfl, same⟩⟩

/-- A request carried out. -/
@[simp] theorem completes_accept {data : List Byte} : Completes s (accept data u) ↔ u.pending = s.pending :=
  completes_next

/-- A denied request (R173). -/
@[simp] theorem completes_deny {x : Status} : Completes s (deny x s) := completes_next.2 rfl

/-- An event that is due under a condition, and otherwise changes nothing. -/
theorem completes_due {c : Prop} [Decidable c] (due : u.pending = s.pending) :
    Completes s (if c then .next u else .next s) := by
  split
  · exact completes_next.2 due
  · exact completes_next.2 rfl

end

section
variable (s : State)

/-! ### Profiles (R6, R8) -/

theorem undefineProfile_completes (profile : Byte) : Completes s (undefineProfile profile s) := by
  unfold undefineProfile
  split
  · exact completes_deny
  · split <;> simp

theorem defineProfile_completes (profile : Byte) (low high : Word) (step c p3 p5 : Byte) :
    Completes s (defineProfile profile low high step c p3 p5 s) := by
  unfold defineProfile
  split
  · exact completes_deny
  · split_ifs <;> simp

theorem execWriteProfile_completes (profile state : Byte) (low high : Word) (step c p3 p5 : Byte) :
    Completes s (execWriteProfile profile state low high step c p3 p5 s) := by
  unfold execWriteProfile
  split_ifs
  · exact defineProfile_completes s profile low high step c p3 p5
  · exact undefineProfile_completes s profile
  · exact completes_deny

/-! ### Stations and branches (R155, R166, R167) -/

theorem execWriteStation_completes (record branch address zone ceiling authority : Byte) :
    Completes s (execWriteStation record branch address zone ceiling authority s) := by
  unfold execWriteStation
  split
  · exact completes_deny
  · split_ifs <;> simp

theorem execRemoveStation_completes (record : Byte) : Completes s (execRemoveStation record s) := by
  unfold execRemoveStation
  split
  · exact completes_deny
  · split
    · exact completes_deny
    · split <;> simp

theorem execWriteBranch_completes (branch rate turnoff window gap debounce : Byte) :
    Completes s (execWriteBranch branch rate turnoff window gap debounce s) := by
  unfold execWriteBranch
  split
  · exact completes_deny
  · split
    · exact completes_deny
    · split
      · split <;> simp
      · exact completes_deny

/-! ### Pins, console work and changeovers (R33, R72, R117) -/

theorem queueHostWork_completes (w : Work) : Completes s (queueHostWork w s) := by
  unfold queueHostWork
  split <;> simp

theorem queueCheckedPin_completes (index : Word) (profile zone : Byte) (label : List Byte) :
    Completes s (queueCheckedPin index profile zone label s) := by
  unfold queueCheckedPin
  split
  · exact completes_deny
  · split
    · exact queueHostWork_completes s _
    · exact completes_deny

theorem pinUnchecked_completes (index : Word) (profile zone : Byte) (label : List Byte) :
    Completes s (pinUnchecked index profile zone label s) := by
  unfold pinUnchecked
  split
  · exact completes_deny
  · split
    · split <;> simp
    · exact completes_deny

theorem execPin_completes (index : Word) (profile zone checkFlag : Byte) (label : List Byte) :
    Completes s (execPin index profile zone checkFlag label s) := by
  unfold execPin
  split_ifs
  · exact pinUnchecked_completes s index profile zone label
  · exact queueCheckedPin_completes s index profile zone label
  · exact completes_deny

theorem execCheck_completes (index : Word) (profile zone : Byte) : Completes s (execCheck index profile zone s) := by
  unfold execCheck
  split
  · exact completes_deny
  · exact queueHostWork_completes s _

theorem execChangeover_completes (zone force : Byte) : Completes s (execChangeover zone force s) := by
  unfold execChangeover
  split
  · exact completes_deny
  · split
    · exact completes_deny
    · rename_i turned
      obtain ⟨-, -, -, -, -, -, -, -, -, -, -, -, -, same⟩ := changeoverZone_frame _ _ _ _ _ turned
      simp [same]

/-! ### Polls and re-tests (R76, R160) -/

theorem execPoll_completes (b : Fin 4) : Completes s (execPoll b s) := by
  unfold execPoll
  split
  · split
    · split <;> simp
    · exact completes_next.2 rfl
  · exact completes_next.2 rfl

theorem execReTest_completes : Completes s (execReTest s) := by
  unfold execReTest
  split
  · split <;> simp
  · split
    · split <;> simp
    · exact completes_next.2 rfl

/-! ### Every command -/

/-- Every command completes in every state. -/
theorem exec_completes (c : Instr) : Completes s (exec c s) := by
  cases c with
  | writeProfile p st l h sp c p3 p5 => exact execWriteProfile_completes s p st l h sp c p3 p5
  | writeProfileUndefined p => exact undefineProfile_completes s p
  | writeStation r b a z ce au => exact execWriteStation_completes s r b a z ce au
  | removeStation r => exact execRemoveStation_completes s r
  | writeBranch b r t w g d => exact execWriteBranch_completes s b r t w g d
  | pin i p z ck l => exact execPin_completes s i p z ck l
  | checkedPin i p z l => exact queueCheckedPin_completes s i p z l
  | changeover z f => exact execChangeover_completes s z f
  | check i p z => exact execCheck_completes s i p z
  | audit => exact queueHostWork_completes s .audit
  | poll b => exact execPoll_completes s b
  | reTest => exact execReTest_completes s
  | listExclusions | readGuards | readTiming | readCounts | readForeign | readResult | readSweep | readAttention |
    writeHold | writeMask | sweepStop => exact completes_accept.2 rfl
  | clear => exact completes_accept.2 (by simp)
  | hardwareReset | chipSelectReleasedEarly => exact completes_next.2 rfl
  | leaseCounterDecrement | holdCounterDecrement | moveCounterDecrement | clearTimerDecrement | replyAccepted |
    replyFailed | strayCharacter | replyCharacterReceived | validReplyNotice | engineTake | lineTransition =>
    exact completes_next.2 (by simp)
  | turnoffDelayEnd | branchFault | branchFaultRecovery => exact completes_due (by simp)
  | addExclusion | removeExclusion | writeSweep =>
    simp only [exec, execAddExclusion, execRemoveExclusion, execWriteSweep]
    split_ifs <;> simp
  | readProfile | readZone | readCoupling | readStation | readBranch | readEntry | readEntries | writeGuards |
    writeLease | writeMoveTime | writeDefer | sweepStart | start | stop | unknownRequestCode =>
    simp only [exec, execReadProfile, execReadZone, execReadCoupling, execReadStation, execReadBranch, execReadEntry,
      execReadEntries, execWriteGuards, execWriteLease, execWriteMoveTime, execWriteDefer, execSweepStart, execStart,
      execStop, execUnknownRequestCode]
    split <;> simp
  | tick | replyWindowExpired | replyGapTimeout | roundGapEnd | auditVisit | tuneLatch | settleEnd |
    conversionComplete | passGapEnd =>
    simp only [exec, execTick, execReplyWindowExpired, execReplyGapTimeout, execRoundGapEnd, execAuditVisit,
      execTuneLatch, execSettleEnd, execConversionComplete, execPassGapEnd]
    split <;> simp
  | writeZone | writeTimeBase | branchEnable | branchDisable | retire | dropForeign =>
    simp only [exec, execWriteZone, execWriteTimeBase, execBranchEnable, execBranchDisable, execRetire, execDropForeign]
    split
    · exact completes_deny
    · split <;> simp
  | writeCoupling | searchCompletion | checkedPinCompletion =>
    simp only [exec, execWriteCoupling, execSearchCompletion, execCheckedPinCompletion]
    split
    · split <;> simp
    · simp
  | lapse | holdExpiry | moveLapse | clearTimerExpiry | quietWaitEnd | candidateEvaluation =>
    simp only [exec, execLapse, execHoldExpiry, execMoveLapse, execClearTimerExpiry, execQuietWaitEnd,
      execCandidateEvaluation]
    split
    · exact completes_due (by simp)
    · exact completes_next.2 rfl

end

/-- Settles O2: no meaning ends in a fault or a refusal, and none writes the queue of waiting commands. -/
theorem everyCommandCompletes : Obligations.EveryCommandCompletes := fun c s => exec_completes s c

end Sys2Proof.Machine
end
